-- ==== Sys2Proof/Word.lean ====
section
/-!
DEFINITION. The words of the AX9600 (spec R7, R8): bytes, the 32-bit words of registers and signal
points, and the plain arithmetic on them that nothing could change.
-/
namespace Sys2Proof

/-- One byte, as the device writes it to host memory or keeps it in a byte-addressed memory. -/
abbrev Byte := BitVec 8

/-- One 32-bit word: a signal point, or a binary32 value by its bits (R8). -/
abbrev Word := BitVec 32

end Sys2Proof
end

