-- ==== Sys2Proof/Machine/Tbl.lean ====
section
/-!
DEFINITION. Sparse tables: lists of (key, value) pairs in one canonical form, keys strictly rising
and no entry equal to what an unlisted key reads as. Every memory of the model and every family of
like units is held so; reading and writing one entry is defined here and nowhere else.
-/
namespace Sys2Proof.Machine

/-- A sparse table: the listed keys with their values. -/
abbrev Tbl (α : Type) := List (Nat × α)

variable {α : Type}

/-- The listed value at key k, if there is one. -/
def tget : Tbl α → Nat → Option α
  | [], _ => none
  | (k', v) :: t, k => if k = k' then some v else tget t k

/-- The value at key k, d where the key is not listed. -/
def tgetD (t : Tbl α) (k : Nat) (d : α) : α := (tget t k).getD d

/-- The table with key k removed. -/
def tdel : Tbl α → Nat → Tbl α
  | [], _ => []
  | (k', v) :: t, k => if k = k' then tdel t k else (k', v) :: tdel t k

/-- The table with an entry put in before the first greater key. -/
def tadd : Tbl α → Nat → α → Tbl α
  | [], k, v => [(k, v)]
  | (k', v') :: t, k, v => if k < k' then (k, v) :: (k', v') :: t else (k', v') :: tadd t k v

/-- The table with v listed at key k. -/
def tins (t : Tbl α) (k : Nat) (v : α) : Tbl α := tadd (tdel t k) k v

/-- Write v at key k where an unlisted key reads as d: the entry goes when v is d. -/
def tput [DecidableEq α] (t : Tbl α) (k : Nat) (v d : α) : Tbl α :=
  if v = d then tdel t k else tins t k v

/-- Every listed key is above b, and the keys rise strictly. -/
def tabove : Tbl α → Nat → Bool
  | [], _ => true
  | (k, _) :: t, b => decide (b < k) && tabove t k

/-- The keys rise strictly. -/
def tsorted : Tbl α → Bool
  | [] => true
  | (k, _) :: t => tabove t k

/-- The canonical form: keys strictly rising, and no entry equal to what its unlisted key reads as. -/
def twf [DecidableEq α] (t : Tbl α) (d : Nat → α) : Bool :=
  tsorted t && t.all (fun p => decide (p.2 ≠ d p.1))

/-- Keep the entries whose keys p admits. -/
def tkeep (t : Tbl α) (p : Nat → Bool) : Tbl α := t.filter (fun e => p e.1)

end Sys2Proof.Machine
end

