-- ==== Sys2Proof/Machine/AdcTypes.lean ====
section
/-!
DEFINITION. What the SAR cores, the timers, the sinc filters and system calibration hold beside their
registers (spec 07). Times are instants of State.now, in h; `dt…` are device times in ns.
-/
namespace Sys2Proof.Machine

/-- The voltages of a conversion at its sampling instant, in nV: the input AINi, and ACM00 to ACM17 (R457). -/
structure AinVolt where
  ain : Int
  acm : List Int := []
  deriving DecidableEq, Repr

/-- What a trigger reads of its sequence when it is accepted (R163): FIRST, LEN and the burst length; `epoch` counts the
returns of the position to FIRST that came before. -/
structure SeqRead where
  first : Nat := 0
  len : Nat := 1
  burst : Nat := 1
  epoch : Nat := 0
  deriving DecidableEq, Repr

/-- A sequence: its position, the end of its delay counter, a count of the PWM time base (R161), with what its trigger
read, and, where a burst of it waits for the core or runs, what the trigger of that burst read; the returns of the
position to FIRST, and where the position stood at those that a burst accepted earlier still outlives. -/
structure SeqSt where
  pos : Nat := 0
  epoch : Nat := 0
  olds : List (Nat × Nat) := []
  due : Option Nat := none
  cfg : SeqRead := {}
  waiting : Bool := false
  use : SeqRead := {}
  deriving DecidableEq, Repr

/-- The burst that runs on a core: its sequence, the slots left with the present one, the start of the present
slot, its INPUT and DWELL, the DT of its sampling instant; `held` says that the slot waits for a credit,
`first` that it is slot 0 of the burst. -/
structure BurstSt where
  seq : Nat
  left : Nat
  at_ : Nat
  input : Nat
  dwell : Nat
  held : Bool
  first : Bool := false
  deriving DecidableEq, Repr

/-- A SAR core: the running burst, since when it has been idle, the end of its start-up, the start of the Hoe conversion
that is in progress (R169). -/
structure CoreSt where
  burst : Option BurstSt := none
  idleAt : Nat := 0
  wakeAt : Option Nat := none
  hoe : Option Nat := none
  deriving DecidableEq, Repr

/-- A result on its way to the signal store: channel (0–159 AIN, 160–175 SDI), value, raw code as stored,
DT tag. -/
structure AdcRes where
  chan : Nat
  value : Nat
  raw : Nat
  tag : Nat
  deriving DecidableEq, Repr

/-- A timer: its next expiry as a count of the PWM time base (R164), or that it waits for a START of its brick. -/
structure TmrSt where
  next : Option Nat := none
  wait : Bool := false
  deriving DecidableEq, Repr

/-- A ΣΔ input. The filter: its integrators and the last outputs its combs remember, the bits of the decimation interval
in hand, the results still to discard, the result its output stage holds, the results on their way that come from before
the last restart, and the instant of the SYNC that last restarted it (R306). The link checks (R176): the last bit and how
many equal ones it ends, the bits of the block that is to clear STUCK and whether it has both values; bit errors and good
bits in a row. The Manchester decoder: the level of the last sample, whether the mid-bit phase is found, and the time since
the last mid-bit transition and since the last transition, both in 2.5 ns · kbit/s. -/
structure SdSt where
  ints : List Int := []
  combs : List Int := []
  cnt : Nat := 0
  skip : Nat := 0
  held : List AdcRes := []
  old : Nat := 0
  synced : Option Nat := none
  last : Bool := false
  run : Nat := 0
  blk : Nat := 0
  mixed : Bool := false
  errs : Nat := 0
  good : Nat := 0
  level : Bool := false
  found : Bool := false
  since : Nat := 0
  quiet : Nat := 0
  deriving DecidableEq, Repr

/-- The averages of a calibration step in progress: results, sum, least and greatest, and its start. -/
structure CalSt where
  n : Nat := 0
  sum : Int := 0
  lo : Int := 0
  hi : Int := 0
  at_ : Nat := 0
  deriving DecidableEq, Repr

end Sys2Proof.Machine
end

