-- ==== Sys2Proof/Machine/ClkTypes.lean ====
section
/-!
DEFINITION. What the clock unit, the PTP port and the MACs hold beside their registers (spec 19 and 20), and the PTP
messages. Times are instants of State.now, in h; `dt…` are device times in ns.
-/
namespace Sys2Proof.Machine

/-- The clock unit: the search that runs (entry, ring of CLK_SEARCH) and those that wait for a hop; the hop that is
pending (entry, ring, instant of acceptance) and those that wait for a search; what the NVM log keeps of an entry
(MODE, WIDTH, MOD_HZ, CODE). `base` is the last epoch point taken, where the spread triangle restarted: its instant and the
count of the PWM time base there in 1/64 t; `plan` the phase steps to be made from there on, positive ones lengthening
(R426), and `carry` the part of a step left over, in steps × secH; `epochAt` the count, in 1/32 t, of that epoch point;
`err` the error found there in 1/128 ns; the steps of the present second with its start, and the steps per second of the
second before; `steps` counts the steps of DT (R431). -/
structure ClkSt where
  search : Option (Nat × Option Nat) := none
  searchWait : List (Nat × Nat) := []
  hop : Option (Nat × Nat × Nat) := none
  hopWait : List (Nat × Nat) := []
  log : Tbl (List Nat) := []
  base : Nat × Nat := (0, 0)
  plan : Int := 0
  carry : Int := 0
  epochAt : Option Nat := none
  err : Int := 0
  secSteps : Int := 0
  secAt : Nat := 0
  rate : Int := 0
  steps : Nat := 0
  deriving DecidableEq, Repr

/-- What a clock-output ball carries: a level, the clock, or its complement. -/
inductive OutBall where
  | low
  | high
  | clock
  | inverted
  deriving DecidableEq, Repr

/-- What an Announce message says of its master: the six figures that the best-master algorithm compares, in their
order, the clock identity last. -/
abbrev PtpClock := List Nat

/-- A PTP message, with times in ns and corrections already in them: Sync with its origin time (one-step), Sync that a
Follow_Up completes, Follow_Up with the origin time, Delay_Resp with the master's receive time, Pdelay_Resp with the
peer's turnaround, a request for a delay, Announce. -/
inductive PtpMsg where
  | sync (t1 : Nat)
  | syncTwo (seq : Nat)
  | followUp (seq t1 : Nat)
  | delayResp (t4 : Nat)
  | pdelayResp (turn : Nat)
  | delayReq
  | pdelayReq
  | announce (gm : PtpClock)
  deriving DecidableEq, Repr

/-- A PTP message as it comes: its domainNumber, its transport (IEEE 802.3, or UDP to an IPv4 address, 0 for the PTP
multicast addresses), whether it carries the TLVs of C37.238, its content. -/
structure PtpPdu where
  domain : Nat
  l2 : Bool
  ip : Nat
  tlv : Bool
  msg : PtpMsg
  deriving DecidableEq, Repr

/-- A message the port has sent: its messageType of IEEE 1588-2019, MAC, domainNumber, transport, source IPv4 address, and
whether it carries the TLVs of C37.238. -/
structure PtpOut where
  kind : Nat
  mac : Nat
  domain : Nat
  l2 : Bool
  ip : Nat
  tlv : Bool
  deriving DecidableEq, Repr

/-- The messages the port sends at its log intervals. -/
inductive PtpTx where
  | sync | announce | delayReq | pdelayReq
  deriving DecidableEq, Repr

/-- The PTP port. `good` counts the consecutive Syncs or edges within LOCK_NS; `syncAt` and `annAt` the last Sync or
edge and the last Announce; `two` a two-step Sync (sequence, DT of receipt); `last` the times t1, t2 of the last Sync;
`dtReq` the egress time of the last delay request; `masters` the masters heard, each with the instant of its last Announce;
`best` the best of them; `ppsAt` the last rise of PPS_OUT; `edgeAt` the last
edge of PPS_IN; `sent` the instant each message was last sent, and `tx` the last message sent. -/
structure PtpSt where
  good : Nat := 0
  syncAt : Option Nat := none
  annAt : Nat := 0
  two : Option (Nat × Nat) := none
  last : Nat × Nat := (0, 0)
  dtReq : Option Nat := none
  masters : List (PtpClock × Nat) := []
  best : Option PtpClock := none
  ppsAt : Option Nat := none
  edgeAt : Option Nat := none
  sent : Tbl Nat := []
  tx : Option PtpOut := none
  deriving DecidableEq, Repr

/-- The MDIO master: the access in progress (write, PHY, register, data, start). -/
structure EthSt where
  mdio : Option (Bool × Nat × Nat × Nat × Nat) := none
  deriving DecidableEq, Repr

end Sys2Proof.Machine
end

