-- ==== Sys2Proof/Machine/Types.lean ====
section
/-!
DEFINITION. The named alternatives the spec gives the machine: variants, modes, causes, contactor
states, and the small records that travel through its queues.
-/
namespace Sys2Proof.Machine

/-- The four variants of Table 0.1. -/
inductive Variant where
  | A | N | M | S
  deriving DecidableEq, Repr

/-- GLB.REV.VARIANT (Table 20.3). -/
def Variant.code : Variant → Nat
  | .A => 0
  | .N => 1
  | .M => 2
  | .S => 3

/-- GLB.UNITS (Table 20.4). -/
def Variant.units : Variant → Nat
  | .A => 0x01FFFFFF
  | .N => 0x01FFFBFF
  | .M => 0x01FFF7FF
  | .S => 0x01FEFFFF

/-- The modes of Table 2.2. -/
inductive Mode where
  | keepalive | wake | standby | prestart | follow | form | dawn | ride | cease | safestop | service
  | factory
  deriving DecidableEq, Repr

def Mode.code : Mode → Nat
  | .keepalive => 0
  | .wake => 1
  | .standby => 2
  | .prestart => 3
  | .follow => 4
  | .form => 5
  | .dawn => 6
  | .ride => 7
  | .cease => 8
  | .safestop => 9
  | .service => 10
  | .factory => 11

/-- The mode a code of Table 2.2 names. -/
def Mode.ofCode : Nat → Option Mode
  | 0 => some .keepalive
  | 1 => some .wake
  | 2 => some .standby
  | 3 => some .prestart
  | 4 => some .follow
  | 5 => some .form
  | 6 => some .dawn
  | 7 => some .ride
  | 8 => some .cease
  | 9 => some .safestop
  | 10 => some .service
  | 11 => some .factory
  | _ => none

/-- The causes of Table 2.4. -/
inductive Cause where
  | powerOn | hostRequest | readyComplete | checkFailed | prestartTimeout | rideCondition
  | momentaryCessation | protectionTrip | island | safetyDemand | safetyReset | returnConditions
  | dawnAuto | hostLost | supplyLoss | deviceRestart | bringupTimeout | factoryKey
  deriving DecidableEq, Repr

def Cause.code : Cause → Nat
  | .powerOn => 0x00
  | .hostRequest => 0x01
  | .readyComplete => 0x02
  | .checkFailed => 0x03
  | .prestartTimeout => 0x04
  | .rideCondition => 0x05
  | .momentaryCessation => 0x06
  | .protectionTrip => 0x07
  | .island => 0x08
  | .safetyDemand => 0x09
  | .safetyReset => 0x0A
  | .returnConditions => 0x0B
  | .dawnAuto => 0x0C
  | .hostLost => 0x0D
  | .supplyLoss => 0x0E
  | .deviceRestart => 0x0F
  | .bringupTimeout => 0x10
  | .factoryKey => 0x11

/-- Which side of a leg: the high-side output GH with status FH, or the low side GL with FL. -/
inductive Side where
  | high | low
  deriving DecidableEq, Repr

def Side.other : Side → Side
  | .high => .low
  | .low => .high

/-- The source of a compare pair: the host, or Espalier (Table 4.6, STATUS.SRC), or the DC stage (R266). -/
inductive PairSrc where
  | host | esp | dc
  deriving DecidableEq, Repr

/-- One whole compare pair (R96). -/
structure Pair where
  on : Nat
  off : Nat
  src : PairSrc
  deriving DecidableEq, Repr

/-- A submission descriptor (Table 3.8). -/
structure Desc where
  opcode : Nat
  flags : Nat
  tag : Nat
  seq : Nat
  ptr : Nat
  len : Nat
  arg : Nat
  inl : Nat
  deriving DecidableEq, Repr

/-- A completion on its way to completion ring Q(32 + cq) (Table 3.10), from submission ring q. -/
structure Cpl where
  q : Nat
  cq : Nat
  tag : Nat
  seq : Nat
  status : Nat
  result : Nat
  irq : Bool
  dtLo : Nat
  deriving DecidableEq, Repr

/-- An event record on its way to a ring: its 32 bytes as one little-endian word, SEQ still 0
(Table 3.11). -/
structure EvRec where
  body : BitVec 256
  deriving DecidableEq, Repr

/-- A write that waits in, or before, register bridge queue `queue` (77 to 79 of Table 1.6): `size` bytes of `val` at
BAR0 offset `off`. -/
structure BridgeWrite where
  queue : Nat
  off : Nat
  size : Nat
  val : Nat
  deriving DecidableEq, Repr

/-- Who writes a register: a BAR0 access, or entry `ord` of a batch of the descriptor with this tag on
submission ring q (Table 2.10). -/
inductive WSrc where
  | bar0
  | batch (ord tag q : Nat)
  deriving DecidableEq, Repr

end Sys2Proof.Machine
end

