-- ==== Sys2Proof/Machine/LegTypes.lean ====
section
/-!
DEFINITION. What the leg timing unit and the gate-link unit hold beside their registers: the state of
one output with its status input, of one leg, of one brick (spec 04 and 05). Times are counts of the PWM time base
(State.pw), in h of it, where nothing else is said.
-/
namespace Sys2Proof.Machine

/-- The classes of status pulse (Table 5.4). -/
inductive PulseClass where
  | uvlo | desat | otemp | malf
  deriving DecidableEq, Repr

/-- The supervisor states of Table 9.1. -/
inductive LegSup where
  | none | active | shadow | inserting | parked | retired | spare
  deriving DecidableEq, Repr

def LegSup.code : LegSup → Nat
  | .none => 0
  | .active => 1
  | .shadow => 2
  | .inserting => 3
  | .parked => 4
  | .retired => 5
  | .spare => 6

/-- Counted in N (Table 9.1). -/
def LegSup.counted : LegSup → Bool
  | .active => true
  | .shadow => true
  | .inserting => true
  | _ => false

/-- One output and its status input. `on` is the ON command; `cmdAt` the instant of the last command edge at the ball,
`onAt` of the last turn-on; `turnOn` a scheduled turn-on that has not yet happened; `waiting` says that the interlock
or the minimum off interval holds it; `turnOff` the end of a stretched pulse (R102); `dropped` that the pulse was
cancelled; `notch` counts the notch phases still to come, the present one begun at `notchAt` (R118); `alive` is the
next link-alive pulse, `link` the end of the last one sent. The rest is, its times but the deadlines being instants of
State.now, the status input (R123, R124): the accepted level of the ball, that level read with SPOL and its instant,
whether it has been inactive since the latest OFF command or final notch edge (R126), the deadline of the confirm
check, whether the ON was confirmed, the deadlines of the gate-lost and stuck checks, the start of an uncommanded
level, a pulse (start, end as measured) that waits for its classification, the start of the last valid pulse, the
class and start of the last pulse of any class, and the starts of the last pulses of the three fault classes. -/
structure SideSt where
  on : Bool := false
  cmdAt : Nat := 0
  onAt : Nat := 0
  turnOn : Option Nat := Option.none
  waiting : Bool := false
  turnOff : Option Nat := Option.none
  dropped : Bool := false
  notch : Nat := 0
  notchAt : Nat := 0
  alive : Option Nat := Option.none
  link : Nat := 0
  ball : Bool := false
  lvl : Bool := false
  lvlAt : Nat := 0
  offOk : Bool := true
  confirmBy : Option Nat := Option.none
  confirmed : Bool := false
  lostBy : Option Nat := Option.none
  stuckBy : Option Nat := Option.none
  pulseAt : Option Nat := Option.none
  pulse : Option (Nat × Nat) := Option.none
  lastStart : Option Nat := Option.none
  lastClass : Option PulseClass := Option.none
  lastAt : Option Nat := Option.none
  lastUvlo : Option Nat := Option.none
  lastDesat : Option Nat := Option.none
  lastOtemp : Option Nat := Option.none
  deriving DecidableEq, Repr

/-- A refresh in progress (R130): the side it interrupted, whether the opposite switch takes part, and the
instant, as a compare, at which the REFRESH interval ends once it has begun. -/
structure RefreshSt where
  side : Side
  opp : Bool
  until_ : Option Nat
  deriving DecidableEq, Repr

/-- One leg. `guard` and `locked` are R97's, `held` the held pair, `pendSrc` the source of the pending pair;
`hostTick` the tick in which the latest host pair arrived (R21); `seen` says that an Espalier pair has come within the
search window of R99; `tgt` the TARGET read at the guard; `ofs` the rotation offset, `ofsWas` the one before this
period's phase step (R104); `pos` the position in h from which edges of this period are still to come.
`trips` are the Shears groups in force with their actions, `tripHold` that a cleared trip holds the leg to
its next START (R150); `gblock` the gate-link block (R135). `sup`, `supNext`, `supLock` are the supervisor
state in force, the one a control entry brought and the one locked at the guard (R216); `dcHold` and
`ghHold` hold both outputs, or GH alone, for the DC stage (Table 11.1); `dcOwn` that the pairs in force are the DC
stage's, `dcLive` that one of them has come into force, and `graphPair` the latest other pair meanwhile (R266,
R267). `own…` is the own period counter of
R112: whether it runs, its scheduled first START, whether it waits for a START of the brick, its START
point, period in force, period read at the guard and period number, and the instant of State.now of its last START;
`ended` that the leg has taken the OFF coding for a transition of R467; `sigPulse` the end of a Trellis
signalling pulse (R289); `checking` that its shorted-switch check runs (R272); `hit` that a Shears action or a block
has acted on a leg of the DC stage since its last START (R263). -/
structure LegSt where
  guard : Bool := false
  locked : Bool := false
  held : Option Pair := Option.none
  pendSrc : PairSrc := .host
  hostTick : Option Nat := Option.none
  seen : Bool := false
  tgt : Nat := 0
  ofs : Nat := 0
  ofsWas : Nat := 0
  pos : Nat := 0
  high : SideSt := {}
  low : SideSt := {}
  trips : List (Nat × Nat) := []
  tripHold : Bool := false
  gblock : Bool := false
  conflictSeen : Bool := false
  refresh : Option RefreshSt := Option.none
  sup : LegSup := .none
  supNext : Option LegSup := Option.none
  supLock : Option LegSup := Option.none
  dcHold : Bool := false
  ghHold : Bool := false
  dcOwn : Bool := false
  dcLive : Bool := false
  graphPair : Option Pair := Option.none
  ownRun : Bool := false
  ownFirst : Option Nat := Option.none
  ownWait : Bool := false
  ownStart : Nat := 0
  ownPer : Nat := 320000
  ownNext : Nat := 320000
  ownNum : Nat := 0
  ownLast : Nat := 0
  ended : Bool := false
  sigPulse : Option Nat := Option.none
  checking : Bool := false
  hit : Bool := false
  deriving DecidableEq, Repr

/-- The causes of a halt (R107, Table 4.14). -/
inductive HaltCause where
  | debug | ckFab | ckSys | ckPwm
  deriving DecidableEq, Repr

def HaltCause.code : HaltCause → Nat
  | .debug => 0
  | .ckFab => 1
  | .ckSys => 2
  | .ckPwm => 3

/-- One brick. `start` is the actual START point S(p), at the instant `startAt` of State.now; `first` the scheduled
first START; `waitRef` the reference brick, offset and earliest START of SYNC.SRC BRICK; `waitEpoch` the offset and
earliest epoch point of EPOCH; `guard` says that the guard of the coming reload is open; `midNext` that the coming
reload is a MID; `per` and `dbl` are PERIOD and the double-update outcome read at the guard of the coming START,
`short` says that DBL was 1 there with too short a PERIOD; `last` the instant of State.now of the last reload point;
`finish` that the brick takes the OFF coding at its next START for a halt (R107); `ended` that it has taken it for a
transition of R467; `vledLow` and `vledHigh` the instants of State.now from which the rail has stayed below its
threshold, or above it by 100 mV (R117). -/
structure BrkSt where
  start : Nat := 0
  startAt : Nat := 0
  first : Option Nat := Option.none
  waitRef : Option (Nat × Nat × Nat) := Option.none
  waitEpoch : Option (Nat × Nat) := Option.none
  guard : Bool := false
  midNext : Bool := false
  per : Nat := 640000
  dbl : Bool := false
  short : Bool := false
  last : Nat := 0
  finish : Bool := false
  ended : Bool := false
  vledLow : Option Nat := Option.none
  vledHigh : Option Nat := Option.none
  deriving DecidableEq, Repr

/-- A period report in queue 90 (R106): the point it goes to, and its three words. -/
structure PeriodReport where
  point : Nat
  dur : Nat
  dtLo : Nat
  num : Nat
  deriving DecidableEq, Repr

/-- An entry of a brick compare queue (Table 1.6, queues 34 to 41): a PWO pair for a leg, a pair of the DC
stage (R266), or a control entry of the phase-group supervisor (R216): a phase target, or a supervisor state. -/
inductive CmpEntry where
  | pwo (leg on off : Nat)
  | dc (leg on off : Nat)
  | target (leg phase : Nat)
  | sup (leg : Nat) (state : LegSup)
  deriving DecidableEq, Repr

end Sys2Proof.Machine
end

