-- ==== Sys2Proof/Machine/EventTypes.lean ====
section
/-!
DEFINITION. What the commands that come from outside the block carry: the conditions, values and messages a
row of the table brings, each as a type of its own.
-/
namespace Sys2Proof.Machine

/-- A condition that FAULT_SOURCE_ASSERT brings from outside the rows of the table (Table 16.1): an
uncorrectable or a corrected error in a memory of Table 1.8, the firmware watchdog, a disagreement of the
management cores, a QSPI NOR failure, a FRAM access failure, a command of submission ring q that firmware cannot
execute (Table 3.15, INTERNAL). -/
inductive ExtFault where
  | ocmUe (row : Nat)
  | ocmCe
  | fwWatchdog
  | lockstep
  | norFailure
  | framFailure
  | internal (q : Nat)
  deriving DecidableEq, Repr

/-- What the status input shows for one test pulse of the shorted-switch check (Table 11.5): active within T_CONF,
inactive within 1 µs of the off edge, a desaturation pulse begun within 20 µs of gate off. -/
structure PulseResp where
  confirmed : Bool
  offSeen : Bool
  desat : Bool
  deriving DecidableEq, Repr

/-- What the board shows during the check of one leg: the two pulses, and whether the leg's hard window crosses
between 30 and 100 µs. -/
structure ChkResp where
  first : PulseResp
  second : PulseResp
  hard : Option Bool
  deriving DecidableEq, Repr

/-- What stands at a ΣΔ input over a stretch of time (R173): of a clock-and-data stream the level at the rising and at the
falling edge of each MCLK period, of any input the level in each 2.5 ns sample of the Manchester decoder. -/
inductive SdLine where
  | clocked (l : List (Bool × Bool))
  | sampled (l : List Bool)
  deriving DecidableEq, Repr

end Sys2Proof.Machine
end

