-- ==== Sys2Proof/Machine/SafTypes.lean ====
section
/-!
DEFINITION. What the safety island and the MACs hold beside their registers (spec 17 and 20), and the frames that
reach a MAC. Times are instants of State.now, in h.
-/
namespace Sys2Proof.Machine

/-- A datagram for the safe-frame engine: the length of its frame, its UDP length, the bytes of its PDU, the MAC and IP
address of its sender, the instant of its last bit. -/
structure SafeFrame where
  len : Nat
  udpLen : Nat
  pdu : List Nat
  mac : Nat
  ip : Nat
  at_ : Nat
  deriving DecidableEq, Repr

/-- A request to the island (queue 86): a contactor opened or closed by its function (1 DC, 2 AC), a safe output
switched by the command of a ring, a safety reset asked for by a ring, a commit with its CRC. -/
inductive SafReq where
  | contactor (fn : Nat) (close : Bool)
  | output (o : Nat) (close : Bool) (q : Nat)
  | reset (q : Nat)
  | commit (q crc : Nat)
  deriving DecidableEq, Repr

/-- A channel of a safe input pair: consecutive samples at 0 outside its test window, and within it; whether three
were seen in the window; whether the last sample lay in it; the level held from outside it; the other test-pulse
output in whose window it has read 0; the other output in whose window the last sample lay, and whether a cross-short has
shown in that window. -/
structure SinSt where
  zeros : Nat := 0
  winZeros : Nat := 0
  seen : Bool := false
  inWin : Bool := false
  held : Bool := false
  cross : Option Nat := none
  other : Option Nat := none
  short : Bool := false
  deriving DecidableEq, Repr

/-- A safe input pair: since when its channels differ, since when it reads on, its checks that fail: the code, with
the channel and, for a cross-short, the other output (channel + 2 · (output + 1)). -/
structure SinPairSt where
  diffAt : Option Nat := none
  onAt : Option Nat := none
  bad : List (Nat × Nat) := []
  deriving DecidableEq, Repr

/-- A safe output: when its command last changed, the 125 ms intervals of island time whose off-pulse is done. -/
structure SoutSt where
  chgAt : Nat := 0
  pulses : Nat := 0
  deriving DecidableEq, Repr

/-- The last command accepted: SEQ, the network of its first copy, its PDU and instant, TMO_MS, whether it is
confirmed. -/
structure SafeCmd where
  seq : Nat
  net : Nat
  pdu : List Nat
  at_ : Nat
  tmo : Nat
  confirmed : Bool := false
  deriving DecidableEq, Repr

/-- The safety island. `up`: it has left its own reset, at `base`; `samples`, `cycles` and `tests` count its input
samples, safety cycles and test pulses since; `tpAt` the falling edges of the test pulses. `act` the active
configuration and `stored` the one in the NVM log, by field key; `restored` that it has been restored since the island
left reset. `lock`: the pair restarts after LOCKSTEP; `railTest`: the rail test of PRESTART is due, `railOn`: it
asserts a rail. `bad` the island faults that persist (code, item) beside those of the input pairs; `fresh` the codes
latched since the last safety cycle and `demAt` the instant of the first latch. `queue` are the requests on their way
(queue 86), `reqs` those the next cycle carries out, `resets` the reset requests (source, ring of SAF_RESET), `btn`
the RESET pairs that have fallen. `cmd` is the last command accepted, `twins` the twins that are due (network, SEQ,
until when) and `conf` the last command confirmed (SEQ, CMD, PERMIT); `timedOut` that a frame timeout holds; `netAt`
the last valid copies by network (one h later; the activation where none has come), `peer` the addresses of the last
command there; `stSeq` and `status` the last status sent and `stAt` its instant; `rx` the frames of queues 88 and 89;
`pinhAt` the instant at which PINH_N last rose. -/
structure SafSt where
  up : Bool := false
  base : Nat := 0
  samples : Nat := 0
  cycles : Nat := 0
  tests : Nat := 0
  tpAt : Tbl (Option Nat) := []
  act : Tbl Nat := []
  stored : Option (Tbl Nat) := none
  restored : Bool := false
  lock : Bool := false
  railTest : Bool := false
  railOn : Bool := false
  chans : Tbl SinSt := []
  pairs : Tbl SinPairSt := []
  outs : Tbl SoutSt := []
  bad : List (Nat × Nat) := []
  fresh : List Nat := []
  demAt : Nat := 0
  queue : List SafReq := []
  reqs : List (Nat × Bool) := []
  resets : List (Nat × Option Nat) := []
  btn : List Nat := []
  cmd : Option SafeCmd := none
  twins : List (Nat × Nat × Nat) := []
  conf : Option (Nat × Nat × Nat) := none
  resetWas : Bool := false
  timedOut : Bool := false
  netAt : Tbl Nat := []
  peer : Tbl (Nat × Nat) := []
  stSeq : Nat := 0
  status : List Nat := []
  stAt : Nat := 0
  rx : Tbl (List SafeFrame) := []
  pinhAt : Nat := 0
  deriving DecidableEq, Repr

/-- What a frame at a MAC carries. -/
inductive EthBody where
  /-- an ARP request for an address -/
  | arp (ip : Nat)
  /-- an IPv4 UDP datagram to an address and port -/
  | udp (ip port : Nat) (f : SafeFrame)
  /-- a PTP message over IEEE 802.3, or over UDP to an address -/
  | ptp (l2 : Bool) (ip : Nat)
  | other
  deriving DecidableEq, Repr

/-- Where a frame is addressed to. -/
inductive EthDst where
  | unicast (mac : Nat)
  | broadcast
  /-- a PTP multicast address, over IEEE 802.3 or IPv4, for peer delay messages or the others -/
  | ptpMulticast (l2 pdelay : Bool)
  | multicast
  deriving DecidableEq, Repr

/-- A frame at a MAC: its destination, whether its FCS or the RGMII shows an error, its length in bytes, its content. -/
structure EthFrame where
  dst : EthDst
  bad : Bool
  len : Nat
  body : EthBody
  deriving DecidableEq, Repr

end Sys2Proof.Machine
end

