-- ==== Sys2Proof/Machine/UnitTypes.lean ====
section
/-!
DEFINITION. What Hoe, metering, the safety island, Cloche, the clocks, PTP and the MACs hold beside their registers
(spec 13 and 16 to 20). Times are instants of State.now, in h; `dt…` are device times in ns.
-/
namespace Sys2Proof.Machine

/-- Hoe (R368): the next map ageing pass and telemetry record, the start of the drift monitor's second with the
device time (in units of State.dt) there. -/
structure HoeSt where
  ageAt : Nat := 0
  telAt : Nat := 0
  drift : Option (Nat × Nat) := none
  startAt : Nat := 0
  last : Tbl Nat := []
  late : List Nat := []
  deriving DecidableEq, Repr

/-! ### Metering and Cloche (spec 13 and 18) -/

/-- The reconciliation of an S0 input (R317, R318): the level of its last sample, high or low, and since when; whether it
is armed for a pulse, the pulses of the window in hand, the accumulators at its start, and whether the unit has
accumulated throughout. -/
structure S0St where
  level : Option Bool := none
  since : Nat := 0
  armed : Bool := true
  pulses : Nat := 0
  start : Tbl Nat := []
  clean : Bool := false
  deriving DecidableEq, Repr

/-- A cycle's figures by phase (binary32): RMS voltages, RMS currents, mean powers, Q₁, apparent powers. -/
structure CycleSt where
  v : List Nat
  i : List Nat
  p : List Nat
  q : List Nat
  s : List Nat
  deriving DecidableEq, Repr

/-- The metering unit. `acc` holds each accumulator with its 32 fraction bits; `sent` and `s0sent` what Cloche has
been sent of each; `lastAt` and `lastDt` the last sample; `got` the channels that have had their result of the coming
step, with its tag; `hist` the latest values of each channel with their DT tags, newest first; `cyc` the samples of
the cycle in hand, oldest first, and `cycAt` its start; `iv…` the interval in hand: cycles, samples, sums of squares
by channel and of powers by phase in units of 2⁻²⁹⁸, the sums of Q₁ and the cycles of each; `fN` the whole cycles of
the 10 s in hand, since `fFrom`, and `fDur` their duration; `revAt` the DT from which reverse power has held; `gap`
the start, cause and channel of a gap, `gapH` the gap time in h before it; `restored` that the accumulators have been
restored since WAKE; `lostFrom` the DT and rating of the slot whose lost interval waits for PTP (R321); `ratedNew`
that RATED has changed since the last transfer; `snap` the snapshot count. -/
structure MtrSt where
  acc : Tbl Nat := []
  sent : Tbl Nat := []
  s0sent : Tbl Nat := []
  lastAt : Option Nat := none
  lastDt : Nat := 0
  got : Tbl Nat := []
  hist : Tbl (List (Nat × Nat)) := []
  cyc : List (List Nat) := []
  cycAt : Option Nat := none
  ivCyc : Nat := 0
  ivN : Nat := 0
  ivSq : List Int := []
  ivP : List Int := []
  ivQ : List Int := []
  fFrom : Nat := 0
  fN : Nat := 0
  fDur : Nat := 0
  hz : Nat := 0
  revAt : Option Nat := none
  gap : Option (Nat × Nat × Nat) := none
  gapH : Nat := 0
  restored : Bool := false
  lostFrom : Option (Nat × Nat) := none
  ratedNew : Bool := false
  snap : Nat := 0
  s0 : Tbl S0St := []
  deriving DecidableEq, Repr

/-- The LOST record (Table 13.6): start, length and uncertainty, and its CASE (0: none). -/
structure LostRec where
  start : Nat := 0
  ns : Nat := 0
  unc : Nat := 0
  case_ : Nat := 0
  deriving DecidableEq, Repr

/-- What a commit writes to its FRAM slot (Table 13.6). -/
structure FramSlot where
  seq : Nat
  dt : Nat
  acc : Tbl Nat
  lost : LostRec
  s0 : Tbl Nat
  rated : Nat
  deriving DecidableEq, Repr

/-- A retention update on its way to Cloche (R319, R411): the increases, the DT at the end of its interval, a new
rating, and whether it is the power-fail transfer. -/
structure RetUpd where
  acc : Tbl Nat
  s0 : Tbl Nat
  dt : Nat
  rated : Option Nat
  lost : LostRec
  pf : Bool
  deriving DecidableEq, Repr

/-- The main rails of Table 18.1 as measured, in mV, and the level of PFW_N (R405, R407). -/
structure Rails where
  mv : List Nat
  pfwN : Bool
  deriving DecidableEq, Repr

/-- Cloche. The retained copies: `acc`, `s0`, `dt`, `rated`, `lost`; `queue` the updates on their way (queue 87); the
bytes of the two FRAM slots (`[]`: none that are valid); the SEQ and DT of the last commit; `stage_` a commit in
progress (what it writes, to slot B or A, from when); `again` that another has fallen due meanwhile; `final` that the
final guard evaluation of stage 2 is owed (R418); `rings` the commands that wait for the next commit and `ringsNow`
those that the one in progress answers; `samples` those since the last guard evaluation; the RTC's time in ns at an
instant; `live` that the keep-alive die runs; `vStore` and `vHarv` the voltages at its balls, in mV. -/
structure CloSt where
  acc : Tbl Nat := []
  s0 : Tbl Nat := []
  dt : Nat := 0
  rated : Nat := 0x4B189680
  lost : LostRec := {}
  queue : List RetUpd := []
  slotA : List Nat := []
  slotB : List Nat := []
  seq : Nat := 0
  commitDt : Nat := 0
  stage_ : Option (FramSlot × Bool × Nat) := none
  again : Bool := false
  final : Bool := false
  rings : List Nat := []
  ringsNow : List Nat := []
  samples : Nat := 0
  rtcNs : Nat := 0
  rtcAt : Nat := 0
  live : Bool := true
  vStore : Nat := 0
  vHarv : Nat := 0
  deriving DecidableEq, Repr

end Sys2Proof.Machine
end

