-- ==== Sys2Proof/Syntax.lean ====
section
/-!
DEFINITION. The commands of the block: one constructor per row of spec/opcode_table.json, with the row's
operands. A ring opcode names the submission ring whose started descriptor it executes; an event of the
device's own hardware names the unit it happens in; an event from outside carries what arrives.
-/
namespace Sys2Proof

open Sys2Proof.Machine

/-- The commands: first those with operands, then those without, each in the order of the table. -/
inductive Instr where
  /-- NOP (R82). Opcode 0x00 does nothing and completes with RESULT 0. -/
  | nop (q : Nat)
  /-- MODE_SET (R39). Opcode 0x01 is checked in order and, if it passes, becomes the pending request for a mode
  transition. -/
  | modeSet (q : Nat)
  /-- DEVICE_RESTART (R83). Opcode 0x02 completes OK and then starts the device restart with dump. -/
  | deviceRestart (q : Nat)
  /-- TIME_READ (R82). Opcode 0x03 writes DT to its 8 B output and returns the low 32 bits. -/
  | timeRead (q : Nat)
  /-- REG_BATCH_WRITE (R84). Opcode 0x10 applies the register write entries in payload order, with per-entry checks. -/
  | regBatchWrite (q : Nat)
  /-- REG_BATCH_READ (R84). Opcode 0x11 reads the listed registers into the VALUE fields of the payload. -/
  | regBatchRead (q : Nat)
  /-- REG_WRITE (R84). Opcode 0x12 writes one register, acting as a batch of one entry. -/
  | regWrite (q : Nat)
  /-- REG_READ (R84). Opcode 0x13 reads one 32-bit register into RESULT. -/
  | regRead (q : Nat)
  /-- UNDEFINED_OPCODE (R51). A descriptor with an undefined opcode completes BAD_OPCODE without execution. -/
  | undefinedOpcode (q : Nat)
  /-- SETPOINT_WRITE (R85). Opcode 0x24 stores a set-point value and returns the sample number of its first use. -/
  | setpointWrite (q : Nat)
  /-- SIGNAL_READ (R85). Opcode 0x25 returns the current value of a point, completing STALE if it is older than
  requested. -/
  | signalRead (q : Nat)
  /-- GRAPH_LOAD (R210). Opcode 0x20 stops the graph, resets, checks the image, and either loads it or rejects it with
  a code. -/
  | graphLoad (q : Nat)
  /-- GRAPH_UNLOAD (R211). Opcode 0x21 stops the graph, clears READY.GRAPH and resets what a graph load resets. -/
  | graphUnload (q : Nat)
  /-- COEF_WRITE (R211). Opcode 0x22 writes coefficient records to the shadow bank and commits the cadences it touched. -/
  | coefWrite (q : Nat)
  /-- COEF_COMMIT (R205). Opcode 0x23 commits the shadow coefficients of the named cadences. -/
  | coefCommit (q : Nat)
  /-- SIGNAL_READ_BLOCK (R211). Opcode 0x26 reads up to 64 consecutive points in one cycle into the output buffer. -/
  | signalReadBlock (q : Nat)
  /-- MBOX_BIND (R208). Opcode 0x27 binds or unbinds a mailbox to a point and loads its current value. -/
  | mboxBind (q : Nat)
  /-- SETPOINT_WRITE_SET (R211). Opcode 0x28 stores all set-point records in one CK_FAB cycle. -/
  | setpointWriteSet (q : Nat)
  /-- NODE_RESET (R206). Opcode 0x29 resets a node's state at the next opening of its cadence. -/
  | nodeReset (q : Nat)
  /-- LEG_COMMIT (R113). Opcode 0x40 commits one whole pair to a leg and returns the reload number at which it takes
  effect. -/
  | legCommit (q : Nat)
  /-- LEG_COMMIT_SET (R113). Opcode 0x41 commits pairs to several legs in one PWM tick. -/
  | legCommitSet (q : Nat)
  /-- SIE_CAPTURE (R333). Opcode 0x50 starts a capture on an engine, which completes when the capture ends. -/
  | sieCapture (q : Nat)
  /-- SIE_FORCE (R344). Opcode 0x51 forces a trigger on a capture engine. -/
  | sieForce (q : Nat)
  /-- SIE_ABORT (R344). Opcode 0x52 aborts the capture of an engine. -/
  | sieAbort (q : Nat)
  /-- SIE_READ (R345). Opcode 0x53 copies part of the Sieve region into the host buffer. -/
  | sieRead (q : Nat)
  /-- TRL_CMD (R304). Opcode 0x60 queues a CMD downlink frame and completes when the frame's last bit has been sent. -/
  | trlCmd (q : Nat)
  /-- MAP_WRITE (R300). Opcode 0x61 writes membership records into array-map entries. -/
  | mapWrite (q : Nat)
  /-- MAP_READ (R304). Opcode 0x62 copies whole array-map entries to the host. -/
  | mapRead (q : Nat)
  /-- KA_CTRL (R298). Opcode 0x63 stops or resumes the rapid-shutdown keep-alive. -/
  | kaCtrl (q : Nat)
  /-- POLL_NOW (R295). Opcode 0x64 starts the next poll round of a segment as soon as the current one ends. -/
  | pollNow (q : Nat)
  /-- MTR_SNAPSHOT (R314). Opcode 0x70 writes all 32 accumulators from one instant as a 576 B record. -/
  | mtrSnapshot (q : Nat)
  /-- MTR_LOST_ACK (R321). Opcode 0x71 clears a pending LOST record. -/
  | mtrLostAck (q : Nat)
  /-- MTR_COMMIT_NOW (R324). Opcode 0x72 requests an immediate FRAM commit under the commit guard. -/
  | mtrCommitNow (q : Nat)
  /-- SAF_STATUS (R402). Opcode 0x78 returns SAF.STAT. -/
  | safStatus (q : Nat)
  /-- SAF_RESET (R400). Opcode 0x79 requests a safety reset from the host. -/
  | safReset (q : Nat)
  /-- SAF_CONTACTOR (R402). Opcode 0x7A sends an open or close request for a safe output to the island. -/
  | safContactor (q : Nat)
  /-- SAF_COMMIT (R401). Opcode 0x7B makes the pending safety configuration active if its CRC and checks pass. -/
  | safCommit (q : Nat)
  /-- FLT_CLEAR (R378). Opcode 0x80 clears the first-error latch and/or ACTIVE of every source. -/
  | fltClear (q : Nat)
  /-- DUMP_ARM (R372). Opcode 0x81 names or unnames the host dump buffer. -/
  | dumpArm (q : Nat)
  /-- FLT_INJECT (R367). Opcode 0x82 starts a fault injection on a source in FACTORY. -/
  | fltInject (q : Nat)
  /-- FLT_HISTORY (R378). Opcode 0x83 copies the kept FAULT records to the host. -/
  | fltHistory (q : Nat)
  /-- TEL_NOW (R79). Opcode 0x90 posts one TELEMETRY record, or completes RING_FULL. -/
  | telNow (q : Nat)
  /-- CLK_SEARCH (R425). Opcode 0xA0 starts a band search for a carrier-plan entry on the idle PLL_PWM core. -/
  | clkSearch (q : Nat)
  /-- CLK_HOP (R425). Opcode 0xA1 requests a glitch-free switch of CK_PWM to a stored plan. -/
  | clkHop (q : Nat)
  /-- TIME_SET (R430). Opcode 0xA2 steps DT to a given value. -/
  | timeSet (q : Nat)
  /-- SQ_DOORBELL (R65). A BAR2 doorbell to a submission ring advances HOSTIDX and starts the descriptor fetch, or is
  discarded. -/
  | sqDoorbell (q v : Nat)
  /-- CQ_DOORBELL (R72). A BAR2 doorbell to a completion or event ring frees consumed slots and re-arms the interrupt. -/
  | cqDoorbell (q v : Nat)
  /-- BAR2_INVALID_ACCESS (R56). A BAR2 access other than a doorbell write is discarded with an ACCESS_ERROR record. -/
  | bar2InvalidAccess (off size : Nat) (wr : Bool)
  /-- DESCRIPTOR_FETCH_COMPLETE (R67). The completion of a descriptor read arrives and fills the ring's prefetch
  queue, or fails with RING_ERROR. -/
  | descriptorFetchComplete (q : Nat) (res : Option (List Nat)) (at_ : Nat)
  /-- PAYLOAD_READ_TIMEOUT (R64). A payload or descriptor read gets no completion within 50 ms and fails. -/
  | payloadReadTimeout (q : Nat)
  /-- COMPLETION_WRITE (R71). A pending completion is written to its completion ring once the ring has room. -/
  | completionWrite (q : Nat)
  /-- EVT_LOST (R78). When room returns to an event ring that lost records, an EVT_LOST record is written first. -/
  | evtLost (q : Nat)
  /-- MSIX_MOD_TIME_EXPIRY (R80). The oldest unsignalled entry has waited MOD_TIME and the message is sent. -/
  | msixModTimeExpiry (q : Nat)
  /-- MSIX_UNMASK (R81). Unmasking a vector with its pending bit set sends the deferred message. -/
  | msixUnmask (v : Nat)
  /-- RING_ENABLE (R59). RNG[q].CFG.ENABLE going to 1 latches the configuration and resets the indices, phase and
  sequence. -/
  | ringEnable (q : Nat)
  /-- RING_DISABLE (R60). RNG[q].CFG.ENABLE going to 0 stops fetching or writing and quiesces the ring. -/
  | ringDisable (q : Nat)
  /-- REGISTER_WRITE (R49). A write to a register without behaviour of its own is range-checked, clamped or refused,
  and applied. -/
  | registerWrite (o size v : Nat)
  /-- BAR0_INVALID_ACCESS (R15). A BAR0 access with a bad size or alignment is discarded or reads 0 and posts
  ACCESS_ERROR. -/
  | bar0InvalidAccess (wr : Bool) (o size : Nat)
  /-- BAR0_RESERVED_WRITE (R56). A write to a reserved BAR0 offset is discarded with an ACCESS_ERROR record. -/
  | bar0ReservedWrite (o size v : Nat)
  /-- SIGNAL_POINT_WRITE (R181). A host write through the signal-point window stores the value, goes to the shadow
  bank, or is discarded. -/
  | signalPointWrite (p v : Nat)
  /-- FKEY_WRITE (R45). A write to GLB.FKEY advances or restarts the FACTORY key sequence. -/
  | fkeyWrite (v : Nat)
  /-- LEG_COMMIT_GO (R96). Writing 1 to LEG[n].COMMIT.GO commits the staged pair. -/
  | legCommitGo (n : Nat)
  /-- PAIR_COMMIT (R96). A 64-bit write to LEG[n].PAIR_COMMIT stages and commits a pair. -/
  | pairCommit (n on off : Nat)
  /-- LEG_CNT_CLR (R95). LEG[n].CTRL.CNT_CLR clears LATE_CNT and DEFER_CNT. -/
  | legCntClr (n : Nat)
  /-- BRICK_ENABLE (R94). BRK[k].CTRL.ENABLE going to 1 places the brick's first START by SYNC.SRC. -/
  | brickEnable (k : Nat)
  /-- BRICK_DISABLE (R93). BRK[k].CTRL.ENABLE going to 0 stops the counter and puts all outputs in the OFF coding. -/
  | brickDisable (k : Nat)
  /-- RESUME (R111). BRK[k].CTRL.RESUME ends the HALTED state in SERVICE or FACTORY after the halt has ended. -/
  | resume (k : Nat)
  /-- OWNPER_SET (R112). Setting LEG[n].CFG.OWNPER on a DC_BOOST leg starts its own period counter. -/
  | ownperSet (n : Nat)
  /-- GSTAT_CLEAR (R125). A W1C clear of LEG[n].GSTAT bits is refused while the condition persists, and may end a block. -/
  | gstatClear (n mask : Nat)
  /-- GATE_CNT_CLR (R134). LEG[n].GCTRL.CNT_CLR clears DELAY_CNT, REFRESH_CNT and MALF_CNT. -/
  | gateCntClr (n : Nat)
  /-- WINDOW_LATCH_CLEAR (R145). A software clear of CW[w].STAT.LATCH takes effect, or is refused while the condition
  is active. -/
  | windowLatchClear (w : Nat)
  /-- GROUP_TRIPPED_CLEAR (R150). A clear of TG[g].STAT.TRIPPED is refused while the group is ACTIVE. -/
  | groupTrippedClear (g : Nat)
  /-- TRIP_GROUP_ENABLE (R149). Setting TG[g].CFG.ENABLE fires the group at once if it is ACTIVE. -/
  | tripGroupEnable (g : Nat)
  /-- SWTRIP (R148). A write to TG[g].SWTRIP.TRIP asserts or removes the software source of a group. -/
  | swtrip (g : Nat) (v : Bool)
  /-- ADC_SWTRIG (R160). CORE[c].SWTRIG triggers the sequences whose source is SOFTWARE. -/
  | adcSwtrig (c mask : Nat)
  /-- ADC_CNT_CLR (R178). CORE[c].CNT_CLR clears OVR_CNT and LATE_CNT. -/
  | adcCntClr (c : Nat)
  /-- CAL_STEP_LO (R171). CAL_CTRL with STEP LO and GO starts averaging the low calibration input. -/
  | calStepLo (chan : Nat)
  /-- CAL_STEP_HI (R171). CAL_CTRL with STEP HI and GO starts averaging the high calibration input. -/
  | calStepHi (chan : Nat)
  /-- ESP_COEF_COMMIT (R205). A write to ESP.COEF_COMMIT commits the shadow coefficients of the named cadences. -/
  | espCoefCommit (mask : Nat)
  /-- CADTRIG (R184). ESP.CADTRIG triggers the cadences whose source is SOFTWARE. -/
  | cadtrig (mask : Nat)
  /-- MBOX_CFG_WRITE (R208). A write to ESP.MBOX_CFG binds a mailbox to a point and loads its current value. -/
  | mboxCfgWrite (m v : Nat)
  /-- UNRETIRE (R234). PHG[g].CMD.UNRETIRE returns a retired leg to ACTIVE. -/
  | unretire (g n : Nat)
  /-- RELEASE (R234). PHG[g].CMD.RELEASE returns an inserted spare to SPARE. -/
  | release (g n : Nat)
  /-- PROFILE_WRITE (R244). A write to GRD.PROFILE requests a new curve set, pending until no timer runs. -/
  | profileWrite (v : Nat)
  /-- UNBLOCK (R271). DCI[k].CMD.UNBLOCK ends BLOCKED and returns the input to OFF. -/
  | unblock (k : Nat)
  /-- SWEEP (R278). DCI[k].CMD.SWEEP latches a host sweep request. -/
  | sweep (k : Nat)
  /-- CAP_FORCE (R333). CAP[e].CTRL.FORCE forces a trigger of the capture. -/
  | capForce (e : Nat)
  /-- CAP_ABORT (R334). CAP[e].CTRL.ABORT ends the capture with ABORTED at the next engine sample. -/
  | capAbort (e : Nat)
  /-- RIDX_WRITE (R341). A write of TRS[t].RIDX frees consumed space of a STOP trace stream. -/
  | ridxWrite (t v : Nat)
  /-- TRACE_STREAM_ENABLE (R343). Enabling a trace stream checks that its buffer fits the region, or sets BAD_BUF. -/
  | traceStreamEnable (t : Nat)
  /-- TEST_PORT_GO (R358). MEM.TEST_CTRL.GO starts a test-port read or write of one 8 B word. -/
  | testPortGo (write : Bool)
  /-- REMAP_CMD (R354). MEM.REMAP_CMD installs a remap entry for a granule in SERVICE or FACTORY. -/
  | remapCmd (g : Nat)
  /-- SOURCE_ACTIVE_CLEAR (R364). Writing 1 to SRC[s].STAT.ACTIVE clears a promotion, or is refused while the source
  is asserted. -/
  | sourceActiveClear (i : Nat)
  /-- MDIO_ACCESS (R444). ETH.MDIO_CMD.GO starts a Clause 22 read or write. -/
  | mdioAccess (op phy reg data : Nat)
  /-- MDIO_ACCESS_DONE (R444). The MDIO access ends after 64 MDC periods and BUSY clears. -/
  | mdioAccessDone (data : Nat)
  /-- ETH_CNT_CLR (R444). ETH[n].CTRL.CNT_CLR clears the counters of a MAC. -/
  | ethCntClr (n : Nat)
  /-- MAIN_SUPPLIES_GOOD (R406). All main rails have been good for 1 ms with PFW_N high, and the device enters WAKE
  and resets every main-domain unit. -/
  | mainSuppliesGood (ftest refsel : Bool) (r : Rails) (at_ : Nat)
  /-- POWER_FAIL_WARNING (R407). A PFW_N, VDD_33 or rail warning enters KEEPALIVE and starts the final retention
  transfer. -/
  | powerFailWarning (r : Rails) (pinH at_ : Nat)
  /-- READY_SET (R46). A function completes its bring-up and its GLB.READY bit sets. -/
  | readySet (b x at_ : Nat)
  /-- READY_LOST (R47). A function loses readiness: its bit clears, a fault source is raised and the mode may change. -/
  | readyLost (b at_ : Nat)
  /-- LEG_CHECK (R272). The 125 µs shorted-switch check of one leg runs its static check, test pulses and verdict. -/
  | legCheck (r : ChkResp)
  /-- BRICK_START (R89). A START reload of a brick: the locked pair loads, the phase steps, latches clear and the
  supervisors act. -/
  | brickStart (k : Nat)
  /-- BRICK_MID (R101). A MID reload of a brick with double update active. -/
  | brickMid (k : Nat)
  /-- OWN_START (R112). The START of an own-period DC_BOOST leg reloads the leg and serves Trellis pulses and reports. -/
  | ownStart (n : Nat)
  /-- RELOAD_GUARD_OPEN (R97). The guard opens 64 t before a reload, locks the pending pair and judges lateness. -/
  | reloadGuardOpen (own : Bool) (i : Nat)
  /-- COMPARE_QUEUE_ENTRY (R98). A PWO pair or a supervisor control entry leaves the brick compare queue and arrives
  at the leg timing unit. -/
  | compareQueueEntry (k : Nat)
  /-- HC_EDGE (R91). A rotated compare fires and HC rises or falls, starting a gate pulse evaluated for extreme duty. -/
  | hcEdge (n : Nat)
  /-- DEAD_TIME_EXPIRY (R92). A scheduled turn-on after dead time falls due and is subject to the interlock. -/
  | deadTimeExpiry (n : Nat) (d : Side)
  /-- INTERLOCK_TIMEOUT (R127). The opposite status is not inactive within T_INTLK: the turn-on is cancelled and the
  leg blocked. -/
  | interlockTimeout (n : Nat) (d : Side)
  /-- MAXON_EXPIRY (R130). A switch has been on for MAXON and a refresh is inserted. -/
  | maxonExpiry (n : Nat) (d : Side)
  /-- LINK_ALIVE_PULSE (R118). A link-alive pulse falls due on an output in the OFF coding. -/
  | linkAlivePulse (n : Nat) (d : Side)
  /-- VLED_SAMPLE (R117). The 1 µs VLED comparison enters or leaves the undervoltage condition of a brick. -/
  | vledSample (k mv at_ : Nat)
  /-- STATUS_LEVEL_CHANGE (R123). A new status input level is accepted and decoded against the command. -/
  | statusLevelChange (n : Nat) (d : Side) (ball : Bool) (at_ : Nat)
  /-- STATUS_PULSE_CLASSIFIED (R124). A status pulse is classified at its falling edge, possibly blocking the leg. -/
  | statusPulseClassified (n : Nat) (d : Side)
  /-- CONFIRM_TIMEOUT (R124). An ON command sees no active status within T_CONF: link broken. -/
  | confirmTimeout (n : Nat) (d : Side)
  /-- STUCK_CHECK_EXPIRY (R124). The status is still active 1 µs after an OFF command, or an uncommanded on lasts 5.5
  µs. -/
  | stuckCheckExpiry (n : Nat) (d : Side)
  /-- GSTAT_PERSIST_EXPIRY (R125). 30 µs pass without a pulse of the class, and a fault-code bit stops persisting. -/
  | gstatPersistExpiry (n : Nat) (d : Side) (c : PulseClass)
  /-- WINDOW_CONDITION_CHANGE (R140). The filtered output of a standard or general window changes, possibly setting
  its latch. -/
  | windowConditionChange (w : Nat) (at_ : Nat) (levels : List Int)
  /-- HARD_WINDOW_CROSSING (R143). A hard window comparator crosses and trips through the asynchronous path. -/
  | hardWindowCrossing (w : Nat) (at_ : Nat) (level : Int)
  /-- BLANKING_END (R141). A blanking interval ends and the latch sets if the filtered output is active. -/
  | blankingEnd (w : Nat)
  /-- HALT_ENTRY (R107). A debug halt or a detected clock stop makes each brick act as its HALT.MODE states. -/
  | haltEntry (c : HaltCause) (at_ : Nat)
  /-- HALT_END (R107). A halt ends: freezing bricks switch on and a HALTED brick leads to CEASE or STANDBY. -/
  | haltEnd (c : HaltCause) (at_ : Nat)
  /-- BURST_READY (R162). A sequence delay expires and its burst starts or waits for the core. -/
  | burstReady (c q : Nat)
  /-- CONVERSION_END (R159). A slot conversion ends, its result enters the queue and the next slot starts. -/
  | conversionEnd (c : Nat) (v : AinVolt)
  /-- SENSOR_RESULT_POST (R166). A result leaves its queue and is written as four sensor points, firing dependants. -/
  | sensorResultPost (i : Nat)
  /-- CORE_POWER_DOWN (R165). A core with PD = 1 powers down after 2 µs without a burst. -/
  | corePowerDown (c : Nat)
  /-- CORE_WAKE_DONE (R165). A waking core completes its 1.5 µs start-up and its burst starts. -/
  | coreWakeDone (c : Nat)
  /-- TIMER_EXPIRY (R164). A TMR timer expires and triggers its sequences, cadences and engines. -/
  | timerExpiry (t : Nat)
  /-- SDI_RESULT (R174). A sinc filter produces a result for metering and the signal store. -/
  | sdiResult (i : Nat) (line : SdLine) (at_ : Nat)
  /-- SDI_LINK (R176). STUCK or LOST of a ΣΔ input changes; the line stands for `more` further bits or samples. -/
  | sdiLink (i : Nat) (line : SdLine) (more at_ : Nat)
  /-- SPARE_RAMP_END (R230). SPARE_RAMP ends and the spare becomes ACTIVE. -/
  | spareRampEnd (g : Nat)
  /-- SHADOW_TIMEOUT (R229). A leg has been SHADOW for SHADOW_TMO and is retired. -/
  | shadowTimeout (n : Nat)
  /-- SHADOW_RESTORE (R229). the residual r_f has stayed below RES_THR/2 for 100 ms and the SHADOW leg returns to
  ACTIVE. -/
  | shadowRestore (n : Nat)
  /-- VIN_START_HOLD (R265). Vin has stayed at or above VIN_START for 1 s and the input leaves WAIT for START. -/
  | vinStartHold (k : Nat)
  /-- START_SLOW (R267). Forward current is not confirmed within 500 ms. -/
  | startSlow (k : Nat)
  /-- SOFT_START_END (R268). The SS_MS ramp of i_lim ends and the input enters RUN. -/
  | softStartEnd (k : Nat)
  /-- SHORT_DETECTION (R270). V_link has stayed below V_SC for T_SC, and the input enters HICCUP or BLOCKED. -/
  | shortDetection (k : Nat)
  /-- HICCUP_END (R271). 100 ms after a detection the input returns to START. -/
  | hiccupEnd (k : Nat)
  /-- RETRY_COUNT_RESET (R271). 10 s of unbroken running returns the retry count to 0. -/
  | retryCountReset (k : Nat)
  /-- BURST_SLEEP_END (R283). SLEEP_MS ends, or a frame falls due, and the burst ON phase starts at the next START. -/
  | burstSleepEnd (k : Nat)
  /-- MAP_FOLD (R281). After a completed poll round the segment's map is folded into an I-V estimate. -/
  | mapFold (k : Nat)
  /-- KEEPALIVE_FRAME (R297). Every 100 ms a segment sends a KEEPALIVE downlink frame. -/
  | keepaliveFrame (k : Nat)
  /-- POLL_ROUND_START (R295). ROUND_S after the previous start, a poll round begins. -/
  | pollRoundStart (k : Nat)
  /-- POLL_FRAME (R295). A POLL frame opening a batch is sent when a credit is free. -/
  | pollFrame (k : Nat)
  /-- DOWNLINK_FRAME_END (R291). The last bit of a downlink frame is sent and the line returns to PER0. -/
  | downlinkFrameEnd (k : Nat)
  /-- UPLINK_REPLY (R300). A decoded reply leaves queue 75 and updates its map entry or is counted. -/
  | uplinkReply (k payload crc at_ : Nat)
  /-- REPLY_SLOT_END (R295). A reply slot ends without a good reply and is counted in RX_MISS. -/
  | replySlotEnd (k : Nat)
  /-- ROUND_DONE (R295). A poll round completes and is handed to the fold. -/
  | roundDone (k : Nat)
  /-- TRL_CMD_TIMEOUT (R304). A TRL_CMD not sent within 1 s completes TIMEOUT. -/
  | trlCmdTimeout (q : Nat)
  /-- METER_CYCLE_END (R309). At a cycle end the reactive and apparent energy are accumulated and reverse power is
  checked. -/
  | meterCycleEnd (at_ : Nat)
  /-- S0_PULSE (R317). An S0 input has been active for MIN_MS and a pulse is counted. -/
  | s0Pulse (i : Nat) (high : Bool) (at_ : Nat)
  /-- S0_WINDOW_END (R318). A reconciliation window ends and is evaluated or skipped. -/
  | s0WindowEnd (i : Nat)
  /-- COMMIT_DUE (R320). A periodic or power-fail commit falls due and the commit guard is applied. -/
  | commitDue (pf : Bool)
  /-- FRAM_COMMIT_DONE (R416). A FRAM commit finishes its write and read-back check. -/
  | framCommitDone (good : Bool)
  /-- STORE_SAMPLE (R413). Every 250 ms VSTORE is sampled: stages change, contents may be lost, the guard may be
  retried. -/
  | storeSample (v h : Nat) (parity : Bool) (at_ : Nat)
  /-- KEEPALIVE_DIE_START (R415). VSTORE reaches 1.9 V rising and the keep-alive die starts. -/
  | keepaliveDieStart (at_ : Nat)
  /-- AUTO_TRIGGER_EXPIRY (R333). AUTO_MS expires in ARMED and triggers the capture. -/
  | autoTriggerExpiry (e : Nat)
  /-- CAPTURE_MEMORY_ACCESS (R348). A granted 64 B burst is read or written with ECC and remap. -/
  | captureMemoryAccess (w mask : Nat)
  /-- MEMORY_INIT_STEP (R349). Another MiB of capture memory is initialised and the Sieve region grows. -/
  | memoryInitStep (at_ bad : Nat)
  /-- ADC_RECALIBRATION (R169). Hoe converts the references and die temperature of a core, which may shed tasks. -/
  | adcRecalibration (c temp at_ : Nat)
  /-- COMPARATOR_RECALIBRATION (R368). Hoe updates the offset of a comparator window. -/
  | comparatorRecalibration (w : Nat)
  /-- HOE_OVERRUN (R370). A Hoe task misses its period. -/
  | hoeOverrun (i : Nat)
  /-- FAULT_SOURCE_ASSERT (R361). A fault source asserts: records, counting, promotion and class actions follow. -/
  | faultSourceAssert (ext : Option ExtFault)
  /-- FAULT_OCCURRENCE_END (R360). The 1 µs assertion of an occurrence source ends. -/
  | faultOccurrenceEnd (i : Nat)
  /-- RAIL_MISMATCH (R362). The rails of a source stay equal for 2 cycles and WIRE sets. -/
  | railMismatch (i : Nat) (equal : Bool) (at_ : Nat)
  /-- DUMP_DONE (R373). The dump image is written to the host buffer and the restart follows. -/
  | dumpDone (ok : Bool) (at_ : Nat)
  /-- COEF_COMMIT_TIMEOUT (R211). COEF_WRITE or COEF_COMMIT completes TIMEOUT after 100 ms. -/
  | coefCommitTimeout (q : Nat)
  /-- SAFE_INPUT_SAMPLE (R384). Every 10 µs the safe input pairs are sampled and checked, which may latch a demand. -/
  | safeInputSample (levels : Nat)
  /-- SAFETY_CYCLE (R386). Each 1 ms safety cycle carries out requests, switches outputs and evaluates resets. -/
  | safetyCycle (rb : Nat) (rails : Bool)
  /-- OUTPUT_OFF_PULSE (R385). A safe output channel is pulsed off and its readback checked. -/
  | outputOffPulse (o : Nat) (off on : Bool)
  /-- CONTACTOR_FEEDBACK_TIMEOUT (R388). TFB passes without OPEN or CLOSED and the contactor goes to FAULT. -/
  | contactorFeedbackTimeout (o : Nat)
  /-- SAFE_FRAME_RECEIVE (R395). A command copy is checked, accepted, compared with its twin or discarded. -/
  | safeFrameReceive (n : Nat)
  /-- NETWORK_DOWN (R397). One network delivers no valid copy for 3 × T. -/
  | networkDown (n : Nat)
  /-- PINH (R393). PINH_N low inhibits all gate outputs and latches PINH. -/
  | pinh (at_ : Nat)
  /-- RESET_BUTTON (R400). A RESET pair falls after 0.1–5 s on and requests a safety reset. -/
  | resetButton (i : Nat)
  /-- ISLAND_RESET_EXIT (R468). The island leaves its own reset with the inhibit in force. -/
  | islandResetExit (at_ : Nat)
  /-- CONFIG_RESTORE (R401). Firmware restores the stored safety configuration and the island checks its CRC. -/
  | configRestore (good : Bool)
  /-- INHIBIT_RAIL_TEST (R392). At PRESTART entry each inhibit rail is asserted alone for 10 µs and read back. -/
  | inhibitRailTest (ok : Bool)
  /-- ETH_FRAME_RECEIVE (R444). A MAC receives a frame and forwards safe frames or PTP, answers ARP or discards it. -/
  | ethFrameReceive (n : Nat) (f : EthFrame) (at_ : Nat)
  /-- PTP_MESSAGE (R429). A Sync or related PTP message updates the offset, lock and possibly steps DT. -/
  | ptpMessage (n : Nat) (m : PtpPdu) (at_ : Nat)
  /-- PPS_IN_EDGE (R429). A PPS_IN rising edge disciplines DT. -/
  | ppsInEdge (at_ : Nat)
  /-- REF_LOST (R422). REFCLK shows no edge for 400 ns and the PLLs hold. -/
  | refLost (at_ : Nat)
  /-- REF_RETURN (R422). 2.5 ms after REFCLK returns the clock READY bits set again. -/
  | refReturn (at_ : Nat)
  /-- CLOCK_FREQUENCY_ERROR (R423). A clock is beyond ±2 % for 10 µs and its READY bit clears. -/
  | clockFrequencyError (c at_ : Nat)
  /-- SEARCH_DONE (R425). A band search ends, found or failed. -/
  | searchDone (found : Bool) (code at_ : Nat)
  /-- PCIE_LINK_DOWN (R360). The PCIe link goes down or an uncorrectable AER error occurs. -/
  | pcieLinkDown (aer : Bool) (at_ : Nat)
  /-- PAYLOAD_READ_COMPLETE (R64). The completion of a command's payload read from host memory arrives, good or
  erroneous, and the command proceeds or fails. -/
  | payloadReadComplete (q : Nat) (res : Option (List Nat)) (at_ : Nat)
  /-- PINH_N_RISE (R456). PINH_N returns high, which in an AX9600-S ends the hardwired inhibit and starts the 10 ms
  high time that SAFESTOP exit needs. -/
  | pinhNRise (at_ : Nat)
  /-- ETH_LINK_CHANGE (R444). The RGMII in-band status of a MAC reports the link going up or down, or a new PHY speed,
  updating ETH[n].STAT. -/
  | ethLinkChange (n : Nat) (up : Bool) (speed : Nat)
  /-- PTP_MESSAGE_TRANSMIT (R433). At its log interval the PTP port sends a Sync, Announce, Delay_Req or Pdelay_Req
  message, timestamped at the ball. -/
  | ptpMessageTransmit (m : PtpTx)
  /-- NOTCH_PHASE_END (R118). A 250 ns phase of a SOFT_OFF notch ends, and the output goes active again or takes its
  final inactive edge. -/
  | notchPhaseEnd (n : Nat) (d : Side)
  /-- REFRESH_END (R130). The REFRESH interval of an inserted refresh ends: the opposite switch turns off, or the
  first switch's off-time ends. -/
  | refreshEnd (n : Nat)
  /-- STRETCHED_PULSE_END (R102). A gate pulse stretched to the minimum width m under CLAMP ends at gh_on + m or gl_on
  + m. -/
  | stretchedPulseEnd (n : Nat) (d : Side)
  /-- PERST_N_ASSERTION (R53). The PCIe reset ball PERST_N changes level. -/
  | perstNAssertion (low : Bool) (at_ : Nat)
  /-- XTAL32K_OSCILLATION_CHANGE (R412). The 32.768 kHz crystal starts or stops oscillating, switching the RTC between
  XTAL32K and the internal RC and changing CLO.STAT.XTAL. -/
  | xtal32kOscillationChange (on : Bool)
  /-- DESCRIPTOR_DISPATCH (R69). The dispatcher starts the ready descriptor of highest PRIO, honouring FENCE and ring
  order. -/
  | descriptorDispatch
  /-- EVENT_RECORD_WRITE (R466). A pending event record is routed and written to an event ring, or lost and counted. -/
  | eventRecordWrite
  /-- QCLR_ALL (R28). GLB.QCLR.ALL clears STALL_CNT and HWM of every queue, ring LOST counts and the lost-record
  counters. -/
  | qclrAll
  /-- HWDT_KICK (R42). A write to GLB.HWDT_KICK restarts the host watchdog period. -/
  | hwdtKick
  /-- HOST_WATCHDOG_EXPIRY (R42). The host watchdog expires, leading to CEASE with HOST_LOST or to an event only. -/
  | hostWatchdogExpiry
  /-- COEF_APPLY (R170). ADC.COEF_APPLY.GO applies the pending calibration points, with clamping. -/
  | coefApply
  /-- CAL_ABORT (R171). CAL_CTRL with STEP ABORT ends the calibration with ABORTED. -/
  | calAbort
  /-- CAL_AVERAGE_DONE (R172). The 4,096 results of a calibration step have arrived: the step is judged, and
  coefficients are computed after HI. -/
  | calAverageDone
  /-- CAL_TIMEOUT (R171). A calibration step fails with TIMEOUT after 5 s without its results. -/
  | calTimeout
  /-- SDM_SYNC (R175). SDM.CTRL.SYNC restarts every enabled clock-and-data filter at one common instant. -/
  | sdmSync
  /-- SDM_CNT_CLR (R179). SDM.CTRL.CNT_CLR clears every BITERR_CNT. -/
  | sdmCntClr
  /-- ESP_CNT_CLR (R212). ESP.CTRL.CNT_CLR clears the Espalier counters and TASK_HWM. -/
  | espCntClr
  /-- GRD_RETURN (R246). GRD.CTRL.RETURN latches a return request during CEASE. -/
  | grdReturn
  /-- KA_STOP (R298). TRL.CTRL.KA_STOP latches a host stop of the keep-alive. -/
  | kaStop
  /-- KA_RESUME (R298). TRL.CTRL.KA_RESUME ends a host stop of the keep-alive. -/
  | kaResume
  /-- TRL_CNT_CLR (R303). TRL.CTRL.CNT_CLR clears the counters of every segment. -/
  | trlCntClr
  /-- SEAL (R308). MTR.CFG.SEAL seals the metrology set until WAKE. -/
  | seal
  /-- SIE_CNT_CLR (R343). SIE.CTRL.CNT_CLR clears FIRE_CNT, SKIP_CNT and DROP_CNT. -/
  | sieCntClr
  /-- FLIP_ARM (R357). MEM.FLIP_CTRL.ARM arms a check-bit flip for the next write to FLIP_ADDR. -/
  | flipArm
  /-- TEST_PORT_DONE (R358). The test-port access completes and sets DONE with CE or UE. -/
  | testPortDone
  /-- MEM_CNT_CLR (R359). MEM.CNT_CLR clears CE_CNT, UE_CNT and OVF_CNT. -/
  | memCntClr
  /-- INJ_GO (R367). FLT.INJ.GO starts a fault injection, or is refused outside FACTORY. -/
  | injGo
  /-- FIRST_VALID_CLEAR (R366). Writing 1 to FLT.FIRST.VALID clears the first-error latch. -/
  | firstValidClear
  /-- FLT_CNT_CLR (R376). FLT.CNT_CLR clears OCM_CE and every TOTAL. -/
  | fltCntClr
  /-- SAF_CNT_CLR (R404). SAF.CTRL.CNT_CLR clears the safe-frame counters. -/
  | safCntClr
  /-- LOG_CLR (R420). CLO.CTRL.LOG_CLR clears the Cloche log. -/
  | logClr
  /-- CLO_CNT_CLR (R420). CLO.CTRL.CNT_CLR clears COMMIT_CNT and DEFER_CNT. -/
  | cloCntClr
  /-- RAILS_LOST_EARLY (R409). The rails fail before PF_DONE, and Cloche keeps the last complete copies. -/
  | railsLostEarly
  /-- BRINGUP_TIMEOUT (R47). A mandatory READY bit is still clear 180 ms after main supplies good, which raises FS166. -/
  | bringupTimeout
  /-- MODE_MANAGER_EVALUATION (R38). The mode manager acts on pending triggers, makes the transition of highest
  precedence and completes MODE_SET. -/
  | modeManagerEvaluation
  /-- PRESTART_TIMEOUT (R36). GLB.PRESTART_TMO expires and the device returns to STANDBY. -/
  | prestartTimeout
  /-- PRECHARGE_HOLD_EXPIRY (R470). V_link has stayed in the precharge window for PRE_MS and step 2 passes. -/
  | prechargeHoldExpiry
  /-- SYNC_HOLD_EXPIRY (R469). The synchronisation check has held for HOLD_MS and step 5 passes. -/
  | syncHoldExpiry
  /-- SYNC_TIMEOUT (R469). Step 5 has not passed within TMO_MS and fails. -/
  | syncTimeout
  /-- PERIOD_REPORT_POST (R106). A period report leaves queue 90 and is written to the signal store. -/
  | periodReportPost
  /-- CONTACTOR_LEVEL_FALL (R110). The contactor-open level falls while a brick freezes, which acts as FINISH_SAFE. -/
  | contactorLevelFall
  /-- ADC_TRIGGER (R161). A trigger arrives at a sequence and starts its delay counter, or is dropped. -/
  | adcTrigger
  /-- SAMPLE_OPEN (R184). A cadence trigger opens a sample, abandoning the oldest if a third would open. -/
  | sampleOpen
  /-- TASK_DISPATCH (R189). A ready task is dispatched to a lane by class, priority and age. -/
  | taskDispatch
  /-- TASK_COMPLETE (R190). A task writes its outputs, applying the NaN rule, and makes its dependants ready. -/
  | taskComplete
  /-- MAILBOX_UPDATE (R208). A new value of a bound point reaches its mailbox through queue 81. -/
  | mailboxUpdate
  /-- EXIT_MS_EXPIRY (R245). Region 0 held for EXIT_MS returns RIDE to its TARGET mode. -/
  | exitMsExpiry
  /-- RESTORE_MS_EXPIRY (R245). Region ≤ 1 held for RESTORE_MS ends momentary cessation. -/
  | restoreMsExpiry
  /-- PASSIVE_HOLD_EXPIRY (R248). The PASSIVE_HOLD after a mode entry ends and the passive checks resume. -/
  | passiveHoldExpiry
  /-- CORRELATOR_SAMPLE (R253). Every 50 µs of DT the probe accumulates voltage and current correlations. -/
  | correlatorSample
  /-- PROBE_ESTIMATE (R255). At every 8th chip boundary the probe forms impedance estimates and may declare an island. -/
  | probeEstimate
  /-- LISTEN_PERIOD (R252). A listen period ends and a collision is detected if the probe heard its own code. -/
  | listenPeriod
  /-- DAWN_P_POST (R282). Every 100 ms P_dc is posted and the automatic DAWN timers are evaluated. -/
  | dawnPPost
  /-- METER_INTERVAL_END (R315). A 10/12-cycle interval ends and the RMS and power points are posted. -/
  | meterIntervalEnd
  /-- METER_FREQUENCY (R309). Every 10 s of DT the frequency is computed and posted. -/
  | meterFrequency
  /-- REV_POWER (R316). The reverse-power timer reaches REV_MS and the contactor may be requested open. -/
  | revPower
  /-- METER_GAP (R322). Accumulation stops or resumes because of MAP_ERR or a channel fault. -/
  | meterGap
  /-- METER_RESTORE (R321). At WAKE, once READY.CLO sets, the accumulators are restored by case. -/
  | meterRestore
  /-- RETENTION_TRANSFER (R319). Every 10 ms of DT the accumulator increases are sent to Cloche through queue 87. -/
  | retentionTransfer
  /-- RETENTION_UPDATE_APPLY (R411). Cloche applies a retention update received over the link, setting PF_DONE for a
  power-fail transfer. -/
  | retentionUpdateApply
  /-- CAPTURE_ENGINE_SAMPLE (R332). A capture engine takes a sample, forms frames and advances its state. -/
  | captureEngineSample
  /-- CAPTURE_END (R339). The capture ends: remaining frames are written, the header is rewritten and the command
  completes. -/
  | captureEnd
  /-- MEMORY_INIT_LATE (R349). READY.MEM_ALL is still clear at 1.5 s. -/
  | memoryInitLate
  /-- BUCKET_LEAK (R352). Every LEAK_MS the leaky bucket level falls by 1. -/
  | bucketLeak
  /-- SCRUB_PASS (R355). Hoe scrub reads and corrects granules and completes a pass. -/
  | scrubPass
  /-- NVM_WEAR_LEVELLING (R368). The log sector is 75 % full and Hoe levels wear. -/
  | nvmWearLevelling
  /-- TELEMETRY (R368). Every TEL_MS Hoe posts a TELEMETRY record. -/
  | telemetry
  /-- MAP_AGEING (R300). The hourly pass sets EXPIRED in aged map entries. -/
  | mapAgeing
  /-- DRIFT_MONITOR (R371). Each second the REFCLK drift against DT is measured. -/
  | driftMonitor
  /-- FIRST_ERROR_LATCH (R366). 1 µs after the first candidate the earliest candidate is latched. -/
  | firstErrorLatch
  /-- DUMP_TIMEOUT (R373). A dump not finished within 15 s is abandoned. -/
  | dumpTimeout
  /-- TEST_PULSE (R383). A test-pulse output starts its 300 µs off-pulse. -/
  | testPulse
  /-- SAFETY_REQUEST (R387). A contactor request is accepted by the island from queue 86. -/
  | safetyRequest
  /-- STATUS_FRAME_SEND (R394). Every STATUS_MS the island sends status frames on both MACs. -/
  | statusFrameSend
  /-- FRAME_TIMEOUT (R397). No command is accepted within T and FRAME_TIMEOUT is latched. -/
  | frameTimeout
  /-- ISLAND_LOCKSTEP (R382). The island cores disagree: both inhibit rails assert and the pair restarts. -/
  | islandLockstep
  /-- SAFE_SUPPLY_FAULT (R382). VDD_SAFE or CK_SAFE leaves its limits and the island goes undriven. -/
  | safeSupplyFault
  /-- PTP_SYNC_LOSS (R429). No Sync or edge arrives for 3 intervals and the lock clears. -/
  | ptpSyncLoss
  /-- ANNOUNCE_TIMEOUT (R433). With PORT AUTO, the port moves to the other MAC after the announce receipt timeout. -/
  | announceTimeout
  /-- PPS_OUT (R432). PPS_OUT rises at each DT whole second. -/
  | ppsOut
  /-- EPOCH_POINT (R426). At a PWM epoch point the alignment error is measured and stepping adjusted. -/
  | epochPoint
  /-- HOP_SWITCH (R425). At an epoch point after a hop request CK_PWM switches cores. -/
  | hopSwitch
  /-- MISSING_TWIN (R395). The twin of an accepted command copy has not arrived within the effective timeout, so
  MISS[n] counts it and the command stays unconfirmed. -/
  | missingTwin
  /-- FAULT_INJECTION_TIMER (R367). The HOLD of an injected repetition ends, or the next repetition starts 10 µs after
  the previous one ended. -/
  | faultInjectionTimer
  deriving DecidableEq, Repr

end Sys2Proof
end

