-- ==== Sys2Proof/Decode.lean ====
section
/-!
DEFINITION. Commands from words. No row of spec/opcode_table.json gives bits (its "fields" are all empty): a command
of the block is a descriptor, a register access or an event, none of which is one word of a table. So no word spells
a command.
-/
namespace Sys2Proof

/-- The command a table word spells: none, since no row of the table gives bits. -/
def decodeTableWord (_nbits _w : Nat) : Option Instr := none

end Sys2Proof
end

