-- ==== Sys2Proof/Machine/Bits.lean ====
section
/-!
DEFINITION. Bit fields, byte order and saturation over plain numbers. Register contents are held
field by field as the unsigned number in the field (R6, R7), so these are the only places where a
field is cut out of a word or put back.
-/
namespace Sys2Proof.Machine

/-- Bits [lsb + width − 1 : lsb] of v. -/
def bits (v lsb width : Nat) : Nat := v >>> lsb % 2 ^ width

/-- v with bits [lsb + width − 1 : lsb] replaced by x. -/
def putBits (v lsb width x : Nat) : Nat :=
  (v >>> (lsb + width)) <<< (lsb + width) + (x % 2 ^ width) <<< lsb + v % 2 ^ lsb

/-- Bit i of v. -/
def bit (v i : Nat) : Bool := v.testBit i

/-- The number 1 for true and 0 for false. -/
def b2n (b : Bool) : Nat := if b then 1 else 0

/-- The two's complement reading of a w-bit number. -/
def sext (v w : Nat) : Int :=
  if v % 2 ^ w < 2 ^ (w - 1) then (v % 2 ^ w : Nat) else ((v % 2 ^ w : Nat) : Int) - (2 ^ w : Nat)

/-- The w-bit two's complement coding of an integer (it wraps). -/
def tcode (x : Int) (w : Nat) : Nat := (x % ((2 ^ w : Nat) : Int)).toNat

/-- An integer limited to lo to hi. -/
def clampI (lo hi x : Int) : Int := if x < lo then lo else if hi < x then hi else x

/-- A number limited to lo to hi. -/
def clampN (lo hi x : Nat) : Nat := if x < lo then lo else if hi < x then hi else x

/-- The largest value of a 32-bit counter. -/
def max32 : Nat := 0xFFFFFFFF

/-- A counter of 32 bits that saturates at 0xFFFF_FFFF, advanced by n. -/
def satAdd32 (v n : Nat) : Nat := Nat.min (v + n) max32

/-- A 32-bit saturating signed reading, coded in two's complement. -/
def satI32 (x : Int) : Nat := tcode (clampI (-2147483648) 2147483647 x) 32

/-- The n low bytes of v, least significant first (R7: every multi-byte field is little-endian). -/
def leBytes (v : Nat) : Nat → List Nat
  | 0 => []
  | n + 1 => v % 256 :: leBytes (v / 256) n

/-- The number whose little-endian bytes these are. -/
def ofLe : List Nat → Nat
  | [] => 0
  | b :: bs => b % 256 + 256 * ofLe bs

/-- n consecutive bytes of a byte list from offset o, read little-endian. -/
def leAt (l : List Nat) (o n : Nat) : Nat := ofLe ((l.drop o).take n)

/-- The positions of the 1 bits of the low w bits of v, lowest first. -/
def onesOf (v w : Nat) : List Nat := (List.range w).filter (fun i => v.testBit i)

/-- The number whose 1 bits are the listed positions. -/
def maskOf (l : List Nat) : Nat := l.foldl (fun a i => a ||| 2 ^ i) 0

/-- ⌈a / b⌉ for b > 0. -/
def ceilDiv (a b : Nat) : Nat := (a + b - 1) / b

/-- The nearest integer to a / b, b > 0, ties to even. -/
def rneDiv (a : Int) (b : Nat) : Int :=
  let q := a.fdiv b
  let r := 2 * (a - q * b)
  if r < b then q else if (b : Int) < r then q + 1 else if q % 2 = 0 then q else q + 1

/-- One step of CRC-32 (IEEE 802.3, reflected polynomial 0xEDB8_8320) over one bit. -/
def crc32Bit (c : Nat) : Nat := if c % 2 = 1 then c / 2 ^^^ 0xEDB88320 else c / 2

/-- One byte into a reflected CRC-32 register. -/
def crc32Byte (c b : Nat) : Nat :=
  (List.range 8).foldl (fun a _ => crc32Bit a) (c ^^^ (b % 256))

/-- CRC-32 (IEEE 802.3) of a byte list: initial value and final exclusive-or 0xFFFF_FFFF. -/
def crc32 (l : List Nat) : Nat := l.foldl crc32Byte 0xFFFFFFFF ^^^ 0xFFFFFFFF

end Sys2Proof.Machine
end

