-- ==== Sys2Proof/Machine/FaultTable.lean ====
section
/-!
DEFINITION. The fault sources of Table 16.1 (R360): their numbers, which of them are occurrences, and
the CLASS each has after reset.
-/
namespace Sys2Proof.Machine

/-- NOTE, DEGRADE, SEVERE and FATAL (Table 16.2). -/
def cNote : Nat := 0
def cDegrade : Nat := 1
def cSevere : Nat := 2
def cFatal : Nat := 3

/-- The reset CLASS of source s (Table 16.1); the reserved sources read NOTE. -/
def fltClass (s : Nat) : Nat :=
  if s < 96 then 1
  else if s < 128 then 0
  else if s < 136 then 1
  else if s < 160 then 0
  else if [161, 164, 166, 167, 191].contains s then 2
  else if [193, 194].contains s then 3
  else if [163, 165, 168, 170, 175, 176, 177, 178, 188, 189, 196, 198, 202].contains s then 1
  else 0

/-- The sources whose CLASS is read-only (FIXED in Table 16.1). -/
def fltFixed (s : Nat) : Bool := [166, 191, 193, 194].contains s

/-- Fault sources by name (Table 16.1). -/
def fsTg (g : Nat) : Nat := 96 + g
def fsVled (k : Nat) : Nat := 128 + k
def fsDc (k : Nat) : Nat := 136 + k
def fsGenwin : Nat := 160
def fsClockLost : Nat := 161
def fsPtpLost : Nat := 162
def fsSenseLost : Nat := 163
def fsProtLost : Nat := 164
def fsUnitLost : Nat := 165
def fsBringup : Nat := 166
def fsOcmUe : Nat := 167
def fsCmUe : Nat := 168
def fsCmCeOvf : Nat := 169
def fsCmRemapFull : Nat := 170
def fsCmSpareBad : Nat := 171
def fsCmInitLate : Nat := 172
def fsLegLate : Nat := 173
def fsNodeFault : Nat := 174
def fsCadence : Nat := 175
def fsPhg (g : Nat) : Nat := 176 + g
def fsCeiling : Nat := 179
def fsGridTrip : Nat := 180
def fsIsland : Nat := 181
def fsProbe : Nat := 182
def fsPrestartChk : Nat := 183
def fsTrellis : Nat := 184
def fsRevPower : Nat := 185
def fsMeter : Nat := 186
def fsAdc : Nat := 187
def fsSdiLink : Nat := 188
def fsQueue : Nat := 189
def fsTjHigh : Nat := 190
def fsTjSevere : Nat := 191
def fsHostWdt : Nat := 192
def fsFwWdt : Nat := 193
def fsLockstep : Nat := 194
def fsSafety : Nat := 195
def fsPcie : Nat := 196
def fsClkDrift : Nat := 197
def fsNvm : Nat := 198
def fsFram : Nat := 199
def fsCloche : Nat := 200
def fsHoeOverrun : Nat := 201
def fsFwInternal : Nat := 202

/-- The source a READY bit that is lost raises (R47, Table 16.1). -/
def readyLostSource (b : Nat) : Nat :=
  if [0, 10, 11, 12].contains b then fsClockLost
  else if b = 13 then fsPtpLost
  else if 14 ≤ b ∧ b ≤ 32 then fsSenseLost
  else if [33, 34, 35, 38].contains b then fsProtLost
  else fsUnitLost

end Sys2Proof.Machine
end

