-- ==== Sys2Proof/Config.lean ====
section
/-!
DEFINITION. What one machine fixes and the spec leaves open: the values no rule states. None has a
body, so nothing can be proved of one beyond what every value of it satisfies. Each is named in the
assumption log.
-/
namespace Sys2Proof.Config

/-- The PCI-SIG vendor ID of Iznen, GLB.ID.VENDOR (R440: a 16-bit value the spec does not print). -/
opaque vendorId : Nat

/-- The version in GLB.FW once READY.MGMT is set (R440: "values change only with the image"). -/
opaque firmware : Nat

/-- A fresh value wherever the spec says a value is open and gives no bound; applied to the counter
State.free, which every use advances. -/
opaque freeValue : Nat → Nat

/-- The error of a computed sine, cosine or atan2 in units of 2⁻⁴⁰, before it is limited to the bound of
R191 or R220; applied to the operands' bits and 0 for sine, 1 for cosine, 2 for atan2. -/
opaque trigError : Nat → Nat → Int

/-- The offset of a comparator window at power-on, in 1/256 code, before it is limited to the bound of R138;
applied to the window. -/
opaque thresholdError : Nat → Int

/-- The error of a firmware or device computation whose method the spec leaves open and whose
accuracy it bounds, before it is limited to that bound; applied to a counter. -/
opaque boundedError : Nat → Int

end Sys2Proof.Config
end

