-- ==== Sys2Proof/Machine/F32.lean ====
section
/-!
DEFINITION. Binary32 arithmetic on bit patterns (R8, R191, R465): every operation is computed
exactly on integers and rounded once, to nearest even; subnormal operands and results go to zero
with their sign, judged on the exact value; every NaN the device makes is 0x7FC0_0000. Binary64
sums (R332) use the same rounding with their own widths.
-/
namespace Sys2Proof.Machine

/-- A binary32 or binary64 value taken apart: a NaN, an infinity, or (−1)^neg · m · 2^e. -/
inductive FVal where
  | nan
  | inf (neg : Bool)
  | fin (neg : Bool) (m : Nat) (e : Int)
  deriving DecidableEq, Repr

/-- The quiet NaN the device writes (R465). -/
def fNaN : Nat := 0x7FC00000

def fInf (neg : Bool) : Nat := if neg then 0xFF800000 else 0x7F800000
def fZero (neg : Bool) : Nat := if neg then 0x80000000 else 0
def fOne : Nat := 0x3F800000

/-- Take a binary32 apart; a subnormal reads as zero with its sign (R191). -/
def fOpen (x : Nat) : FVal :=
  let neg := x.testBit 31
  let ex := bits x 23 8
  let fr := bits x 0 23
  if ex = 255 then (if fr = 0 then .inf neg else .nan)
  else if ex = 0 then .fin neg 0 0
  else .fin neg (fr + 0x800000) ((ex : Int) - 150)

/-- A finite binary32 as a multiple of 2⁻¹⁴⁹; an infinity stands beyond every finite value. -/
def fScaled (x : Nat) : Int :=
  match fOpen x with
  | .nan => 0
  | .inf n => if n then -(2 ^ 300 : Int) else 2 ^ 300
  | .fin n m e => (if n then -1 else 1) * ((m * 2 ^ (e + 149).toNat : Nat) : Int)

/-- Round (m + less than one) · 2^e to p significant bits, ties to even; `more` says that a non-zero
part below the last bit of m was cut off (m then has more than p + 1 bits). Answers the mantissa and
its exponent. -/
def roundSig (p : Nat) (m : Nat) (e : Int) (more : Bool) : Nat × Int :=
  let l := Nat.log2 m
  if l < p then (m <<< (p - 1 - l), e - ((p - 1 - l : Nat) : Int))
  else
    let sh := l + 1 - p
    let q := m >>> sh
    let r := m % 2 ^ sh
    let half := 2 ^ sh / 2
    let up := decide (half < r) || (decide (r = half) && (more || decide (q % 2 = 1)))
    let q' := if up then q + 1 else q
    if q' = 2 ^ p then (2 ^ (p - 1), e + (sh + 1 : Nat)) else (q', e + (sh : Nat))

/-- The binary32 nearest to (−1)^neg · (m + less than one) · 2^e (R191). -/
def fPack (neg : Bool) (m : Nat) (e : Int) (more : Bool := false) : Nat :=
  if m = 0 then fZero neg
  else if (Nat.log2 m : Int) + e < -126 then fZero neg
  else
    let (q, e') := roundSig 24 m e more
    let ex := e' + 150
    if ex ≥ 255 then fInf neg
    else b2n neg <<< 31 + ex.toNat <<< 23 + (q - 0x800000)

/-- The binary32 nearest to an integer times 2^e. -/
def fPackI (x : Int) (e : Int) : Nat := fPack (decide (x < 0)) x.natAbs e

/-- The binary32 nearest to (−1)^neg · a / b, b > 0. -/
def fRatio (neg : Bool) (a b : Nat) : Nat :=
  if a = 0 then fZero neg
  else
    let k := 60 + Nat.log2 b
    let q := a <<< k / b
    fPack neg q (-(k : Int)) (decide (a <<< k % b ≠ 0))

/-- The binary32 nearest to a / b for an integer a, b > 0. -/
def fRatI (a : Int) (b : Nat) : Nat := fRatio (decide (a < 0)) a.natAbs b

/-- The binary32 nearest to an integer. -/
def fOfInt (x : Int) : Nat := fPackI x 0
def fOfNat (x : Nat) : Nat := fPack false x 0

def fIsNaN (x : Nat) : Bool := bits x 23 8 = 255 && bits x 0 23 ≠ 0
def fIsInf (x : Nat) : Bool := bits x 23 8 = 255 && bits x 0 23 = 0
/-- Neither a NaN nor an infinity. -/
def fFinite (x : Nat) : Bool := bits x 23 8 ≠ 255
def fNeg (x : Nat) : Nat := x ^^^ 0x80000000
def fAbs (x : Nat) : Nat := x % 0x80000000

/-- (−1)^neg · m as an integer. -/
def signed (neg : Bool) (m : Nat) : Int := if neg then -(m : Int) else (m : Int)

/-- Two finite values over one exponent: their scaled integers and that exponent. -/
def alignF (n1 : Bool) (m1 : Nat) (e1 : Int) (n2 : Bool) (m2 : Nat) (e2 : Int) : Int × Int × Int :=
  let e := if e1 < e2 then e1 else e2
  (signed n1 (m1 <<< (e1 - e).toNat), signed n2 (m2 <<< (e2 - e).toNat), e)

/-- An exact finite sum rounded once; an exact zero is −0 only when both parts are (R191, nearest). -/
def fSumFin (n1 : Bool) (m1 : Nat) (e1 : Int) (n2 : Bool) (m2 : Nat) (e2 : Int) : Nat :=
  let (a, b, e) := alignF n1 m1 e1 n2 m2 e2
  if a + b = 0 then fZero (n1 && n2 && decide (m1 = 0 ∧ m2 = 0)) else fPackI (a + b) e

def fSumV : FVal → FVal → Nat
  | .nan, _ => fNaN
  | _, .nan => fNaN
  | .inf a, .inf b => if a = b then fInf a else fNaN
  | .inf a, .fin _ _ _ => fInf a
  | .fin _ _ _, .inf b => fInf b
  | .fin n1 m1 e1, .fin n2 m2 e2 => fSumFin n1 m1 e1 n2 m2 e2

/-- The exact product, before rounding. -/
def fMulV : FVal → FVal → FVal
  | .nan, _ => .nan
  | _, .nan => .nan
  | .inf a, .inf b => .inf (a ^^ b)
  | .inf a, .fin b m _ => if m = 0 then .nan else .inf (a ^^ b)
  | .fin a m _, .inf b => if m = 0 then .nan else .inf (a ^^ b)
  | .fin a m1 e1, .fin b m2 e2 => .fin (a ^^ b) (m1 * m2) (e1 + e2)

/-- Round an exact value. -/
def fClose : FVal → Nat
  | .nan => fNaN
  | .inf n => fInf n
  | .fin n m e => fPack n m e

def fAdd (x y : Nat) : Nat := fSumV (fOpen x) (fOpen y)
def fSub (x y : Nat) : Nat := fSumV (fOpen x) (fOpen (fNeg y))
def fMul (x y : Nat) : Nat := fClose (fMulV (fOpen x) (fOpen y))
/-- x · y + z with one rounding (R191: "fma is fused, with one rounding"). -/
def fFma (x y z : Nat) : Nat := fSumV (fMulV (fOpen x) (fOpen y)) (fOpen z)

def fDivV : FVal → FVal → Nat
  | .nan, _ => fNaN
  | _, .nan => fNaN
  | .inf _, .inf _ => fNaN
  | .inf a, .fin b _ _ => fInf (a ^^ b)
  | .fin a _ _, .inf b => fZero (a ^^ b)
  | .fin a m1 e1, .fin b m2 e2 =>
    if m2 = 0 then (if m1 = 0 then fNaN else fInf (a ^^ b))
    else if m1 = 0 then fZero (a ^^ b)
    else
      let q := m1 <<< 64 / m2
      fPack (a ^^ b) q (e1 - e2 - 64) (decide (m1 <<< 64 % m2 ≠ 0))

/-- Correctly rounded quotient (R191). -/
def fDiv (x y : Nat) : Nat := fDivV (fOpen x) (fOpen y)

/-- The integer square root of n, by k bits of trial from the top. -/
def isqrtLoop (n : Nat) : Nat → Nat → Nat
  | 0, r => r
  | k + 1, r =>
    let r' := r + 2 ^ k
    isqrtLoop n k (if r' * r' ≤ n then r' else r)

/-- ⌊√n⌋. -/
def isqrt (n : Nat) : Nat := isqrtLoop n (Nat.log2 n / 2 + 1) 0

def fSqrtV : FVal → Nat
  | .nan => fNaN
  | .inf n => if n then fNaN else fInf false
  | .fin n m e =>
    if m = 0 then fZero n
    else if n then fNaN
    else
      let odd : Nat := (e % 2).toNat
      let w := m <<< (60 + odd)
      let r := isqrt w
      fPack false r ((e - (odd : Int) - 60) / 2) (decide (r * r ≠ w))

/-- Correctly rounded square root (R191). -/
def fSqrt (x : Nat) : Nat := fSqrtV (fOpen x)

/-- A total order key of the non-NaN values: both zeros and every subnormal are 0. -/
def fKey (x : Nat) : Int :=
  if bits x 23 8 = 0 then 0 else if x.testBit 31 then -((x % 0x80000000 : Nat) : Int) else (x : Int)

def fLt (x y : Nat) : Bool := !fIsNaN x && !fIsNaN y && decide (fKey x < fKey y)
def fLe (x y : Nat) : Bool := !fIsNaN x && !fIsNaN y && decide (fKey x ≤ fKey y)
def fGe (x y : Nat) : Bool := fLe y x
def fGt (x y : Nat) : Bool := fLt y x
def fEq (x y : Nat) : Bool := !fIsNaN x && !fIsNaN y && decide (fKey x = fKey y)
/-- A subnormal operand is a zero of its sign (R191). -/
def fFlush (x : Nat) : Nat := if bits x 23 8 = 0 then putBits 0 31 1 (bits x 31 1) else x
def fMin (x y : Nat) : Nat := fFlush (if fLt y x then y else x)
def fMax (x y : Nat) : Nat := fFlush (if fLt x y then y else x)
def fClamp (lo hi x : Nat) : Nat := if fLt x lo then lo else if fLt hi x then hi else x

/-- A finite value as scaled integer over 2^k: ⌊x · 2^k⌋ (0 for NaN and the infinities). -/
def fFloorAt (x : Nat) (k : Nat) : Int :=
  match fOpen x with
  | .fin n m e =>
    let s := e + k
    if s ≥ 0 then signed n (m <<< s.toNat) else (signed n m).fdiv (2 ^ (-s).toNat)
  | _ => 0

/-- The nearest integer to x, ties to even (0 for NaN and the infinities). -/
def fNearest (x : Nat) : Int :=
  match fOpen x with
  | .fin n m e => if e ≥ 0 then signed n (m <<< e.toNat) else rneDiv (signed n m) (2 ^ (-e).toNat)
  | _ => 0

/-- x with its fraction cut off towards zero (0 for NaN and the infinities). -/
def fTrunc (x : Nat) : Int :=
  match fOpen x with
  | .fin n m e => if e ≥ 0 then signed n (m <<< e.toNat) else signed n (m >>> (-e).toNat)
  | _ => 0

/-- π with 256 fraction bits. -/
def piQ : Nat := 0x3243f6a8885a308d313198a2e03707344a4093822299f31d0082efa98ec4e6c89

/-- ln 2 with 128 fraction bits. -/
def ln2Q : Nat := 0xb17217f7d1cf79abc9e3b39803f2f6af

/-- The terms of a sine or cosine series in fixed point with 96 fraction bits: t is the present
term, x2 the square of the angle, j the last factor of the factorial. -/
def trigSeries (x2 : Int) : Nat → Nat → Int → Int → Int
  | 0, _, _, acc => acc
  | n + 1, j, t, acc =>
    let t' := -(t * x2 / 2 ^ 96) / ((j + 1) * (j + 2) : Nat)
    trigSeries x2 n (j + 2) t' (acc + t')

/-- A finite angle reduced modulo 2π to −π … π, in fixed point with 96 fraction bits. -/
def reduceAngle (x : Nat) : Int :=
  let v := fFloorAt x 256
  let r := v % ((2 * piQ : Nat) : Int)
  let r' := if (piQ : Int) < r then r - (2 * piQ : Nat) else r
  r' / 2 ^ 160

/-- The sine of an angle in fixed point with 96 fraction bits. -/
def sinQ (a : Int) : Int := trigSeries (a * a / 2 ^ 96) 24 1 a a
/-- The cosine of an angle in fixed point with 96 fraction bits. -/
def cosQ (a : Int) : Int := trigSeries (a * a / 2 ^ 96) 24 0 (2 ^ 96) (2 ^ 96)

/-- A sine or cosine with the device's own error, which R191 bounds by 2⁻²² in all: the opaque error
is limited to 2⁻²² − 2⁻²⁴, which leaves room for the rounding. -/
def fTrigOf (q : Int) (err : Int) : Nat :=
  fPackI (q / 2 ^ 56 + clampI (-(2 ^ 18 - 2 ^ 16)) (2 ^ 18 - 2 ^ 16) err) (-40)

def fSin (x : Nat) : Nat :=
  if fFinite x then fTrigOf (sinQ (reduceAngle x)) (Config.trigError x 0) else fNaN
def fCos (x : Nat) : Nat :=
  if fFinite x then fTrigOf (cosQ (reduceAngle x)) (Config.trigError x 1) else fNaN

/-- The exponential series in fixed point with 96 fraction bits. -/
def expSeries (x : Int) : Nat → Nat → Int → Int → Int
  | 0, _, _, acc => acc
  | n + 1, j, t, acc => let t' := t * x / 2 ^ 96 / (j + 1 : Nat); expSeries x n (j + 1) t' (acc + t')

/-- The binary32 nearest to eˣ, to within the last place of a 90-bit computation. -/
def fExp (x : Nat) : Nat :=
  if fIsNaN x then fNaN
  else if fLt 0x42B80000 x then fInf false
  else if fLt x 0xC2D00000 then 0
  else
    let v := fFloorAt x 96
    let l := ((ln2Q >>> 32 : Nat) : Int)
    let k := v.fdiv l
    fPackI (expSeries (v - k * l) 30 0 (2 ^ 96) (2 ^ 96)) (k - 96)

/-- atanh y = Σ y^(2n+1)/(2n+1) in fixed point with 96 fraction bits. -/
def atanhSeries (y2 : Int) : Nat → Nat → Int → Int → Int
  | 0, _, _, acc => acc
  | n + 1, j, t, acc => let t' := t * y2 / 2 ^ 96; atanhSeries y2 n (j + 2) t' (acc + t' / (j + 2 : Nat))

/-- The binary32 nearest to the natural logarithm, to within the last place of a 90-bit computation;
a NaN for a negative value, −∞ for zero. -/
def fLn (x : Nat) : Nat :=
  match fOpen x with
  | .nan => fNaN
  | .inf n => if n then fNaN else fInf false
  | .fin n m e =>
    if m = 0 then fInf true
    else if n then fNaN
    else
      let k := (Nat.log2 m : Int) + e
      let r : Int := ((m <<< (96 - Nat.log2 m) : Nat) : Int)
      let y := (r - 2 ^ 96) * 2 ^ 96 / (r + 2 ^ 96)
      fPackI (2 * atanhSeries (y * y / 2 ^ 96) 60 1 y y + k * (ln2Q >>> 32 : Nat)) (-96)

/-- arctan of y / x for 0 ≤ y ≤ x, x > 0, in fixed point with 96 fraction bits, by halving the angle
three times and summing the series. -/
def atanQ (y x : Nat) : Int :=
  let half (p : Int × Int) : Int × Int :=
    (p.1, p.2 + (isqrt (p.1 * p.1 + p.2 * p.2).toNat : Int))
  let s : Int × Int := half (half (half ((y <<< 100 : Nat), (x <<< 100 : Nat))))
  let t := s.1 * 2 ^ 96 / s.2
  let rec series (t2 : Int) : Nat → Nat → Int → Int → Int
    | 0, _, _, acc => acc
    | n + 1, j, u, acc => let u' := -(u * t2 / 2 ^ 96); series t2 n (j + 2) u' (acc + u' / (j + 2 : Nat))
  8 * series (t * t / 2 ^ 96) 40 1 t t

/-- atan2(y, x) in radians of finite operands, 0 at the origin, with the device's own error, which R220 bounds by
2⁻²⁰ in all: the opaque error is limited to 2⁻²⁰ − 2⁻²², which leaves room for the rounding. -/
def fAtan2 (y x : Nat) : Nat :=
  match fOpen y, fOpen x with
  | .fin ny my ey, .fin nx mx ex =>
    let (a, b, _) := alignF false my ey false mx ex
    let pi96 : Int := ((piQ >>> 160 : Nat) : Int)
    let q :=
      if a = 0 ∧ b = 0 then 0
      else if a ≤ b then atanQ a.toNat b.toNat
      else pi96 / 2 - atanQ b.toNat a.toNat
    let q' := if nx ∧ ¬(a = 0 ∧ b = 0) then pi96 - q else q
    let err := clampI (-(2 ^ 76 - 2 ^ 74)) (2 ^ 76 - 2 ^ 74) (Config.trigError (y * 2 ^ 32 + x) 2 * 2 ^ 56)
    fPackI ((if ny then -q' else q') + err) (-96)
  | _, _ => fNaN

/-- x modulo 2π, in 0 … 2π. -/
def fMod2pi (x : Nat) : Nat :=
  if fFinite x then fPackI (fFloorAt x 256 % ((2 * piQ : Nat) : Int)) (-256) else fNaN

/-- The smaller and the greater of two values, NaN where one is NaN. -/
def nMin (x y : Nat) : Nat := if fIsNaN x || fIsNaN y then fNaN else fMin x y
def nMax (x y : Nat) : Nat := if fIsNaN x || fIsNaN y then fNaN else fMax x y
def nClamp (lo hi x : Nat) : Nat := nMin (nMax x lo) hi

/-! ### Binary64 sums (R332), on taken-apart values -/

/-- Round an exact value to binary64's 53 bits; the range is wide enough for every sum of finite
binary32 values, so no overflow is judged. -/
def dRound : FVal → FVal
  | .fin n m e => if m = 0 then .fin n 0 0 else let (q, e') := roundSig 53 m e false; .fin n q e'
  | v => v

/-- A binary64 sum. -/
def dAdd (a b : FVal) : FVal :=
  match a, b with
  | .fin n1 m1 e1, .fin n2 m2 e2 =>
    let (x, y, e) := alignF n1 m1 e1 n2 m2 e2
    dRound (.fin (decide (x + y < 0)) (x + y).natAbs e)
  | .nan, _ => .nan
  | _, .nan => .nan
  | .inf p, .inf q => if p = q then .inf p else .nan
  | .inf p, _ => .inf p
  | _, .inf q => .inf q

/-- A binary64 product. -/
def dMul (a b : FVal) : FVal := dRound (fMulV a b)

/-- The value v / n rounded to 96 bits, for a later rounding. -/
def dDivN (v : FVal) (n : Nat) : FVal :=
  match v with
  | .fin s m e => if n = 0 then .nan else dRound (.fin s (m <<< 80 / n) (e - 80))
  | w => w

end Sys2Proof.Machine
end

