-- ==== Sys2Proof/Machine/Reg.lean ====
section
/-!
DEFINITION. What a register field is: where it lies in BAR0, how it is accessed (R11), what it holds
after reset and which values a write may give it (R48, R49). The tables of fields, one line each, are
in Machine/Regs.lean.
-/
namespace Sys2Proof.Machine

/-- The modes in which an RWL field may be written: STANDBY, SERVICE and FACTORY; SERVICE and
FACTORY; FACTORY only. -/
inductive ModeSet where
  | ssf | sf | f
  deriving DecidableEq, Repr

/-- Access types of Table 0.3. `rov` is RO whose value the model computes when it is read (a mirror
of other state); `w1ch` is W1C whose clear has its own rule (refused while a cause persists, or with
further effects). -/
inductive Acc where
  | rw | ro | rov | w1c | w1ch | wo
  | rwl (modes : ModeSet)
  deriving DecidableEq, Repr

/-- The values a field may take (R48, R49). -/
inductive Chk where
  /-- every value of the field's width -/
  | any
  /-- a number, clamped into lo to hi -/
  | rng (lo hi : Nat)
  /-- 0, or a number of lo to hi: the nearest of these, the lower on a tie -/
  | zrng (lo hi : Nat)
  /-- a two's complement number, clamped into lo to hi -/
  | srng (lo hi : Int)
  /-- a code out of a list; an undefined code keeps the field's value -/
  | codes (l : List Nat)
  /-- one of a set of numbers: the nearest, the lower on a tie -/
  | set (l : List Nat)
  /-- a code that the predicate on the indices i, j and the value admits; else the value is kept -/
  | pred (ok : Nat → Nat → Nat → Bool)
  /-- a binary32 clamped into lo to hi; a NaN keeps the value, and so does an infinity where `fin` -/
  | f32 (lo hi : Nat) (fin : Bool)
  /-- a binary32 clamped into a range that depends on the index i; a NaN keeps the value -/
  | f32i (lo hi : Nat → Nat)
  /-- any binary32 but a NaN, which keeps the value -/
  | f32nan
  /-- a multiple of k, the nearest, the lower on a tie -/
  | mul (k : Nat)

/-- A register field: BAR0 offset of its register, bits, access, reset value by its indices i and j
(the register of indices i, j lies at off + i·iStr + j·jStr), range check, and the indices i at which
the field is read-only. -/
structure Fld where
  off : Nat
  lsb : Nat
  width : Nat
  acc : Acc
  rst : Nat → Nat → Nat
  iN : Nat := 1
  iStr : Nat := 0
  jN : Nat := 1
  jStr : Nat := 0
  chk : Chk := .any
  roAt : Nat → Bool := fun _ => false

/-- BAR0 offset of the register that holds the field at indices i, j. -/
def Fld.addr (f : Fld) (i j : Nat) : Nat := f.off + i * f.iStr + j * f.jStr

/-- The field's own key in the register file: its bit address in BAR0. -/
def Fld.key (f : Fld) (i j : Nat) : Nat := 8 * f.addr i j + f.lsb

/-- The field's reset value at i, j. -/
def Fld.reset (f : Fld) (i j : Nat) : Nat := f.rst i j % 2 ^ f.width

/-- |a − b| of two numbers. -/
def natDist (a b : Nat) : Nat := if a ≤ b then b - a else a - b

/-- The member of the list nearest to v, the lower on a tie; v itself on an empty list. -/
def nearestOf (l : List Nat) (v : Nat) : Nat :=
  match l with
  | [] => v
  | x :: xs =>
    xs.foldl (fun b y =>
      if natDist y v < natDist b v || (natDist y v = natDist b v && y < b) then y else b) x

/-- The value a field takes when v is requested and `old` is its present value (R49). -/
def Chk.apply (c : Chk) (i j width old v : Nat) : Nat :=
  match c with
  | .any => v
  | .rng lo hi => clampN lo hi v
  | .zrng lo hi => if v = 0 then 0 else if v < lo then (if 2 * v ≤ lo then 0 else lo) else clampN lo hi v
  | .srng lo hi => tcode (clampI lo hi (sext v width)) width
  | .codes l => if l.contains v then v else old
  | .set l => nearestOf l v
  | .pred ok => if ok i j v then v else old
  | .f32 lo hi fin =>
    if fIsNaN v || (fin && fIsInf v) then old
    else if fLt v lo then lo else if fLt hi v then hi else v
  | .f32i lo hi => if fIsNaN v then old else fClamp (lo i) (hi i) v
  | .f32nan => if fIsNaN v then old else v
  | .mul k =>
    let q := v / k * k
    if 2 * (v - q) ≤ k then q else if q + k < 2 ^ width then q + k else q

end Sys2Proof.Machine
end

