-- ==== Sys2Proof/Machine/Regs.lean ====
section
/-!
DEFINITION. Every field of every register of BAR0, from the register tables of spec/ (Table 20.1 gives
the blocks), one line each: offset, bits, access, reset value and range. Reserved bits have no line:
they read 0 and ignore writes (R14).
-/
namespace Sys2Proof.Machine

/-- CW096 to CW191 are the hard windows (Table 6.1). -/
def isHardWin (w : Nat) : Bool := 96 ≤ w && w < 192

/-- A point a mailbox may be bound to: sensor, state or output partition (R208, R180). -/
def mboxPoint (sp : Nat) : Bool := sp < 0x20000 || (0x34000 ≤ sp && sp < 0x38000)

/-- The LEVEL range of a curve point in curve block i = 4·kind + set (R242): 0 to 2.0 pu for UV and OV,
40 to 70 Hz for UF and OF. -/
def crvLevelLo (i : Nat) : Nat := if i / 4 < 2 then 0 else 0x42200000
def crvLevelHi (i : Nat) : Nat := if i / 4 < 2 then 0x40000000 else 0x428C0000

/-! ### GLB: R440 (Tables 20.2, 20.3), Tables 1.7, 2.1, 2.5, 2.6 -/

def GLB.ID_DEVICE : Fld := { off := 0x000000 + 0x0000, lsb := 16, width := 16, acc := .rov, rst := (fun _ _ => 0x9600) }
def GLB.ID_VENDOR : Fld := { off := 0x000000 + 0x0000, lsb := 0, width := 16, acc := .rov, rst := (fun _ _ => 0) }
def GLB.REV_VARIANT : Fld := { off := 0x000000 + 0x0004, lsb := 16, width := 4, acc := .rov, rst := (fun _ _ => 0) }
def GLB.REV_STEP : Fld := { off := 0x000000 + 0x0004, lsb := 8, width := 8, acc := .rov, rst := (fun _ _ => 0x10) }
def GLB.REV_LAYOUT : Fld := { off := 0x000000 + 0x0004, lsb := 0, width := 8, acc := .rov, rst := (fun _ _ => 1) }
def GLB.UNITS : Fld := { off := 0x000000 + 0x0008, lsb := 0, width := 25, acc := .rov, rst := (fun _ _ => 0) }
def GLB.FW_MAJOR : Fld := { off := 0x000000 + 0x000C, lsb := 24, width := 8, acc := .rov, rst := (fun _ _ => 0) }
def GLB.FW_MINOR : Fld := { off := 0x000000 + 0x000C, lsb := 16, width := 8, acc := .rov, rst := (fun _ _ => 0) }
def GLB.FW_BUILD : Fld := { off := 0x000000 + 0x000C, lsb := 1, width := 15, acc := .rov, rst := (fun _ _ => 0) }
def GLB.FW_SLOT : Fld := { off := 0x000000 + 0x000C, lsb := 0, width := 1, acc := .rov, rst := (fun _ _ => 0) }
def GLB.MODE_CAUSE : Fld := { off := 0x000000 + 0x0010, lsb := 24, width := 8, acc := .rov, rst := (fun _ _ => 0) }
def GLB.MODE_TARGET : Fld := { off := 0x000000 + 0x0010, lsb := 20, width := 4, acc := .rov, rst := (fun _ _ => 0) }
def GLB.MODE_SEQ : Fld := { off := 0x000000 + 0x0010, lsb := 8, width := 8, acc := .rov, rst := (fun _ _ => 0) }
def GLB.MODE_PREV : Fld := { off := 0x000000 + 0x0010, lsb := 4, width := 4, acc := .rov, rst := (fun _ _ => 0) }
def GLB.MODE_CUR : Fld := { off := 0x000000 + 0x0010, lsb := 0, width := 4, acc := .rov, rst := (fun _ _ => 1) }
def GLB.MODE_TIME : Fld := { off := 0x000000 + 0x0018, lsb := 0, width := 64, acc := .rov, rst := (fun _ _ => 0) }
def GLB.MODECFG_HWDT_MS : Fld := { off := 0x000000 + 0x0020, lsb := 16, width := 16, acc := .rw, rst := (fun _ _ => 0) }
def GLB.MODECFG_AUTO_RESTART : Fld := { off := 0x000000 + 0x0020, lsb := 1, width := 1, acc := .rw, rst := (fun _ _ => 0) }
def GLB.MODECFG_AUTO_DAWN : Fld := { off := 0x000000 + 0x0020, lsb := 0, width := 1, acc := .rw, rst := (fun _ _ => 0) }
def GLB.PRESTART_TMO : Fld := { off := 0x000000 + 0x0028, lsb := 0, width := 16, acc := .rw, rst := (fun _ _ => 300), chk := (.rng 10 65535) }
def GLB.HWDT_KICK : Fld := { off := 0x000000 + 0x0030, lsb := 0, width := 1, acc := .wo, rst := (fun _ _ => 0) }
def GLB.FKEY : Fld := { off := 0x000000 + 0x0038, lsb := 0, width := 16, acc := .wo, rst := (fun _ _ => 0) }
def GLB.READY : Fld := { off := 0x000000 + 0x0040, lsb := 0, width := 48, acc := .ro, rst := (fun _ _ => 0) }
def GLB.CLAMP_LOST : Fld := { off := 0x000000 + 0x0048, lsb := 0, width := 32, acc := .ro, rst := (fun _ _ => 0) }
def GLB.EVT_UNROUTED : Fld := { off := 0x000000 + 0x004C, lsb := 0, width := 32, acc := .ro, rst := (fun _ _ => 0) }
def GLB.CAP0_ADC_CORES : Fld := { off := 0x000000 + 0x0050, lsb := 48, width := 8, acc := .rov, rst := (fun _ _ => 18) }
def GLB.CAP0_RINGS : Fld := { off := 0x000000 + 0x0050, lsb := 40, width := 8, acc := .rov, rst := (fun _ _ => 64) }
def GLB.CAP0_SDI : Fld := { off := 0x000000 + 0x0050, lsb := 32, width := 8, acc := .rov, rst := (fun _ _ => 16) }
def GLB.CAP0_AIN : Fld := { off := 0x000000 + 0x0050, lsb := 24, width := 8, acc := .rov, rst := (fun _ _ => 160) }
def GLB.CAP0_WINDOWS : Fld := { off := 0x000000 + 0x0050, lsb := 16, width := 8, acc := .rov, rst := (fun _ _ => 224) }
def GLB.CAP0_TRIP_GROUPS : Fld := { off := 0x000000 + 0x0050, lsb := 8, width := 8, acc := .rov, rst := (fun _ _ => 32) }
def GLB.CAP0_LEGS : Fld := { off := 0x000000 + 0x0050, lsb := 0, width := 8, acc := .rov, rst := (fun _ _ => 96) }
def GLB.CAP1_TASKS : Fld := { off := 0x000000 + 0x0058, lsb := 48, width := 16, acc := .rov, rst := (fun _ _ => 512) }
def GLB.CAP1_NODES : Fld := { off := 0x000000 + 0x0058, lsb := 32, width := 16, acc := .rov, rst := (fun _ _ => 4096) }
def GLB.CAP1_SEGMENTS : Fld := { off := 0x000000 + 0x0058, lsb := 24, width := 8, acc := .rov, rst := (fun _ _ => 24) }
def GLB.CAP1_CADENCES : Fld := { off := 0x000000 + 0x0058, lsb := 16, width := 8, acc := .rov, rst := (fun _ _ => 64) }
def GLB.CAP1_MEM_MIB : Fld := { off := 0x000000 + 0x0058, lsb := 0, width := 16, acc := .rov, rst := (fun _ _ => 112) }
def GLB.QCLR : Fld := { off := 0x000000 + 0x07F8, lsb := 0, width := 1, acc := .wo, rst := (fun _ _ => 0) }
def GLB.QSTAT_STALL_CNT : Fld := { off := 0x000000 + 0x0800, lsb := 32, width := 32, acc := .ro, rst := (fun _ _ => 0), jN := 128, jStr := 8 }
def GLB.QSTAT_HWM : Fld := { off := 0x000000 + 0x0800, lsb := 16, width := 9, acc := .ro, rst := (fun _ _ => 0), jN := 128, jStr := 8 }
def GLB.QSTAT_CREDITS : Fld := { off := 0x000000 + 0x0800, lsb := 0, width := 9, acc := .rov, rst := (fun _ _ => 0), jN := 128, jStr := 8 }

/-- Every field of the GLB registers.  -/
def GLB.flds : List Fld :=
  [GLB.ID_DEVICE, GLB.ID_VENDOR, GLB.REV_VARIANT, GLB.REV_STEP, GLB.REV_LAYOUT, GLB.UNITS, GLB.FW_MAJOR, GLB.FW_MINOR, GLB.FW_BUILD, GLB.FW_SLOT, GLB.MODE_CAUSE, GLB.MODE_TARGET, GLB.MODE_SEQ, GLB.MODE_PREV, GLB.MODE_CUR, GLB.MODE_TIME, GLB.MODECFG_HWDT_MS, GLB.MODECFG_AUTO_RESTART, GLB.MODECFG_AUTO_DAWN, GLB.PRESTART_TMO, GLB.HWDT_KICK, GLB.FKEY, GLB.READY, GLB.CLAMP_LOST] ++
  [GLB.EVT_UNROUTED, GLB.CAP0_ADC_CORES, GLB.CAP0_RINGS, GLB.CAP0_SDI, GLB.CAP0_AIN, GLB.CAP0_WINDOWS, GLB.CAP0_TRIP_GROUPS, GLB.CAP0_LEGS, GLB.CAP1_TASKS, GLB.CAP1_NODES, GLB.CAP1_SEGMENTS, GLB.CAP1_CADENCES, GLB.CAP1_MEM_MIB, GLB.QCLR, GLB.QSTAT_STALL_CNT, GLB.QSTAT_HWM, GLB.QSTAT_CREDITS]

/-! ### CLK: R435, Table 19.4 -/

def CLK.STAT_PLAN : Fld := { off := 0x010000 + 0x000, lsb := 16, width := 3, acc := .ro, rst := (fun _ _ => 0) }
def CLK.STAT_HOP_BUSY : Fld := { off := 0x010000 + 0x000, lsb := 8, width := 1, acc := .ro, rst := (fun _ _ => 0) }
def CLK.STAT_SEARCHING : Fld := { off := 0x010000 + 0x000, lsb := 7, width := 1, acc := .ro, rst := (fun _ _ => 0) }
def CLK.STAT_ALIGN_OFF : Fld := { off := 0x010000 + 0x000, lsb := 5, width := 1, acc := .ro, rst := (fun _ _ => 0) }
def CLK.STAT_ALIGNED : Fld := { off := 0x010000 + 0x000, lsb := 4, width := 1, acc := .ro, rst := (fun _ _ => 0) }
def CLK.STAT_REF_LOST : Fld := { off := 0x010000 + 0x000, lsb := 3, width := 1, acc := .ro, rst := (fun _ _ => 0) }
def CLK.STAT_REF10 : Fld := { off := 0x010000 + 0x000, lsb := 0, width := 1, acc := .ro, rst := (fun _ _ => 0) }
def CLK.EPOCH : Fld := { off := 0x010000 + 0x004, lsb := 0, width := 20, acc := .rw, rst := (fun _ _ => 1000), chk := (.rng 1 1000000) }
def CLK.ALIGN_EN : Fld := { off := 0x010000 + 0x008, lsb := 31, width := 1, acc := .rw, rst := (fun _ _ => 1) }
def CLK.ALIGN_OFS : Fld := { off := 0x010000 + 0x008, lsb := 0, width := 16, acc := .rw, rst := (fun _ _ => 0) }
def CLK.ALIGN_ERR : Fld := { off := 0x010000 + 0x00C, lsb := 0, width := 32, acc := .ro, rst := (fun _ _ => 0) }
def CLK.BAND_VALID : Fld := { off := 0x010000 + 0x020, lsb := 63, width := 1, acc := .ro, rst := (fun _ _ => 0), jN := 8, jStr := 8 }
def CLK.BAND_CODE : Fld := { off := 0x010000 + 0x020, lsb := 32, width := 16, acc := .ro, rst := (fun _ _ => 0), jN := 8, jStr := 8 }
def CLK.BAND_MODE : Fld := { off := 0x010000 + 0x020, lsb := 30, width := 2, acc := .rw, rst := (fun _ _ => 0), jN := 8, jStr := 8, chk := (.codes [0, 1, 2]) }
def CLK.BAND_WIDTH : Fld := { off := 0x010000 + 0x020, lsb := 16, width := 8, acc := .rw, rst := (fun _ _ => 0), jN := 8, jStr := 8, chk := (.rng 0 200) }
def CLK.BAND_MOD_HZ : Fld := { off := 0x010000 + 0x020, lsb := 0, width := 15, acc := .rw, rst := (fun _ _ => 1000), jN := 8, jStr := 8, chk := (.rng 1000 30000) }
def CLK.OUT_EN : Fld := { off := 0x010000 + 0x060, lsb := 31, width := 1, acc := .rw, rst := (fun _ _ => 0), jN := 12, jStr := 4 }
def CLK.OUT_FMT : Fld := { off := 0x010000 + 0x060, lsb := 24, width := 2, acc := .rw, rst := (fun _ _ => 0), jN := 12, jStr := 4, chk := (.codes [0, 1, 2]) }
def CLK.OUT_DIV : Fld := { off := 0x010000 + 0x060, lsb := 0, width := 9, acc := .rw, rst := (fun _ _ => 100), jN := 12, jStr := 4, chk := (.rng 64 400) }
def CLK.AUX : Fld := { off := 0x010000 + 0x090, lsb := 0, width := 9, acc := .rw, rst := (fun _ _ => 400), chk := (.rng 320 400) }
def CLK.AUX_STAT_FREQ_ERR : Fld := { off := 0x010000 + 0x094, lsb := 16, width := 12, acc := .ro, rst := (fun _ _ => 0) }
def CLK.AUX_STAT_RUN : Fld := { off := 0x010000 + 0x094, lsb := 0, width := 12, acc := .ro, rst := (fun _ _ => 0) }

/-- Every field of the CLK registers.  -/
def CLK.flds : List Fld :=
  [CLK.STAT_PLAN, CLK.STAT_HOP_BUSY, CLK.STAT_SEARCHING, CLK.STAT_ALIGN_OFF, CLK.STAT_ALIGNED, CLK.STAT_REF_LOST, CLK.STAT_REF10, CLK.EPOCH, CLK.ALIGN_EN, CLK.ALIGN_OFS, CLK.ALIGN_ERR, CLK.BAND_VALID, CLK.BAND_CODE, CLK.BAND_MODE, CLK.BAND_WIDTH, CLK.BAND_MOD_HZ, CLK.OUT_EN, CLK.OUT_FMT, CLK.OUT_DIV, CLK.AUX, CLK.AUX_STAT_FREQ_ERR, CLK.AUX_STAT_RUN]

/-! ### PWR: R419 -/

def PWR.STAT_PFW_SEEN : Fld := { off := 0x020000 + 0x000, lsb := 9, width := 1, acc := .ro, rst := (fun _ _ => 0) }
def PWR.STAT_PFW_N : Fld := { off := 0x020000 + 0x000, lsb := 8, width := 1, acc := .ro, rst := (fun _ _ => 0) }
def PWR.STAT_GOOD : Fld := { off := 0x020000 + 0x000, lsb := 0, width := 6, acc := .ro, rst := (fun _ _ => 0) }
def PWR.CFG_V33_THR : Fld := { off := 0x020000 + 0x004, lsb := 16, width := 9, acc := .rw, rst := (fun _ _ => 300), chk := (.rng 290 320) }
def PWR.CFG_PFW_SRC : Fld := { off := 0x020000 + 0x004, lsb := 0, width := 2, acc := .rw, rst := (fun _ _ => 2), chk := (.codes [0, 1, 2]) }
def PWR.LAST_RAIL : Fld := { off := 0x020000 + 0x008, lsb := 8, width := 4, acc := .ro, rst := (fun _ _ => 0) }
def PWR.LAST_CAUSE : Fld := { off := 0x020000 + 0x008, lsb := 0, width := 4, acc := .ro, rst := (fun _ _ => 0) }
def PWR.VMON : Fld := { off := 0x020000 + 0x010, lsb := 0, width := 16, acc := .ro, rst := (fun _ _ => 0), jN := 6, jStr := 4 }

/-- Every field of the PWR registers.  -/
def PWR.flds : List Fld :=
  [PWR.STAT_PFW_SEEN, PWR.STAT_PFW_N, PWR.STAT_GOOD, PWR.CFG_V33_THR, PWR.CFG_PFW_SRC, PWR.LAST_RAIL, PWR.LAST_CAUSE, PWR.VMON]

/-! ### RNG: R57, Tables 3.3 to 3.7 -/

def RNG.BASE : Fld := { off := 0x030000 + 0x00, lsb := 12, width := 52, acc := .rw, rst := (fun _ _ => 0), iN := 64, iStr := 0x40 }
def RNG.CFG_VECTOR : Fld := { off := 0x030000 + 0x08, lsb := 26, width := 6, acc := .rw, rst := (fun _ _ => 0), iN := 64, iStr := 0x40 }
def RNG.CFG_PRIO : Fld := { off := 0x030000 + 0x08, lsb := 24, width := 2, acc := .rw, rst := (fun _ _ => 0), iN := 64, iStr := 0x40 }
def RNG.CFG_SEQCHK : Fld := { off := 0x030000 + 0x08, lsb := 23, width := 1, acc := .rw, rst := (fun _ _ => 0), iN := 64, iStr := 0x40 }
def RNG.CFG_CQ : Fld := { off := 0x030000 + 0x08, lsb := 16, width := 5, acc := .rw, rst := (fun _ _ => 0), iN := 64, iStr := 0x40 }
def RNG.CFG_SIZE : Fld := { off := 0x030000 + 0x08, lsb := 8, width := 5, acc := .rw, rst := (fun _ _ => 4), iN := 64, iStr := 0x40, chk := (.rng 4 16) }
def RNG.CFG_IRQEN : Fld := { off := 0x030000 + 0x08, lsb := 3, width := 1, acc := .rw, rst := (fun _ _ => 0), iN := 64, iStr := 0x40 }
def RNG.CFG_CLASS : Fld := { off := 0x030000 + 0x08, lsb := 1, width := 2, acc := .rw, rst := (fun _ _ => 0), iN := 64, iStr := 0x40, chk := (.pred (fun q _ v=>v=0||(if q<32 then v=1 else v=2||v=3))) }
def RNG.CFG_ENABLE : Fld := { off := 0x030000 + 0x08, lsb := 0, width := 1, acc := .rw, rst := (fun _ _ => 0), iN := 64, iStr := 0x40 }
def RNG.DEVIDX : Fld := { off := 0x030000 + 0x10, lsb := 0, width := 16, acc := .ro, rst := (fun _ _ => 0), iN := 64, iStr := 0x40 }
def RNG.HOSTIDX : Fld := { off := 0x030000 + 0x14, lsb := 0, width := 16, acc := .ro, rst := (fun _ _ => 0), iN := 64, iStr := 0x40 }
def RNG.MOD_MOD_TIME : Fld := { off := 0x030000 + 0x18, lsb := 16, width := 16, acc := .rw, rst := (fun _ _ => 0), iN := 64, iStr := 0x40 }
def RNG.MOD_MOD_CNT : Fld := { off := 0x030000 + 0x18, lsb := 0, width := 16, acc := .rw, rst := (fun _ _ => 1), iN := 64, iStr := 0x40, chk := (.rng 1 65535) }
def RNG.STAT_PENDING : Fld := { off := 0x030000 + 0x1C, lsb := 16, width := 16, acc := .ro, rst := (fun _ _ => 0), iN := 64, iStr := 0x40 }
def RNG.STAT_ERR : Fld := { off := 0x030000 + 0x1C, lsb := 4, width := 4, acc := .ro, rst := (fun _ _ => 0), iN := 64, iStr := 0x40 }
def RNG.STAT_ARMED : Fld := { off := 0x030000 + 0x1C, lsb := 3, width := 1, acc := .ro, rst := (fun _ _ => 0), iN := 64, iStr := 0x40 }
def RNG.STAT_WAIT_CQ : Fld := { off := 0x030000 + 0x1C, lsb := 2, width := 1, acc := .ro, rst := (fun _ _ => 0), iN := 64, iStr := 0x40 }
def RNG.STAT_QUIESCED : Fld := { off := 0x030000 + 0x1C, lsb := 1, width := 1, acc := .ro, rst := (fun _ _ => 1), iN := 64, iStr := 0x40 }
def RNG.STAT_ACTIVE : Fld := { off := 0x030000 + 0x1C, lsb := 0, width := 1, acc := .ro, rst := (fun _ _ => 0), iN := 64, iStr := 0x40 }
def RNG.EVSEL : Fld := { off := 0x030000 + 0x20, lsb := 0, width := 11, acc := .rw, rst := (fun _ _ => 0), iN := 64, iStr := 0x40 }
def RNG.LOST : Fld := { off := 0x030000 + 0x24, lsb := 0, width := 32, acc := .ro, rst := (fun _ _ => 0), iN := 64, iStr := 0x40 }
def RNG.SEQ : Fld := { off := 0x030000 + 0x28, lsb := 0, width := 32, acc := .ro, rst := (fun _ _ => 0), iN := 64, iStr := 0x40 }

/-- Every field of the RNG registers.  -/
def RNG.flds : List Fld :=
  [RNG.BASE, RNG.CFG_VECTOR, RNG.CFG_PRIO, RNG.CFG_SEQCHK, RNG.CFG_CQ, RNG.CFG_SIZE, RNG.CFG_IRQEN, RNG.CFG_CLASS, RNG.CFG_ENABLE, RNG.DEVIDX, RNG.HOSTIDX, RNG.MOD_MOD_TIME, RNG.MOD_MOD_CNT, RNG.STAT_PENDING, RNG.STAT_ERR, RNG.STAT_ARMED, RNG.STAT_WAIT_CQ, RNG.STAT_QUIESCED, RNG.STAT_ACTIVE, RNG.EVSEL, RNG.LOST, RNG.SEQ]

/-! ### MSIX: R53, R55, R81 (the entry layout and the reset mask bit are PCIe's: log 8) -/

def MSIX.ADDR : Fld := { off := 0x3E0000 + 0x0, lsb := 2, width := 62, acc := .rw, rst := (fun _ _ => 0), iN := 64, iStr := 0x10 }
def MSIX.DATA : Fld := { off := 0x3E0000 + 0x8, lsb := 0, width := 32, acc := .rw, rst := (fun _ _ => 0), iN := 64, iStr := 0x10 }
def MSIX.CTRL : Fld := { off := 0x3E0000 + 0xC, lsb := 0, width := 1, acc := .rw, rst := (fun _ _ => 1), iN := 64, iStr := 0x10 }

/-- Every field of the MSIX registers.  -/
def MSIX.flds : List Fld :=
  [MSIX.ADDR, MSIX.DATA, MSIX.CTRL]

/-! ### PBA: R55 -/

def PBA.PBA : Fld := { off := 0x3E1000 + 0x0, lsb := 0, width := 64, acc := .ro, rst := (fun _ _ => 0) }

/-- Every field of the PBA registers.  -/
def PBA.flds : List Fld :=
  [PBA.PBA]

/-! ### BRK: R93, R133 -/

def BRK.CTRL_RESUME : Fld := { off := 0x110000 + 0x000, lsb := 1, width := 1, acc := .wo, rst := (fun _ _ => 0), iN := 8, iStr := 0x400 }
def BRK.CTRL_ENABLE : Fld := { off := 0x110000 + 0x000, lsb := 0, width := 1, acc := .rw, rst := (fun _ _ => 0), iN := 8, iStr := 0x400 }
def BRK.CFG : Fld := { off := 0x110000 + 0x004, lsb := 0, width := 1, acc := .rw, rst := (fun _ _ => 0), iN := 8, iStr := 0x400 }
def BRK.PERIOD : Fld := { off := 0x110000 + 0x008, lsb := 0, width := 24, acc := .rw, rst := (fun _ _ => 640000), iN := 8, iStr := 0x400, chk := (.rng 51200 12800000) }
def BRK.HALT : Fld := { off := 0x110000 + 0x00C, lsb := 0, width := 2, acc := .rw, rst := (fun _ _ => 0), iN := 8, iStr := 0x400, chk := (.codes [0, 1, 2]) }
def BRK.SYNC_SRC : Fld := { off := 0x110000 + 0x010, lsb := 30, width := 2, acc := .rw, rst := (fun _ _ => 0), iN := 8, iStr := 0x400, chk := (.codes [0, 1, 2]) }
def BRK.SYNC_REF : Fld := { off := 0x110000 + 0x010, lsb := 24, width := 3, acc := .rw, rst := (fun _ _ => 0), iN := 8, iStr := 0x400 }
def BRK.SYNC_OFFSET : Fld := { off := 0x110000 + 0x010, lsb := 0, width := 24, acc := .rw, rst := (fun _ _ => 0), iN := 8, iStr := 0x400 }
def BRK.STATUS_FREEZING : Fld := { off := 0x110000 + 0x014, lsb := 8, width := 1, acc := .ro, rst := (fun _ _ => 0), iN := 8, iStr := 0x400 }
def BRK.STATUS_FREEZE_DG : Fld := { off := 0x110000 + 0x014, lsb := 7, width := 1, acc := .w1c, rst := (fun _ _ => 0), iN := 8, iStr := 0x400 }
def BRK.STATUS_HALT_APPLIED : Fld := { off := 0x110000 + 0x014, lsb := 4, width := 3, acc := .ro, rst := (fun _ _ => 0), iN := 8, iStr := 0x400 }
def BRK.STATUS_HALTED : Fld := { off := 0x110000 + 0x014, lsb := 3, width := 1, acc := .ro, rst := (fun _ _ => 0), iN := 8, iStr := 0x400 }
def BRK.STATUS_DBL_INHIBIT : Fld := { off := 0x110000 + 0x014, lsb := 2, width := 1, acc := .ro, rst := (fun _ _ => 0), iN := 8, iStr := 0x400 }
def BRK.STATUS_DBL_ACTIVE : Fld := { off := 0x110000 + 0x014, lsb := 1, width := 1, acc := .ro, rst := (fun _ _ => 0), iN := 8, iStr := 0x400 }
def BRK.STATUS_RUN : Fld := { off := 0x110000 + 0x014, lsb := 0, width := 1, acc := .ro, rst := (fun _ _ => 0), iN := 8, iStr := 0x400 }
def BRK.PCOUNT : Fld := { off := 0x110000 + 0x018, lsb := 0, width := 64, acc := .ro, rst := (fun _ _ => 0), iN := 8, iStr := 0x400 }
def BRK.PERIOD_NOW : Fld := { off := 0x110000 + 0x020, lsb := 0, width := 24, acc := .ro, rst := (fun _ _ => 0), iN := 8, iStr := 0x400 }
def BRK.GCFG_VLED_UVT : Fld := { off := 0x110000 + 0x100, lsb := 16, width := 8, acc := .rw, rst := (fun _ _ => 150), iN := 8, iStr := 0x400, chk := (.rng 140 250) }
def BRK.GCFG_SPOL : Fld := { off := 0x110000 + 0x100, lsb := 3, width := 1, acc := (.rwl .ssf), rst := (fun _ _ => 0), iN := 8, iStr := 0x400 }
def BRK.GCFG_NOTCH : Fld := { off := 0x110000 + 0x100, lsb := 2, width := 1, acc := (.rwl .ssf), rst := (fun _ _ => 0), iN := 8, iStr := 0x400 }
def BRK.GCFG_DRV : Fld := { off := 0x110000 + 0x100, lsb := 0, width := 2, acc := (.rwl .ssf), rst := (fun _ _ => 0), iN := 8, iStr := 0x400, chk := (.codes [0, 1, 2]) }
def BRK.VLED_UV : Fld := { off := 0x110000 + 0x104, lsb := 16, width := 1, acc := .ro, rst := (fun _ _ => 0), iN := 8, iStr := 0x400 }
def BRK.VLED_MV : Fld := { off := 0x110000 + 0x104, lsb := 0, width := 16, acc := .ro, rst := (fun _ _ => 0), iN := 8, iStr := 0x400 }
def BRK.GBLK : Fld := { off := 0x110000 + 0x108, lsb := 0, width := 12, acc := .rov, rst := (fun _ _ => 0), iN := 8, iStr := 0x400 }

/-- Every field of the BRK registers.  -/
def BRK.flds : List Fld :=
  [BRK.CTRL_RESUME, BRK.CTRL_ENABLE, BRK.CFG, BRK.PERIOD, BRK.HALT, BRK.SYNC_SRC, BRK.SYNC_REF, BRK.SYNC_OFFSET, BRK.STATUS_FREEZING, BRK.STATUS_FREEZE_DG, BRK.STATUS_HALT_APPLIED, BRK.STATUS_HALTED, BRK.STATUS_DBL_INHIBIT, BRK.STATUS_DBL_ACTIVE, BRK.STATUS_RUN, BRK.PCOUNT, BRK.PERIOD_NOW, BRK.GCFG_VLED_UVT, BRK.GCFG_SPOL, BRK.GCFG_NOTCH, BRK.GCFG_DRV, BRK.VLED_UV, BRK.VLED_MV, BRK.GBLK]

/-! ### LEG: R95, R134 -/

def LEG.CMP_ON : Fld := { off := 0x100000 + 0x00, lsb := 0, width := 24, acc := .rw, rst := (fun _ _ => 0), iN := 96, iStr := 0x100 }
def LEG.CMP_OFF : Fld := { off := 0x100000 + 0x04, lsb := 0, width := 24, acc := .rw, rst := (fun _ _ => 0), iN := 96, iStr := 0x100 }
def LEG.COMMIT : Fld := { off := 0x100000 + 0x08, lsb := 0, width := 1, acc := .wo, rst := (fun _ _ => 0), iN := 96, iStr := 0x100 }
def LEG.PAIR_COMMIT_OFF : Fld := { off := 0x100000 + 0x10, lsb := 32, width := 24, acc := .wo, rst := (fun _ _ => 0), iN := 96, iStr := 0x100 }
def LEG.PAIR_COMMIT_ON : Fld := { off := 0x100000 + 0x10, lsb := 0, width := 24, acc := .wo, rst := (fun _ _ => 0), iN := 96, iStr := 0x100 }
def LEG.ACTIVE_OFF : Fld := { off := 0x100000 + 0x18, lsb := 32, width := 24, acc := .ro, rst := (fun _ _ => 0), iN := 96, iStr := 0x100 }
def LEG.ACTIVE_ON : Fld := { off := 0x100000 + 0x18, lsb := 0, width := 24, acc := .ro, rst := (fun _ _ => 0), iN := 96, iStr := 0x100 }
def LEG.PENDING_VALID : Fld := { off := 0x100000 + 0x20, lsb := 63, width := 1, acc := .ro, rst := (fun _ _ => 0), iN := 96, iStr := 0x100 }
def LEG.PENDING_OFF : Fld := { off := 0x100000 + 0x20, lsb := 32, width := 24, acc := .ro, rst := (fun _ _ => 0), iN := 96, iStr := 0x100 }
def LEG.PENDING_ON : Fld := { off := 0x100000 + 0x20, lsb := 0, width := 24, acc := .ro, rst := (fun _ _ => 0), iN := 96, iStr := 0x100 }
def LEG.PHASE : Fld := { off := 0x100000 + 0x28, lsb := 0, width := 12, acc := .rw, rst := (fun _ _ => 0), iN := 96, iStr := 0x100 }
def LEG.PHASE_NOW : Fld := { off := 0x100000 + 0x2C, lsb := 0, width := 12, acc := .ro, rst := (fun _ _ => 0), iN := 96, iStr := 0x100 }
def LEG.DT_RISE : Fld := { off := 0x100000 + 0x30, lsb := 0, width := 24, acc := .rw, rst := (fun _ _ => 12800), iN := 96, iStr := 0x100, chk := (.rng 0 102400) }
def LEG.DT_FALL : Fld := { off := 0x100000 + 0x34, lsb := 0, width := 24, acc := .rw, rst := (fun _ _ => 12800), iN := 96, iStr := 0x100, chk := (.rng 0 102400) }
def LEG.MINPW : Fld := { off := 0x100000 + 0x38, lsb := 0, width := 24, acc := .rw, rst := (fun _ _ => 6400), iN := 96, iStr := 0x100, chk := (.rng 0 25600) }
def LEG.CFG_EXPECT : Fld := { off := 0x100000 + 0x3C, lsb := 4, width := 4, acc := .rw, rst := (fun _ _ => 0), iN := 96, iStr := 0x100 }
def LEG.CFG_OWNPER : Fld := { off := 0x100000 + 0x3C, lsb := 3, width := 1, acc := .rw, rst := (fun _ _ => 0), iN := 96, iStr := 0x100 }
def LEG.CFG_LS_EN : Fld := { off := 0x100000 + 0x3C, lsb := 2, width := 1, acc := .rw, rst := (fun _ _ => 1), iN := 96, iStr := 0x100 }
def LEG.CFG_EXTREME : Fld := { off := 0x100000 + 0x3C, lsb := 0, width := 1, acc := .rw, rst := (fun _ _ => 0), iN := 96, iStr := 0x100 }
def LEG.ROLE : Fld := { off := 0x100000 + 0x40, lsb := 0, width := 3, acc := (.rwl .ssf), rst := (fun _ _ => 0), iN := 96, iStr := 0x100, chk := (.codes [0, 1, 2, 3, 4, 5, 6]) }
def LEG.CTRL_CNT_CLR : Fld := { off := 0x100000 + 0x44, lsb := 1, width := 1, acc := .wo, rst := (fun _ _ => 0), iN := 96, iStr := 0x100 }
def LEG.CTRL_HBLOCK : Fld := { off := 0x100000 + 0x44, lsb := 0, width := 1, acc := .rw, rst := (fun _ _ => 0), iN := 96, iStr := 0x100 }
def LEG.STATUS_RETIRED : Fld := { off := 0x100000 + 0x48, lsb := 15, width := 1, acc := .rov, rst := (fun _ _ => 0), iN := 96, iStr := 0x100 }
def LEG.STATUS_BLOCKED : Fld := { off := 0x100000 + 0x48, lsb := 14, width := 1, acc := .rov, rst := (fun _ _ => 0), iN := 96, iStr := 0x100 }
def LEG.STATUS_TIMING_CONFLICT : Fld := { off := 0x100000 + 0x48, lsb := 13, width := 1, acc := .ro, rst := (fun _ _ => 0), iN := 96, iStr := 0x100 }
def LEG.STATUS_PHASE_WALK : Fld := { off := 0x100000 + 0x48, lsb := 8, width := 1, acc := .ro, rst := (fun _ _ => 0), iN := 96, iStr := 0x100 }
def LEG.STATUS_HC : Fld := { off := 0x100000 + 0x48, lsb := 7, width := 1, acc := .ro, rst := (fun _ _ => 0), iN := 96, iStr := 0x100 }
def LEG.STATUS_SRC : Fld := { off := 0x100000 + 0x48, lsb := 6, width := 1, acc := .ro, rst := (fun _ _ => 0), iN := 96, iStr := 0x100 }
def LEG.STATUS_HELD : Fld := { off := 0x100000 + 0x48, lsb := 4, width := 1, acc := .ro, rst := (fun _ _ => 0), iN := 96, iStr := 0x100 }
def LEG.STATUS_EXT_SEEN : Fld := { off := 0x100000 + 0x48, lsb := 3, width := 1, acc := .w1c, rst := (fun _ _ => 0), iN := 96, iStr := 0x100 }
def LEG.STATUS_LATE : Fld := { off := 0x100000 + 0x48, lsb := 2, width := 1, acc := .w1c, rst := (fun _ _ => 0), iN := 96, iStr := 0x100 }
def LEG.STATUS_DEFERRED : Fld := { off := 0x100000 + 0x48, lsb := 1, width := 1, acc := .w1c, rst := (fun _ _ => 0), iN := 96, iStr := 0x100 }
def LEG.LATE_CNT : Fld := { off := 0x100000 + 0x4C, lsb := 0, width := 32, acc := .ro, rst := (fun _ _ => 0), iN := 96, iStr := 0x100 }
def LEG.DEFER_CNT : Fld := { off := 0x100000 + 0x50, lsb := 0, width := 32, acc := .ro, rst := (fun _ _ => 0), iN := 96, iStr := 0x100 }
def LEG.LPERIOD : Fld := { off := 0x100000 + 0x54, lsb := 0, width := 24, acc := .rw, rst := (fun _ _ => 320000), iN := 96, iStr := 0x100, chk := (.rng 51200 12800000) }
def LEG.ICFG : Fld := { off := 0x100000 + 0x80, lsb := 0, width := 24, acc := .rw, rst := (fun _ _ => 25600), iN := 96, iStr := 0x100, chk := (.rng 6400 102400) }
def LEG.MAXON : Fld := { off := 0x100000 + 0x84, lsb := 0, width := 24, acc := .rw, rst := (fun _ _ => 12800000), iN := 96, iStr := 0x100, chk := (.zrng 128000 16777215) }
def LEG.REFRESH_OPP : Fld := { off := 0x100000 + 0x88, lsb := 24, width := 1, acc := .rw, rst := (fun _ _ => 1), iN := 96, iStr := 0x100 }
def LEG.REFRESH : Fld := { off := 0x100000 + 0x88, lsb := 0, width := 24, acc := .rw, rst := (fun _ _ => 25600), iN := 96, iStr := 0x100, chk := (.rng 2560 102400) }
def LEG.GSTAT_VLED_UV : Fld := { off := 0x100000 + 0x8C, lsb := 17, width := 1, acc := .w1ch, rst := (fun _ _ => 0), iN := 96, iStr := 0x100 }
def LEG.GSTAT_INTLK_TMO : Fld := { off := 0x100000 + 0x8C, lsb := 16, width := 1, acc := .w1ch, rst := (fun _ _ => 0), iN := 96, iStr := 0x100 }
def LEG.GSTAT_H : Fld := { off := 0x100000 + 0x8C, lsb := 8, width := 7, acc := .w1ch, rst := (fun _ _ => 0), iN := 96, iStr := 0x100 }
def LEG.GSTAT_L : Fld := { off := 0x100000 + 0x8C, lsb := 0, width := 7, acc := .w1ch, rst := (fun _ _ => 0), iN := 96, iStr := 0x100 }
def LEG.LIVE_FH : Fld := { off := 0x100000 + 0x90, lsb := 4, width := 3, acc := .rov, rst := (fun _ _ => 0), iN := 96, iStr := 0x100 }
def LEG.LIVE_FL : Fld := { off := 0x100000 + 0x90, lsb := 0, width := 3, acc := .rov, rst := (fun _ _ => 0), iN := 96, iStr := 0x100 }
def LEG.DELAY_CNT : Fld := { off := 0x100000 + 0x94, lsb := 0, width := 32, acc := .ro, rst := (fun _ _ => 0), iN := 96, iStr := 0x100 }
def LEG.REFRESH_CNT : Fld := { off := 0x100000 + 0x98, lsb := 0, width := 32, acc := .ro, rst := (fun _ _ => 0), iN := 96, iStr := 0x100 }
def LEG.MALF_CNT : Fld := { off := 0x100000 + 0x9C, lsb := 0, width := 32, acc := .ro, rst := (fun _ _ => 0), iN := 96, iStr := 0x100 }
def LEG.GCTRL : Fld := { off := 0x100000 + 0xA0, lsb := 0, width := 1, acc := .wo, rst := (fun _ _ => 0), iN := 96, iStr := 0x100 }

/-- Every field of the LEG registers.  -/
def LEG.flds : List Fld :=
  [LEG.CMP_ON, LEG.CMP_OFF, LEG.COMMIT, LEG.PAIR_COMMIT_OFF, LEG.PAIR_COMMIT_ON, LEG.ACTIVE_OFF, LEG.ACTIVE_ON, LEG.PENDING_VALID, LEG.PENDING_OFF, LEG.PENDING_ON, LEG.PHASE, LEG.PHASE_NOW, LEG.DT_RISE, LEG.DT_FALL, LEG.MINPW, LEG.CFG_EXPECT, LEG.CFG_OWNPER, LEG.CFG_LS_EN, LEG.CFG_EXTREME, LEG.ROLE, LEG.CTRL_CNT_CLR, LEG.CTRL_HBLOCK, LEG.STATUS_RETIRED, LEG.STATUS_BLOCKED] ++
  [LEG.STATUS_TIMING_CONFLICT, LEG.STATUS_PHASE_WALK, LEG.STATUS_HC, LEG.STATUS_SRC, LEG.STATUS_HELD, LEG.STATUS_EXT_SEEN, LEG.STATUS_LATE, LEG.STATUS_DEFERRED, LEG.LATE_CNT, LEG.DEFER_CNT, LEG.LPERIOD, LEG.ICFG, LEG.MAXON, LEG.REFRESH_OPP, LEG.REFRESH, LEG.GSTAT_VLED_UV, LEG.GSTAT_INTLK_TMO, LEG.GSTAT_H, LEG.GSTAT_L, LEG.LIVE_FH, LEG.LIVE_FL, LEG.DELAY_CNT, LEG.REFRESH_CNT, LEG.MALF_CNT] ++
  [LEG.GCTRL]

/-! ### CW: R147 -/

def CW.THR_HIGH : Fld := { off := 0x080000 + 0x00, lsb := 16, width := 12, acc := .rw, rst := (fun _ _ => 4095), iN := 224, iStr := 0x20 }
def CW.THR_LOW : Fld := { off := 0x080000 + 0x00, lsb := 0, width := 12, acc := .rw, rst := (fun _ _ => 0), iN := 224, iStr := 0x20 }
def CW.CFG_EN_HI : Fld := { off := 0x080000 + 0x04, lsb := 31, width := 1, acc := .rw, rst := (fun _ _ => 1), iN := 224, iStr := 0x20 }
def CW.CFG_EN_LO : Fld := { off := 0x080000 + 0x04, lsb := 30, width := 1, acc := .rw, rst := (fun _ _ => 1), iN := 224, iStr := 0x20 }
def CW.CFG_CLR : Fld := { off := 0x080000 + 0x04, lsb := 29, width := 1, acc := .rw, rst := (fun _ _ => 0), iN := 224, iStr := 0x20 }
def CW.CFG_HYST : Fld := { off := 0x080000 + 0x04, lsb := 20, width := 4, acc := .rw, rst := (fun _ _ => 4), iN := 224, iStr := 0x20 }
def CW.CFG_K : Fld := { off := 0x080000 + 0x04, lsb := 16, width := 4, acc := .rw, rst := (fun _ _ => 0), iN := 224, iStr := 0x20, roAt := isHardWin }
def CW.CFG_M : Fld := { off := 0x080000 + 0x04, lsb := 12, width := 4, acc := .rw, rst := (fun w _=>if isHardWin w then 0 else 1), iN := 224, iStr := 0x20, chk := (.set [1,3,5,7,9,11,13,15]), roAt := isHardWin }
def CW.CFG_BLANK : Fld := { off := 0x080000 + 0x04, lsb := 0, width := 12, acc := .rw, rst := (fun _ _ => 0), iN := 224, iStr := 0x20, chk := (.rng 0 1600), roAt := isHardWin }
def CW.SEL_LEG : Fld := { off := 0x080000 + 0x08, lsb := 8, width := 7, acc := .rw, rst := (fun w _=>if w<192 then w%96 else 0x7F), iN := 224, iStr := 0x20, chk := (.pred (fun _ _ v=>v<96||v=127)), roAt := fun w => decide (w < 192) }
def CW.SEL_AIN : Fld := { off := 0x080000 + 0x08, lsb := 0, width := 6, acc := .rw, rst := (fun w _=>if w<192 then (w%96)%64 else w-192), iN := 224, iStr := 0x20, roAt := fun w => decide (w < 192) }
def CW.STAT_BLANKING : Fld := { off := 0x080000 + 0x0C, lsb := 5, width := 1, acc := .ro, rst := (fun _ _ => 0), iN := 224, iStr := 0x20 }
def CW.STAT_LIVE : Fld := { off := 0x080000 + 0x0C, lsb := 4, width := 1, acc := .ro, rst := (fun _ _ => 0), iN := 224, iStr := 0x20 }
def CW.STAT_LO_SEEN : Fld := { off := 0x080000 + 0x0C, lsb := 3, width := 1, acc := .ro, rst := (fun _ _ => 0), iN := 224, iStr := 0x20 }
def CW.STAT_HI_SEEN : Fld := { off := 0x080000 + 0x0C, lsb := 2, width := 1, acc := .ro, rst := (fun _ _ => 0), iN := 224, iStr := 0x20 }
def CW.STAT_CLEAR_REFUSED : Fld := { off := 0x080000 + 0x0C, lsb := 1, width := 1, acc := .w1c, rst := (fun _ _ => 0), iN := 224, iStr := 0x20 }
def CW.STAT_LATCH : Fld := { off := 0x080000 + 0x0C, lsb := 0, width := 1, acc := .w1ch, rst := (fun _ _ => 0), iN := 224, iStr := 0x20 }
def CW.LATCH_DT : Fld := { off := 0x080000 + 0x10, lsb := 0, width := 64, acc := .ro, rst := (fun _ _ => 0), iN := 224, iStr := 0x20 }

/-- Every field of the CW registers.  -/
def CW.flds : List Fld :=
  [CW.THR_HIGH, CW.THR_LOW, CW.CFG_EN_HI, CW.CFG_EN_LO, CW.CFG_CLR, CW.CFG_HYST, CW.CFG_K, CW.CFG_M, CW.CFG_BLANK, CW.SEL_LEG, CW.SEL_AIN, CW.STAT_BLANKING, CW.STAT_LIVE, CW.STAT_LO_SEEN, CW.STAT_HI_SEEN, CW.STAT_CLEAR_REFUSED, CW.STAT_LATCH, CW.LATCH_DT]

/-! ### CMP: R147 -/

def CMP.LATCHED : Fld := { off := 0x082000 + 0x0, lsb := 0, width := 32, acc := .rov, rst := (fun _ _ => 0), jN := 7, jStr := 4 }

/-- Every field of the CMP registers.  -/
def CMP.flds : List Fld :=
  [CMP.LATCHED]

/-! ### TG: R155 -/

def TG.CFG_ENABLE : Fld := { off := 0x090000 + 0x00, lsb := 8, width := 1, acc := (.rwl .ssf), rst := (fun g _=>if g=0 then 1 else 0), iN := 32, iStr := 0x80 }
def TG.CFG_CEASE : Fld := { off := 0x090000 + 0x00, lsb := 4, width := 1, acc := (.rwl .ssf), rst := (fun g _=>if g=0 then 1 else 0), iN := 32, iStr := 0x80 }
def TG.CFG_ACTION : Fld := { off := 0x090000 + 0x00, lsb := 0, width := 2, acc := (.rwl .ssf), rst := (fun g _=>if g=0 then 2 else 0), iN := 32, iStr := 0x80 }
def TG.MISC_STYPE : Fld := { off := 0x090000 + 0x04, lsb := 16, width := 8, acc := (.rwl .ssf), rst := (fun _ _ => 0), iN := 32, iStr := 0x80 }
def TG.MISC_WDOG : Fld := { off := 0x090000 + 0x04, lsb := 8, width := 2, acc := (.rwl .ssf), rst := (fun _ _ => 0), iN := 32, iStr := 0x80 }
def TG.MISC_FCLASS : Fld := { off := 0x090000 + 0x04, lsb := 0, width := 4, acc := (.rwl .ssf), rst := (fun _ _ => 0), iN := 32, iStr := 0x80 }
def TG.SWTRIP : Fld := { off := 0x090000 + 0x08, lsb := 0, width := 1, acc := .rw, rst := (fun _ _ => 0), iN := 32, iStr := 0x80 }
def TG.STAT_ASYNC : Fld := { off := 0x090000 + 0x0C, lsb := 3, width := 1, acc := .ro, rst := (fun _ _ => 0), iN := 32, iStr := 0x80 }
def TG.STAT_ACTIVE : Fld := { off := 0x090000 + 0x0C, lsb := 2, width := 1, acc := .ro, rst := (fun _ _ => 0), iN := 32, iStr := 0x80 }
def TG.STAT_CLEAR_REFUSED : Fld := { off := 0x090000 + 0x0C, lsb := 1, width := 1, acc := .w1c, rst := (fun _ _ => 0), iN := 32, iStr := 0x80 }
def TG.STAT_TRIPPED : Fld := { off := 0x090000 + 0x0C, lsb := 0, width := 1, acc := .w1ch, rst := (fun _ _ => 0), iN := 32, iStr := 0x80 }
def TG.FIRST_DT : Fld := { off := 0x090000 + 0x10, lsb := 0, width := 64, acc := .ro, rst := (fun _ _ => 0), iN := 32, iStr := 0x80 }
def TG.FIRST_SRC_KIND : Fld := { off := 0x090000 + 0x18, lsb := 28, width := 4, acc := .ro, rst := (fun _ _ => 0), iN := 32, iStr := 0x80 }
def TG.FIRST_SRC_SIMULTANEOUS : Fld := { off := 0x090000 + 0x18, lsb := 16, width := 1, acc := .ro, rst := (fun _ _ => 0), iN := 32, iStr := 0x80 }
def TG.FIRST_SRC_INDEX : Fld := { off := 0x090000 + 0x18, lsb := 0, width := 16, acc := .ro, rst := (fun _ _ => 0), iN := 32, iStr := 0x80 }
def TG.WIN : Fld := { off := 0x090000 + 0x20, lsb := 0, width := 32, acc := (.rwl .ssf), rst := (fun g i => if g = 0 && 3 ≤ i && i ≤ 5 then 0xFFFFFFFF else 0), iN := 32, iStr := 0x80, jN := 7, jStr := 4 }
def TG.SLEG : Fld := { off := 0x090000 + 0x40, lsb := 0, width := 32, acc := (.rwl .ssf), rst := (fun _ _ => 0), iN := 32, iStr := 0x80, jN := 3, jStr := 4 }
def TG.LEGS : Fld := { off := 0x090000 + 0x50, lsb := 0, width := 32, acc := (.rwl .ssf), rst := (fun g _=>if g=0 then 0xFFFFFFFF else 0), iN := 32, iStr := 0x80, jN := 3, jStr := 4 }

/-- Every field of the TG registers.  -/
def TG.flds : List Fld :=
  [TG.CFG_ENABLE, TG.CFG_CEASE, TG.CFG_ACTION, TG.MISC_STYPE, TG.MISC_WDOG, TG.MISC_FCLASS, TG.SWTRIP, TG.STAT_ASYNC, TG.STAT_ACTIVE, TG.STAT_CLEAR_REFUSED, TG.STAT_TRIPPED, TG.FIRST_DT, TG.FIRST_SRC_KIND, TG.FIRST_SRC_SIMULTANEOUS, TG.FIRST_SRC_INDEX, TG.WIN, TG.SLEG, TG.LEGS]

/-! ### SHR: R155 -/

def SHR.TRIPPED : Fld := { off := 0x091000 + 0x00, lsb := 0, width := 32, acc := .rov, rst := (fun _ _ => 0) }
def SHR.ACTIVE : Fld := { off := 0x091000 + 0x04, lsb := 0, width := 32, acc := .rov, rst := (fun _ _ => 0) }
def SHR.LEGTRIP : Fld := { off := 0x091000 + 0x10, lsb := 0, width := 32, acc := .rov, rst := (fun _ _ => 0), jN := 3, jStr := 4 }

/-- Every field of the SHR registers.  -/
def SHR.flds : List Fld :=
  [SHR.TRIPPED, SHR.ACTIVE, SHR.LEGTRIP]

/-! ### CORE: R178 -/

def CORE.CFG : Fld := { off := 0x0A0000 + 0x00, lsb := 0, width := 1, acc := .rw, rst := (fun _ _ => 0), iN := 18, iStr := 0x100 }
def CORE.STAT_RUN_SEQ : Fld := { off := 0x0A0000 + 0x04, lsb := 8, width := 3, acc := .ro, rst := (fun _ _ => 0), iN := 18, iStr := 0x100 }
def CORE.STAT_HOE : Fld := { off := 0x0A0000 + 0x04, lsb := 3, width := 1, acc := .ro, rst := (fun _ _ => 0), iN := 18, iStr := 0x100 }
def CORE.STAT_BUSY : Fld := { off := 0x0A0000 + 0x04, lsb := 2, width := 1, acc := .ro, rst := (fun _ _ => 0), iN := 18, iStr := 0x100 }
def CORE.STAT_WAKING : Fld := { off := 0x0A0000 + 0x04, lsb := 1, width := 1, acc := .ro, rst := (fun _ _ => 0), iN := 18, iStr := 0x100 }
def CORE.STAT_POWERED : Fld := { off := 0x0A0000 + 0x04, lsb := 0, width := 1, acc := .ro, rst := (fun _ _ => 0), iN := 18, iStr := 0x100 }
def CORE.SWTRIG : Fld := { off := 0x0A0000 + 0x08, lsb := 0, width := 8, acc := .wo, rst := (fun _ _ => 0), iN := 18, iStr := 0x100 }
def CORE.CNT_CLR : Fld := { off := 0x0A0000 + 0x0C, lsb := 0, width := 1, acc := .wo, rst := (fun _ _ => 0), iN := 18, iStr := 0x100 }
def CORE.OVR_CNT : Fld := { off := 0x0A0000 + 0x10, lsb := 0, width := 32, acc := .ro, rst := (fun _ _ => 0), iN := 18, iStr := 0x100 }
def CORE.LATE_CNT : Fld := { off := 0x0A0000 + 0x14, lsb := 0, width := 32, acc := .ro, rst := (fun _ _ => 0), iN := 18, iStr := 0x100 }
def CORE.SEQCTRL_EN : Fld := { off := 0x0A0000 + 0x40, lsb := 31, width := 1, acc := .rw, rst := (fun _ _ => 0), iN := 18, iStr := 0x100, jN := 8, jStr := 8 }
def CORE.SEQCTRL_LEN : Fld := { off := 0x0A0000 + 0x40, lsb := 16, width := 9, acc := .rw, rst := (fun _ _ => 1), iN := 18, iStr := 0x100, jN := 8, jStr := 8, chk := (.rng 1 256) }
def CORE.SEQCTRL_BURST : Fld := { off := 0x0A0000 + 0x40, lsb := 8, width := 8, acc := .rw, rst := (fun _ _ => 0), iN := 18, iStr := 0x100, jN := 8, jStr := 8 }
def CORE.SEQCTRL_FIRST : Fld := { off := 0x0A0000 + 0x40, lsb := 0, width := 8, acc := .rw, rst := (fun _ _ => 0), iN := 18, iStr := 0x100, jN := 8, jStr := 8 }
def CORE.SEQTRIG_SRC : Fld := { off := 0x0A0000 + 0x44, lsb := 28, width := 4, acc := .rw, rst := (fun _ _ => 0), iN := 18, iStr := 0x100, jN := 8, jStr := 8, chk := (.codes [0, 1, 2, 3, 4, 5, 6, 7, 8]) }
def CORE.SEQTRIG_ARG : Fld := { off := 0x0A0000 + 0x44, lsb := 16, width := 12, acc := .rw, rst := (fun _ _ => 0), iN := 18, iStr := 0x100, jN := 8, jStr := 8 }
def CORE.SEQTRIG_DELAY : Fld := { off := 0x0A0000 + 0x44, lsb := 0, width := 16, acc := .rw, rst := (fun _ _ => 0), iN := 18, iStr := 0x100, jN := 8, jStr := 8 }

/-- Every field of the CORE registers.  -/
def CORE.flds : List Fld :=
  [CORE.CFG, CORE.STAT_RUN_SEQ, CORE.STAT_HOE, CORE.STAT_BUSY, CORE.STAT_WAKING, CORE.STAT_POWERED, CORE.SWTRIG, CORE.CNT_CLR, CORE.OVR_CNT, CORE.LATE_CNT, CORE.SEQCTRL_EN, CORE.SEQCTRL_LEN, CORE.SEQCTRL_BURST, CORE.SEQCTRL_FIRST, CORE.SEQTRIG_SRC, CORE.SEQTRIG_ARG, CORE.SEQTRIG_DELAY]

/-! ### SLOT: R178 -/

def SLOT.SLOT_DWELL : Fld := { off := 0x0A2000 + 0x0, lsb := 8, width := 8, acc := .rw, rst := (fun _ _ => 0), iN := 18, iStr := 0x400, jN := 256, jStr := 4 }
def SLOT.SLOT_INPUT : Fld := { off := 0x0A2000 + 0x0, lsb := 0, width := 6, acc := .rw, rst := (fun _ _ => 0), iN := 18, iStr := 0x400, jN := 256, jStr := 4, chk := (.pred (fun c _ v=>if 12≤c&&c<16 then v<48 else v<8)) }

/-- Every field of the SLOT registers.  -/
def SLOT.flds : List Fld :=
  [SLOT.SLOT_DWELL, SLOT.SLOT_INPUT]

/-! ### AIN: R178 -/

def AIN.BOTTOM : Fld := { off := 0x0A8000 + 0x0, lsb := 0, width := 32, acc := .rw, rst := (fun _ _ => 0xBF800000), iN := 160, iStr := 0x10, chk := (.f32 0xCE6E6B28 0x4E6E6B28 true) }
def AIN.SPAN : Fld := { off := 0x0A8000 + 0x4, lsb := 0, width := 32, acc := .rw, rst := (fun _ _ => 0x40000000), iN := 160, iStr := 0x10, chk := (.f32 0x3089705F 0x4E6E6B28 true) }
def AIN.STAT_SAT_HI : Fld := { off := 0x0A8000 + 0x8, lsb := 1, width := 1, acc := .w1c, rst := (fun _ _ => 0), iN := 160, iStr := 0x10 }
def AIN.STAT_SAT_LO : Fld := { off := 0x0A8000 + 0x8, lsb := 0, width := 1, acc := .w1c, rst := (fun _ _ => 0), iN := 160, iStr := 0x10 }

/-- Every field of the AIN registers.  -/
def AIN.flds : List Fld :=
  [AIN.BOTTOM, AIN.SPAN, AIN.STAT_SAT_HI, AIN.STAT_SAT_LO]

/-! ### TMR: R178 -/

def TMR.CFG_EN : Fld := { off := 0x0A9000 + 0x0, lsb := 31, width := 1, acc := .rw, rst := (fun _ _ => 0), iN := 16, iStr := 0x10 }
def TMR.CFG_SYNC : Fld := { off := 0x0A9000 + 0x0, lsb := 16, width := 2, acc := .rw, rst := (fun _ _ => 0), iN := 16, iStr := 0x10, chk := (.codes [0, 1]) }
def TMR.CFG_BRICK : Fld := { off := 0x0A9000 + 0x0, lsb := 0, width := 3, acc := .rw, rst := (fun _ _ => 0), iN := 16, iStr := 0x10 }
def TMR.PERIOD : Fld := { off := 0x0A9000 + 0x4, lsb := 0, width := 32, acc := .rw, rst := (fun _ _ => 40000), iN := 16, iStr := 0x10, chk := (.rng 40 4294967295) }

/-- Every field of the TMR registers.  -/
def TMR.flds : List Fld :=
  [TMR.CFG_EN, TMR.CFG_SYNC, TMR.CFG_BRICK, TMR.PERIOD]

/-! ### CAL: R178, R171 -/

def CAL.CTRL_GO : Fld := { off := 0x0A9800 + 0x00, lsb := 31, width := 1, acc := (.rwl .sf), rst := (fun _ _ => 0) }
def CAL.CTRL_STEP : Fld := { off := 0x0A9800 + 0x00, lsb := 8, width := 2, acc := (.rwl .sf), rst := (fun _ _ => 0) }
def CAL.CTRL_CHAN : Fld := { off := 0x0A9800 + 0x00, lsb := 0, width := 8, acc := (.rwl .sf), rst := (fun _ _ => 0), chk := (.rng 0 175) }
def CAL.YLO : Fld := { off := 0x0A9800 + 0x04, lsb := 0, width := 32, acc := (.rwl .sf), rst := (fun _ _ => 0) }
def CAL.YHI : Fld := { off := 0x0A9800 + 0x08, lsb := 0, width := 32, acc := (.rwl .sf), rst := (fun _ _ => 0x3F800000) }
def CAL.STAT_RESULT : Fld := { off := 0x0A9800 + 0x0C, lsb := 16, width := 3, acc := .ro, rst := (fun _ _ => 0) }
def CAL.STAT_CHAN : Fld := { off := 0x0A9800 + 0x0C, lsb := 8, width := 8, acc := .ro, rst := (fun _ _ => 0) }
def CAL.STAT_STATE : Fld := { off := 0x0A9800 + 0x0C, lsb := 0, width := 3, acc := .ro, rst := (fun _ _ => 0) }
def CAL.MLO : Fld := { off := 0x0A9800 + 0x10, lsb := 0, width := 32, acc := .ro, rst := (fun _ _ => 0) }
def CAL.MHI : Fld := { off := 0x0A9800 + 0x14, lsb := 0, width := 32, acc := .ro, rst := (fun _ _ => 0) }
def CAL.COEF_APPLY : Fld := { off := 0x0A9800 + 0x20, lsb := 0, width := 1, acc := .wo, rst := (fun _ _ => 0) }

/-- Every field of the CAL registers.  -/
def CAL.flds : List Fld :=
  [CAL.CTRL_GO, CAL.CTRL_STEP, CAL.CTRL_CHAN, CAL.YLO, CAL.YHI, CAL.STAT_RESULT, CAL.STAT_CHAN, CAL.STAT_STATE, CAL.MLO, CAL.MHI, CAL.COEF_APPLY]

/-! ### SDM: R179 -/

def SDM.CTRL_CNT_CLR : Fld := { off := 0x0B0000 + 0x000, lsb := 2, width := 1, acc := .wo, rst := (fun _ _ => 0) }
def SDM.CTRL_SYNC : Fld := { off := 0x0B0000 + 0x000, lsb := 1, width := 1, acc := .wo, rst := (fun _ _ => 0) }

/-- Every field of the SDM registers.  -/
def SDM.flds : List Fld :=
  [SDM.CTRL_CNT_CLR, SDM.CTRL_SYNC]

/-! ### SD: R179 -/

def SD.CFG_EN : Fld := { off := 0x0B0100 + 0x00, lsb := 31, width := 1, acc := .rw, rst := (fun _ _ => 0), iN := 16, iStr := 0x20 }
def SD.CFG_MBIT : Fld := { off := 0x0B0100 + 0x00, lsb := 16, width := 15, acc := .rw, rst := (fun _ _ => 20000), iN := 16, iStr := 0x20, chk := (.rng 5000 25000) }
def SD.CFG_CODING : Fld := { off := 0x0B0100 + 0x00, lsb := 12, width := 2, acc := .rw, rst := (fun _ _ => 0), iN := 16, iStr := 0x20, chk := (.codes [0, 1, 2]) }
def SD.CFG_ORDER : Fld := { off := 0x0B0100 + 0x00, lsb := 11, width := 1, acc := .rw, rst := (fun _ _ => 0), iN := 16, iStr := 0x20 }
def SD.CFG_OSR : Fld := { off := 0x0B0100 + 0x00, lsb := 0, width := 11, acc := .rw, rst := (fun _ _ => 256), iN := 16, iStr := 0x20, chk := (.rng 32 1024) }
def SD.BOTTOM : Fld := { off := 0x0B0100 + 0x04, lsb := 0, width := 32, acc := .rw, rst := (fun _ _ => 0xBF800000), iN := 16, iStr := 0x20, chk := (.f32 0xCE6E6B28 0x4E6E6B28 true) }
def SD.SPAN : Fld := { off := 0x0B0100 + 0x08, lsb := 0, width := 32, acc := .rw, rst := (fun _ _ => 0x40000000), iN := 16, iStr := 0x20, chk := (.f32 0x3089705F 0x4E6E6B28 true) }
def SD.STAT_SETTLING : Fld := { off := 0x0B0100 + 0x0C, lsb := 4, width := 1, acc := .ro, rst := (fun _ _ => 0), iN := 16, iStr := 0x20 }
def SD.STAT_LOST : Fld := { off := 0x0B0100 + 0x0C, lsb := 3, width := 1, acc := .ro, rst := (fun _ _ => 0), iN := 16, iStr := 0x20 }
def SD.STAT_STUCK : Fld := { off := 0x0B0100 + 0x0C, lsb := 2, width := 1, acc := .ro, rst := (fun _ _ => 0), iN := 16, iStr := 0x20 }
def SD.STAT_LINK_EV : Fld := { off := 0x0B0100 + 0x0C, lsb := 1, width := 1, acc := .w1c, rst := (fun _ _ => 0), iN := 16, iStr := 0x20 }
def SD.STAT_RUN : Fld := { off := 0x0B0100 + 0x0C, lsb := 0, width := 1, acc := .ro, rst := (fun _ _ => 0), iN := 16, iStr := 0x20 }
def SD.BITERR_CNT : Fld := { off := 0x0B0100 + 0x10, lsb := 0, width := 32, acc := .ro, rst := (fun _ _ => 0), iN := 16, iStr := 0x20 }

/-- Every field of the SD registers.  -/
def SD.flds : List Fld :=
  [SD.CFG_EN, SD.CFG_MBIT, SD.CFG_CODING, SD.CFG_ORDER, SD.CFG_OSR, SD.BOTTOM, SD.SPAN, SD.STAT_SETTLING, SD.STAT_LOST, SD.STAT_STUCK, SD.STAT_LINK_EV, SD.STAT_RUN, SD.BITERR_CNT]

/-! ### ESP: R212 -/

def ESP.CTRL : Fld := { off := 0x0C0000 + 0x0000, lsb := 0, width := 1, acc := .wo, rst := (fun _ _ => 0) }
def ESP.STAT_TASKS : Fld := { off := 0x0C0000 + 0x0004, lsb := 16, width := 16, acc := .rov, rst := (fun _ _ => 0) }
def ESP.STAT_LOAD_HIGH : Fld := { off := 0x0C0000 + 0x0004, lsb := 2, width := 1, acc := .rov, rst := (fun _ _ => 0) }
def ESP.STAT_LOADING : Fld := { off := 0x0C0000 + 0x0004, lsb := 1, width := 1, acc := .ro, rst := (fun _ _ => 0) }
def ESP.STAT_GRAPH : Fld := { off := 0x0C0000 + 0x0004, lsb := 0, width := 1, acc := .rov, rst := (fun _ _ => 0) }
def ESP.GRAPH_ID : Fld := { off := 0x0C0000 + 0x0008, lsb := 0, width := 32, acc := .ro, rst := (fun _ _ => 0) }
def ESP.LOAD : Fld := { off := 0x0C0000 + 0x000C, lsb := 0, width := 32, acc := .ro, rst := (fun _ _ => 0) }
def ESP.TASK_HWM : Fld := { off := 0x0C0000 + 0x0010, lsb := 0, width := 10, acc := .ro, rst := (fun _ _ => 0) }
def ESP.NFLT_CNT : Fld := { off := 0x0C0000 + 0x0014, lsb := 0, width := 32, acc := .ro, rst := (fun _ _ => 0) }
def ESP.TASK_STALL : Fld := { off := 0x0C0000 + 0x0018, lsb := 0, width := 32, acc := .ro, rst := (fun _ _ => 0) }
def ESP.RATE_CNT : Fld := { off := 0x0C0000 + 0x001C, lsb := 0, width := 32, acc := .ro, rst := (fun _ _ => 0) }
def ESP.COEF_COMMIT : Fld := { off := 0x0C0000 + 0x0020, lsb := 0, width := 64, acc := .wo, rst := (fun _ _ => 0) }
def ESP.CADTRIG : Fld := { off := 0x0C0000 + 0x0028, lsb := 0, width := 64, acc := .wo, rst := (fun _ _ => 0) }
def ESP.CADEN : Fld := { off := 0x0C0000 + 0x0030, lsb := 0, width := 64, acc := .rw, rst := (fun _ _ => 0) }
def ESP.REJECT_CODE : Fld := { off := 0x0C0000 + 0x0038, lsb := 24, width := 8, acc := .ro, rst := (fun _ _ => 0) }
def ESP.REJECT_OFFSET : Fld := { off := 0x0C0000 + 0x0038, lsb := 0, width := 24, acc := .ro, rst := (fun _ _ => 0) }
def ESP.NFLT : Fld := { off := 0x0C0000 + 0x0200, lsb := 0, width := 32, acc := .w1c, rst := (fun _ _ => 0), jN := 128, jStr := 4 }
def ESP.MBOX_SEQ : Fld := { off := 0x0C0000 + 0x1000, lsb := 32, width := 32, acc := .ro, rst := (fun _ _ => 0), jN := 64, jStr := 8 }
def ESP.MBOX_VALUE : Fld := { off := 0x0C0000 + 0x1000, lsb := 0, width := 32, acc := .ro, rst := (fun _ _ => 0), jN := 64, jStr := 8 }
def ESP.MBOX_CFG_EN : Fld := { off := 0x0C0000 + 0x1400, lsb := 31, width := 1, acc := .rw, rst := (fun _ _ => 0), jN := 64, jStr := 4 }
def ESP.MBOX_CFG_SP : Fld := { off := 0x0C0000 + 0x1400, lsb := 0, width := 18, acc := .rw, rst := (fun _ _ => 0), jN := 64, jStr := 4, chk := (.pred (fun _ _ v=>mboxPoint v)) }

/-- Every field of the ESP registers.  -/
def ESP.flds : List Fld :=
  [ESP.CTRL, ESP.STAT_TASKS, ESP.STAT_LOAD_HIGH, ESP.STAT_LOADING, ESP.STAT_GRAPH, ESP.GRAPH_ID, ESP.LOAD, ESP.TASK_HWM, ESP.NFLT_CNT, ESP.TASK_STALL, ESP.RATE_CNT, ESP.COEF_COMMIT, ESP.CADTRIG, ESP.CADEN, ESP.REJECT_CODE, ESP.REJECT_OFFSET, ESP.NFLT, ESP.MBOX_SEQ, ESP.MBOX_VALUE, ESP.MBOX_CFG_EN, ESP.MBOX_CFG_SP]

/-! ### SIE: R343 -/

def SIE.CTRL : Fld := { off := 0x0D0C00 + 0x0, lsb := 0, width := 1, acc := .wo, rst := (fun _ _ => 0) }
def SIE.REGION : Fld := { off := 0x0D0C00 + 0x8, lsb := 0, width := 15, acc := .rov, rst := (fun _ _ => 0) }

/-- Every field of the SIE registers.  -/
def SIE.flds : List Fld :=
  [SIE.CTRL, SIE.REGION]

/-! ### TRG: R343 -/

def TRG.CFG_EN : Fld := { off := 0x0D0000 + 0x00, lsb := 31, width := 1, acc := .rw, rst := (fun _ _ => 0), iN := 16, iStr := 0x20 }
def TRG.CFG_EVT : Fld := { off := 0x0D0000 + 0x00, lsb := 30, width := 1, acc := .rw, rst := (fun _ _ => 0), iN := 16, iStr := 0x20 }
def TRG.CFG_KIND : Fld := { off := 0x0D0000 + 0x00, lsb := 16, width := 3, acc := .rw, rst := (fun _ _ => 0), iN := 16, iStr := 0x20, chk := (.codes [0, 1, 2, 3, 4]) }
def TRG.CFG_DIR : Fld := { off := 0x0D0000 + 0x00, lsb := 12, width := 2, acc := .rw, rst := (fun _ _ => 0), iN := 16, iStr := 0x20, chk := (.codes [0, 1, 2]) }
def TRG.CFG_INTERP : Fld := { off := 0x0D0000 + 0x00, lsb := 8, width := 1, acc := .rw, rst := (fun _ _ => 0), iN := 16, iStr := 0x20 }
def TRG.SP : Fld := { off := 0x0D0000 + 0x04, lsb := 0, width := 18, acc := .rw, rst := (fun _ _ => 0), iN := 16, iStr := 0x20 }
def TRG.A : Fld := { off := 0x0D0000 + 0x08, lsb := 0, width := 32, acc := .rw, rst := (fun _ _ => 0), iN := 16, iStr := 0x20, chk := .f32nan }
def TRG.B : Fld := { off := 0x0D0000 + 0x0C, lsb := 0, width := 32, acc := .rw, rst := (fun _ _ => 0), iN := 16, iStr := 0x20, chk := .f32nan }
def TRG.STAT_FRAC : Fld := { off := 0x0D0000 + 0x10, lsb := 8, width := 8, acc := .ro, rst := (fun _ _ => 0), iN := 16, iStr := 0x20 }
def TRG.STAT_FIRED : Fld := { off := 0x0D0000 + 0x10, lsb := 0, width := 1, acc := .w1c, rst := (fun _ _ => 0), iN := 16, iStr := 0x20 }
def TRG.FIRE_CNT : Fld := { off := 0x0D0000 + 0x14, lsb := 0, width := 32, acc := .ro, rst := (fun _ _ => 0), iN := 16, iStr := 0x20 }
def TRG.LAST_DT : Fld := { off := 0x0D0000 + 0x18, lsb := 0, width := 64, acc := .ro, rst := (fun _ _ => 0), iN := 16, iStr := 0x20 }

/-- Every field of the TRG registers.  -/
def TRG.flds : List Fld :=
  [TRG.CFG_EN, TRG.CFG_EVT, TRG.CFG_KIND, TRG.CFG_DIR, TRG.CFG_INTERP, TRG.SP, TRG.A, TRG.B, TRG.STAT_FRAC, TRG.STAT_FIRED, TRG.FIRE_CNT, TRG.LAST_DT]

/-! ### CAP: R343 -/

def CAP.CFG_RAW_EN : Fld := { off := 0x0D0400 + 0x00, lsb := 31, width := 1, acc := .rw, rst := (fun _ _ => 1), iN := 8, iStr := 0x80 }
def CAP.CFG_RED_EN : Fld := { off := 0x0D0400 + 0x00, lsb := 30, width := 1, acc := .rw, rst := (fun _ _ => 0), iN := 8, iStr := 0x80 }
def CAP.CFG_N_CH : Fld := { off := 0x0D0400 + 0x00, lsb := 24, width := 5, acc := .rw, rst := (fun _ _ => 1), iN := 8, iStr := 0x80, chk := (.rng 1 16) }
def CAP.CFG_SRC : Fld := { off := 0x0D0400 + 0x00, lsb := 16, width := 4, acc := .rw, rst := (fun _ _ => 0), iN := 8, iStr := 0x80, chk := (.codes [0, 1, 2, 3]) }
def CAP.CFG_ARG : Fld := { off := 0x0D0400 + 0x00, lsb := 8, width := 6, acc := .rw, rst := (fun _ _ => 0), iN := 8, iStr := 0x80 }
def CAP.DIV : Fld := { off := 0x0D0400 + 0x04, lsb := 0, width := 16, acc := .rw, rst := (fun _ _ => 1), iN := 8, iStr := 0x80, chk := (.rng 1 65535) }
def CAP.INTERVAL : Fld := { off := 0x0D0400 + 0x08, lsb := 0, width := 16, acc := .rw, rst := (fun _ _ => 1024), iN := 8, iStr := 0x80, chk := (.rng 1 65535) }
def CAP.TRIG_AUTO_MS : Fld := { off := 0x0D0400 + 0x0C, lsb := 16, width := 16, acc := .rw, rst := (fun _ _ => 0), iN := 8, iStr := 0x80, chk := (.rng 0 60000) }
def CAP.TRIG_MASK : Fld := { off := 0x0D0400 + 0x0C, lsb := 0, width := 16, acc := .rw, rst := (fun _ _ => 0), iN := 8, iStr := 0x80 }
def CAP.PRE : Fld := { off := 0x0D0400 + 0x10, lsb := 0, width := 32, acc := .rw, rst := (fun _ _ => 0), iN := 8, iStr := 0x80 }
def CAP.POST : Fld := { off := 0x0D0400 + 0x14, lsb := 0, width := 32, acc := .rw, rst := (fun _ _ => 1024), iN := 8, iStr := 0x80 }
def CAP.BASE : Fld := { off := 0x0D0400 + 0x18, lsb := 0, width := 15, acc := .rw, rst := (fun _ _ => 0), iN := 8, iStr := 0x80, chk := (.rng 0 28671) }
def CAP.SIZE : Fld := { off := 0x0D0400 + 0x1C, lsb := 0, width := 15, acc := .rw, rst := (fun _ _ => 1), iN := 8, iStr := 0x80, chk := (.rng 1 28672) }
def CAP.CH : Fld := { off := 0x0D0400 + 0x20, lsb := 0, width := 18, acc := .rw, rst := (fun _ _ => 0), iN := 8, iStr := 0x80, jN := 16, jStr := 4 }
def CAP.CTRL_ABORT : Fld := { off := 0x0D0400 + 0x60, lsb := 1, width := 1, acc := .wo, rst := (fun _ _ => 0), iN := 8, iStr := 0x80 }
def CAP.CTRL_FORCE : Fld := { off := 0x0D0400 + 0x60, lsb := 0, width := 1, acc := .wo, rst := (fun _ _ => 0), iN := 8, iStr := 0x80 }
def CAP.STAT_OVERFLOW : Fld := { off := 0x0D0400 + 0x64, lsb := 5, width := 1, acc := .ro, rst := (fun _ _ => 0), iN := 8, iStr := 0x80 }
def CAP.STAT_FALLBACK : Fld := { off := 0x0D0400 + 0x64, lsb := 4, width := 1, acc := .ro, rst := (fun _ _ => 0), iN := 8, iStr := 0x80 }
def CAP.STAT_STATE : Fld := { off := 0x0D0400 + 0x64, lsb := 0, width := 3, acc := .ro, rst := (fun _ _ => 0), iN := 8, iStr := 0x80 }
def CAP.WOFF : Fld := { off := 0x0D0400 + 0x68, lsb := 0, width := 32, acc := .ro, rst := (fun _ _ => 0), iN := 8, iStr := 0x80 }
def CAP.SKIP_CNT : Fld := { off := 0x0D0400 + 0x6C, lsb := 0, width := 32, acc := .ro, rst := (fun _ _ => 0), iN := 8, iStr := 0x80 }
def CAP.IDX : Fld := { off := 0x0D0400 + 0x70, lsb := 0, width := 32, acc := .ro, rst := (fun _ _ => 0), iN := 8, iStr := 0x80 }

/-- Every field of the CAP registers.  -/
def CAP.flds : List Fld :=
  [CAP.CFG_RAW_EN, CAP.CFG_RED_EN, CAP.CFG_N_CH, CAP.CFG_SRC, CAP.CFG_ARG, CAP.DIV, CAP.INTERVAL, CAP.TRIG_AUTO_MS, CAP.TRIG_MASK, CAP.PRE, CAP.POST, CAP.BASE, CAP.SIZE, CAP.CH, CAP.CTRL_ABORT, CAP.CTRL_FORCE, CAP.STAT_OVERFLOW, CAP.STAT_FALLBACK, CAP.STAT_STATE, CAP.WOFF, CAP.SKIP_CNT, CAP.IDX]

/-! ### TRS: R343 -/

def TRS.CFG_EN : Fld := { off := 0x0D0800 + 0x00, lsb := 31, width := 1, acc := .rw, rst := (fun _ _ => 0), iN := 16, iStr := 0x20 }
def TRS.CFG_MODE : Fld := { off := 0x0D0800 + 0x00, lsb := 30, width := 1, acc := .rw, rst := (fun _ _ => 0), iN := 16, iStr := 0x20 }
def TRS.CFG_BAD_BUF : Fld := { off := 0x0D0800 + 0x00, lsb := 1, width := 1, acc := .ro, rst := (fun _ _ => 0), iN := 16, iStr := 0x20 }
def TRS.BASE : Fld := { off := 0x0D0800 + 0x04, lsb := 0, width := 15, acc := .rw, rst := (fun _ _ => 0), iN := 16, iStr := 0x20, chk := (.rng 0 28671) }
def TRS.SIZE : Fld := { off := 0x0D0800 + 0x08, lsb := 0, width := 15, acc := .rw, rst := (fun _ _ => 1), iN := 16, iStr := 0x20, chk := (.rng 1 28672) }
def TRS.WIDX : Fld := { off := 0x0D0800 + 0x0C, lsb := 0, width := 32, acc := .ro, rst := (fun _ _ => 0), iN := 16, iStr := 0x20 }
def TRS.RIDX : Fld := { off := 0x0D0800 + 0x10, lsb := 0, width := 32, acc := .rw, rst := (fun _ _ => 0), iN := 16, iStr := 0x20, chk := (.mul 8) }
def TRS.FIRST : Fld := { off := 0x0D0800 + 0x14, lsb := 0, width := 32, acc := .ro, rst := (fun _ _ => 0), iN := 16, iStr := 0x20 }
def TRS.DROP_CNT : Fld := { off := 0x0D0800 + 0x18, lsb := 0, width := 32, acc := .ro, rst := (fun _ _ => 0), iN := 16, iStr := 0x20 }

/-- Every field of the TRS registers.  -/
def TRS.flds : List Fld :=
  [TRS.CFG_EN, TRS.CFG_MODE, TRS.CFG_BAD_BUF, TRS.BASE, TRS.SIZE, TRS.WIDX, TRS.RIDX, TRS.FIRST, TRS.DROP_CNT]

/-! ### TRL: R303 -/

def TRL.CFG : Fld := { off := 0x0E0000 + 0x000, lsb := 0, width := 1, acc := .rw, rst := (fun _ _ => 0) }
def TRL.KA : Fld := { off := 0x0E0000 + 0x004, lsb := 0, width := 16, acc := .rw, rst := (fun _ _ => 1000), chk := (.rng 200 10000) }
def TRL.CTRL_CNT_CLR : Fld := { off := 0x0E0000 + 0x008, lsb := 2, width := 1, acc := .wo, rst := (fun _ _ => 0) }
def TRL.CTRL_KA_RESUME : Fld := { off := 0x0E0000 + 0x008, lsb := 1, width := 1, acc := .wo, rst := (fun _ _ => 0) }
def TRL.CTRL_KA_STOP : Fld := { off := 0x0E0000 + 0x008, lsb := 0, width := 1, acc := .wo, rst := (fun _ _ => 0) }
def TRL.STAT_KA_HOST_STOP : Fld := { off := 0x0E0000 + 0x00C, lsb := 2, width := 1, acc := .ro, rst := (fun _ _ => 0) }
def TRL.STAT_KA_ON : Fld := { off := 0x0E0000 + 0x00C, lsb := 1, width := 1, acc := .ro, rst := (fun _ _ => 0) }
def TRL.STAT_RUN : Fld := { off := 0x0E0000 + 0x00C, lsb := 0, width := 1, acc := .ro, rst := (fun _ _ => 0) }
def TRL.KA_SEQ : Fld := { off := 0x0E0000 + 0x010, lsb := 0, width := 32, acc := .ro, rst := (fun _ _ => 0) }

/-- Every field of the TRL registers.  -/
def TRL.flds : List Fld :=
  [TRL.CFG, TRL.KA, TRL.CTRL_CNT_CLR, TRL.CTRL_KA_RESUME, TRL.CTRL_KA_STOP, TRL.STAT_KA_HOST_STOP, TRL.STAT_KA_ON, TRL.STAT_RUN, TRL.KA_SEQ]

/-! ### SEG: R303 -/

def SEG.CFG_SIG_PW : Fld := { off := 0x0E0100 + 0x00, lsb := 16, width := 9, acc := .rw, rst := (fun _ _ => 120), iN := 24, iStr := 0x40, chk := (.rng 80 400) }
def SEG.CFG_SLOT : Fld := { off := 0x0E0100 + 0x00, lsb := 8, width := 8, acc := .rw, rst := (fun _ _ => 69), iN := 24, iStr := 0x40, chk := (.rng 69 200) }
def SEG.CFG_POLL_EN : Fld := { off := 0x0E0100 + 0x00, lsb := 1, width := 1, acc := .rw, rst := (fun _ _ => 0), iN := 24, iStr := 0x40 }
def SEG.CFG_EN : Fld := { off := 0x0E0100 + 0x00, lsb := 0, width := 1, acc := .rw, rst := (fun _ _ => 0), iN := 24, iStr := 0x40 }
def SEG.PER0 : Fld := { off := 0x0E0100 + 0x04, lsb := 0, width := 24, acc := .rw, rst := (fun _ _ => 320000), iN := 24, iStr := 0x40, chk := (.rng 51200 12800000) }
def SEG.PER1 : Fld := { off := 0x0E0100 + 0x08, lsb := 0, width := 24, acc := .rw, rst := (fun _ _ => 304762), iN := 24, iStr := 0x40, chk := (.rng 51200 12800000) }
def SEG.POLL_COUNT : Fld := { off := 0x0E0100 + 0x0C, lsb := 16, width := 11, acc := .rw, rst := (fun _ _ => 0), iN := 24, iStr := 0x40, chk := (.rng 0 1365) }
def SEG.POLL_BASE : Fld := { off := 0x0E0100 + 0x0C, lsb := 0, width := 15, acc := .rw, rst := (fun _ _ => 0), iN := 24, iStr := 0x40, chk := (.rng 0 32766) }
def SEG.ROUND_MISS_N : Fld := { off := 0x0E0100 + 0x10, lsb := 16, width := 4, acc := .rw, rst := (fun _ _ => 3), iN := 24, iStr := 0x40, chk := (.rng 1 15) }
def SEG.ROUND_ROUND_S : Fld := { off := 0x0E0100 + 0x10, lsb := 0, width := 16, acc := .rw, rst := (fun _ _ => 10), iN := 24, iStr := 0x40, chk := (.rng 10 3600) }
def SEG.STAT_POLLING : Fld := { off := 0x0E0100 + 0x14, lsb := 7, width := 1, acc := .ro, rst := (fun _ _ => 0), iN := 24, iStr := 0x40 }
def SEG.STAT_UL_RATE : Fld := { off := 0x0E0100 + 0x14, lsb := 5, width := 1, acc := .ro, rst := (fun _ _ => 0), iN := 24, iStr := 0x40 }
def SEG.STAT_NO_DL : Fld := { off := 0x0E0100 + 0x14, lsb := 4, width := 1, acc := .ro, rst := (fun _ _ => 0), iN := 24, iStr := 0x40 }
def SEG.STAT_DL : Fld := { off := 0x0E0100 + 0x14, lsb := 0, width := 2, acc := .ro, rst := (fun _ _ => 0), iN := 24, iStr := 0x40 }
def SEG.RX_OK : Fld := { off := 0x0E0100 + 0x18, lsb := 0, width := 32, acc := .ro, rst := (fun _ _ => 0), iN := 24, iStr := 0x40 }
def SEG.RX_CRC : Fld := { off := 0x0E0100 + 0x1C, lsb := 0, width := 32, acc := .ro, rst := (fun _ _ => 0), iN := 24, iStr := 0x40 }
def SEG.RX_MISS : Fld := { off := 0x0E0100 + 0x20, lsb := 0, width := 32, acc := .ro, rst := (fun _ _ => 0), iN := 24, iStr := 0x40 }
def SEG.RX_UNK : Fld := { off := 0x0E0100 + 0x24, lsb := 0, width := 32, acc := .ro, rst := (fun _ _ => 0), iN := 24, iStr := 0x40 }
def SEG.ROUND_CNT : Fld := { off := 0x0E0100 + 0x28, lsb := 0, width := 32, acc := .ro, rst := (fun _ _ => 0), iN := 24, iStr := 0x40 }
def SEG.ROUND_MS : Fld := { off := 0x0E0100 + 0x2C, lsb := 0, width := 32, acc := .ro, rst := (fun _ _ => 0), iN := 24, iStr := 0x40 }

/-- Every field of the SEG registers.  -/
def SEG.flds : List Fld :=
  [SEG.CFG_SIG_PW, SEG.CFG_SLOT, SEG.CFG_POLL_EN, SEG.CFG_EN, SEG.PER0, SEG.PER1, SEG.POLL_COUNT, SEG.POLL_BASE, SEG.ROUND_MISS_N, SEG.ROUND_ROUND_S, SEG.STAT_POLLING, SEG.STAT_UL_RATE, SEG.STAT_NO_DL, SEG.STAT_DL, SEG.RX_OK, SEG.RX_CRC, SEG.RX_MISS, SEG.RX_UNK, SEG.ROUND_CNT, SEG.ROUND_MS]

/-! ### MTR: R323 -/

def MTR.CFG_SEAL : Fld := { off := 0x0F0000 + 0x000, lsb := 1, width := 1, acc := .rw, rst := (fun _ _ => 0) }
def MTR.CFG_EN : Fld := { off := 0x0F0000 + 0x000, lsb := 0, width := 1, acc := (.rwl .ssf), rst := (fun _ _ => 0) }
def MTR.STAT_SEALED : Fld := { off := 0x0F0000 + 0x004, lsb := 8, width := 1, acc := .rov, rst := (fun _ _ => 0) }
def MTR.STAT_PF_INCOMPLETE : Fld := { off := 0x0F0000 + 0x004, lsb := 5, width := 1, acc := .ro, rst := (fun _ _ => 0) }
def MTR.STAT_LOST : Fld := { off := 0x0F0000 + 0x004, lsb := 4, width := 1, acc := .ro, rst := (fun _ _ => 0) }
def MTR.STAT_REV_ACTIVE : Fld := { off := 0x0F0000 + 0x004, lsb := 3, width := 1, acc := .ro, rst := (fun _ _ => 0) }
def MTR.STAT_CH_FAULT : Fld := { off := 0x0F0000 + 0x004, lsb := 2, width := 1, acc := .ro, rst := (fun _ _ => 0) }
def MTR.STAT_MAP_ERR : Fld := { off := 0x0F0000 + 0x004, lsb := 1, width := 1, acc := .ro, rst := (fun _ _ => 0) }
def MTR.STAT_RUN : Fld := { off := 0x0F0000 + 0x004, lsb := 0, width := 1, acc := .ro, rst := (fun _ _ => 0) }
def MTR.MAP0_IA : Fld := { off := 0x0F0000 + 0x008, lsb := 24, width := 5, acc := (.rwl .ssf), rst := (fun _ _ => 3), chk := (.pred (fun _ _ v=>v<16)) }
def MTR.MAP0_VC : Fld := { off := 0x0F0000 + 0x008, lsb := 16, width := 5, acc := (.rwl .ssf), rst := (fun _ _ => 2), chk := (.pred (fun _ _ v=>v<16)) }
def MTR.MAP0_VB : Fld := { off := 0x0F0000 + 0x008, lsb := 8, width := 5, acc := (.rwl .ssf), rst := (fun _ _ => 1), chk := (.pred (fun _ _ v=>v<16)) }
def MTR.MAP0_VA : Fld := { off := 0x0F0000 + 0x008, lsb := 0, width := 5, acc := (.rwl .ssf), rst := (fun _ _ => 0), chk := (.pred (fun _ _ v=>v<16)) }
def MTR.MAP1_IN : Fld := { off := 0x0F0000 + 0x00C, lsb := 16, width := 5, acc := (.rwl .ssf), rst := (fun _ _ => 0x1F), chk := (.pred (fun _ _ v=>v<16||v=31)) }
def MTR.MAP1_IC : Fld := { off := 0x0F0000 + 0x00C, lsb := 8, width := 5, acc := (.rwl .ssf), rst := (fun _ _ => 5), chk := (.pred (fun _ _ v=>v<16)) }
def MTR.MAP1_IB : Fld := { off := 0x0F0000 + 0x00C, lsb := 0, width := 5, acc := (.rwl .ssf), rst := (fun _ _ => 4), chk := (.pred (fun _ _ v=>v<16)) }
def MTR.RATED : Fld := { off := 0x0F0000 + 0x010, lsb := 0, width := 32, acc := (.rwl .ssf), rst := (fun _ _ => 0x4B189680), chk := (.f32 0x47C35000 0x4B989680 false) }
def MTR.REV_THR : Fld := { off := 0x0F0000 + 0x014, lsb := 0, width := 32, acc := .rw, rst := (fun _ _ => 0x47C35000), chk := (.f32 0x00000000 0x4B989680 false) }
def MTR.REV_CFG_OPEN : Fld := { off := 0x0F0000 + 0x018, lsb := 31, width := 1, acc := .rw, rst := (fun _ _ => 0) }
def MTR.REV_CFG_REV_MS : Fld := { off := 0x0F0000 + 0x018, lsb := 0, width := 16, acc := .rw, rst := (fun _ _ => 5000), chk := (.rng 20 65535) }
def MTR.COMMIT : Fld := { off := 0x0F0000 + 0x01C, lsb := 0, width := 6, acc := .rw, rst := (fun _ _ => 15), chk := (.rng 1 60) }
def MTR.CALCRC : Fld := { off := 0x0F0000 + 0x020, lsb := 0, width := 32, acc := .rov, rst := (fun _ _ => 0) }
def MTR.GAP_MS : Fld := { off := 0x0F0000 + 0x024, lsb := 0, width := 32, acc := .ro, rst := (fun _ _ => 0) }
def MTR.LOST_START : Fld := { off := 0x0F0000 + 0x028, lsb := 0, width := 64, acc := .ro, rst := (fun _ _ => 0) }
def MTR.LOST_NS : Fld := { off := 0x0F0000 + 0x030, lsb := 0, width := 64, acc := .ro, rst := (fun _ _ => 0) }
def MTR.LOST_UNC : Fld := { off := 0x0F0000 + 0x038, lsb := 0, width := 64, acc := .ro, rst := (fun _ _ => 0) }
def MTR.LOST_INFO_OVERRUN : Fld := { off := 0x0F0000 + 0x040, lsb := 8, width := 1, acc := .ro, rst := (fun _ _ => 0) }
def MTR.LOST_INFO_CASE : Fld := { off := 0x0F0000 + 0x040, lsb := 0, width := 2, acc := .ro, rst := (fun _ _ => 0) }

/-- Every field of the MTR registers.  -/
def MTR.flds : List Fld :=
  [MTR.CFG_SEAL, MTR.CFG_EN, MTR.STAT_SEALED, MTR.STAT_PF_INCOMPLETE, MTR.STAT_LOST, MTR.STAT_REV_ACTIVE, MTR.STAT_CH_FAULT, MTR.STAT_MAP_ERR, MTR.STAT_RUN, MTR.MAP0_IA, MTR.MAP0_VC, MTR.MAP0_VB, MTR.MAP0_VA, MTR.MAP1_IN, MTR.MAP1_IC, MTR.MAP1_IB, MTR.RATED, MTR.REV_THR, MTR.REV_CFG_OPEN, MTR.REV_CFG_REV_MS, MTR.COMMIT, MTR.CALCRC, MTR.GAP_MS, MTR.LOST_START] ++
  [MTR.LOST_NS, MTR.LOST_UNC, MTR.LOST_INFO_OVERRUN, MTR.LOST_INFO_CASE]

/-! ### CH: R323 -/

def CH.SCALE : Fld := { off := 0x0F0080 + 0x0, lsb := 0, width := 32, acc := (.rwl .ssf), rst := (fun _ _ => 0x3F800000), iN := 7, iStr := 0x10, chk := (.f32 0x358637BD 0x4E6E6B28 true) }
def CH.GAIN : Fld := { off := 0x0F0080 + 0x4, lsb := 0, width := 32, acc := (.rwl .ssf), rst := (fun _ _ => 0x3F800000), iN := 7, iStr := 0x10, chk := (.f32 0x3F4CCCCD 0x3FA00000 true) }
def CH.OFFSET : Fld := { off := 0x0F0080 + 0x8, lsb := 0, width := 32, acc := (.rwl .ssf), rst := (fun _ _ => 0), iN := 7, iStr := 0x10, chk := (.f32 0xBD23D70A 0x3D23D70A true) }
def CH.DELAY : Fld := { off := 0x0F0080 + 0xC, lsb := 0, width := 17, acc := (.rwl .ssf), rst := (fun _ _ => 0), iN := 7, iStr := 0x10, chk := (.rng 0 100000) }

/-- Every field of the CH registers.  -/
def CH.flds : List Fld :=
  [CH.SCALE, CH.GAIN, CH.OFFSET, CH.DELAY]

/-! ### S0: R323 -/

def S0.CFG_EN : Fld := { off := 0x0F0100 + 0x00, lsb := 31, width := 1, acc := .rw, rst := (fun _ _ => 0), iN := 4, iStr := 0x20 }
def S0.CFG_POL : Fld := { off := 0x0F0100 + 0x00, lsb := 30, width := 1, acc := .rw, rst := (fun _ _ => 0), iN := 4, iStr := 0x20 }
def S0.CFG_QTY : Fld := { off := 0x0F0100 + 0x00, lsb := 24, width := 5, acc := .rw, rst := (fun _ _ => 24), iN := 4, iStr := 0x20 }
def S0.CFG_MIN_MS : Fld := { off := 0x0F0100 + 0x00, lsb := 16, width := 8, acc := .rw, rst := (fun _ _ => 30), iN := 4, iStr := 0x20, chk := (.rng 10 100) }
def S0.CFG_WIN_MIN : Fld := { off := 0x0F0100 + 0x00, lsb := 0, width := 16, acc := .rw, rst := (fun _ _ => 15), iN := 4, iStr := 0x20, chk := (.rng 1 1440) }
def S0.WEIGHT : Fld := { off := 0x0F0100 + 0x04, lsb := 0, width := 32, acc := .rw, rst := (fun _ _ => 0x447A0000), iN := 4, iStr := 0x20, chk := (.f32 0x3A83126F 0x4B189680 false) }
def S0.TOL : Fld := { off := 0x0F0100 + 0x08, lsb := 0, width := 32, acc := .rw, rst := (fun _ _ => 0x3F000000), iN := 4, iStr := 0x20, chk := (.f32 0x3C23D70A 0x42C80000 false) }
def S0.STAT_SKIPPED : Fld := { off := 0x0F0100 + 0x0C, lsb := 16, width := 16, acc := .ro, rst := (fun _ _ => 0), iN := 4, iStr := 0x20 }
def S0.STAT_LEVEL : Fld := { off := 0x0F0100 + 0x0C, lsb := 1, width := 1, acc := .ro, rst := (fun _ _ => 0), iN := 4, iStr := 0x20 }
def S0.STAT_MISMATCH : Fld := { off := 0x0F0100 + 0x0C, lsb := 0, width := 1, acc := .w1c, rst := (fun _ _ => 0), iN := 4, iStr := 0x20 }
def S0.COUNT : Fld := { off := 0x0F0100 + 0x10, lsb := 0, width := 32, acc := .ro, rst := (fun _ _ => 0), iN := 4, iStr := 0x20 }
def S0.LAST_DEV : Fld := { off := 0x0F0100 + 0x14, lsb := 0, width := 32, acc := .ro, rst := (fun _ _ => 0), iN := 4, iStr := 0x20 }
def S0.LAST_S0 : Fld := { off := 0x0F0100 + 0x18, lsb := 0, width := 32, acc := .ro, rst := (fun _ _ => 0), iN := 4, iStr := 0x20 }

/-- Every field of the S0 registers.  -/
def S0.flds : List Fld :=
  [S0.CFG_EN, S0.CFG_POL, S0.CFG_QTY, S0.CFG_MIN_MS, S0.CFG_WIN_MIN, S0.WEIGHT, S0.TOL, S0.STAT_SKIPPED, S0.STAT_LEVEL, S0.STAT_MISMATCH, S0.COUNT, S0.LAST_DEV, S0.LAST_S0]

/-! ### ACC: R323 -/

def ACC.LO : Fld := { off := 0x0F0200 + 0x0, lsb := 0, width := 64, acc := .rov, rst := (fun _ _ => 0), iN := 32, iStr := 0x10 }
def ACC.HI : Fld := { off := 0x0F0200 + 0x8, lsb := 0, width := 32, acc := .rov, rst := (fun _ _ => 0), iN := 32, iStr := 0x10 }

/-- Every field of the ACC registers.  -/
def ACC.flds : List Fld :=
  [ACC.LO, ACC.HI]

/-! ### PHG: R237 -/

def PHG.CFG_SENS_PER : Fld := { off := 0x108000 + 0x00, lsb := 12, width := 4, acc := (.rwl .ssf), rst := (fun _ _ => 3), iN := 3, iStr := 0x100, chk := (.rng 1 15) }
def PHG.CFG_OPEN_PER : Fld := { off := 0x108000 + 0x00, lsb := 8, width := 4, acc := (.rwl .ssf), rst := (fun _ _ => 3), iN := 3, iStr := 0x100, chk := (.rng 1 15) }
def PHG.CFG_BLK_RETIRE : Fld := { off := 0x108000 + 0x00, lsb := 4, width := 1, acc := (.rwl .ssf), rst := (fun _ _ => 1), iN := 3, iStr := 0x100 }
def PHG.CFG_SPARE_EN : Fld := { off := 0x108000 + 0x00, lsb := 3, width := 1, acc := (.rwl .ssf), rst := (fun _ _ => 1), iN := 3, iStr := 0x100 }
def PHG.CFG_SENS_EN : Fld := { off := 0x108000 + 0x00, lsb := 2, width := 1, acc := (.rwl .ssf), rst := (fun _ _ => 0), iN := 3, iStr := 0x100 }
def PHG.CFG_OPEN_EN : Fld := { off := 0x108000 + 0x00, lsb := 1, width := 1, acc := (.rwl .ssf), rst := (fun _ _ => 1), iN := 3, iStr := 0x100 }
def PHG.CFG_AUTO_PHASE : Fld := { off := 0x108000 + 0x00, lsb := 0, width := 1, acc := (.rwl .ssf), rst := (fun _ _ => 1), iN := 3, iStr := 0x100 }
def PHG.NOM : Fld := { off := 0x108000 + 0x04, lsb := 0, width := 7, acc := (.rwl .ssf), rst := (fun _ _ => 24), iN := 3, iStr := 0x100, chk := (.rng 1 96) }
def PHG.SENS_THR : Fld := { off := 0x108000 + 0x08, lsb := 0, width := 32, acc := .rw, rst := (fun _ _ => 0), iN := 3, iStr := 0x100, chk := (.f32 0x00000000 0x49742400 false) }
def PHG.RES_THR : Fld := { off := 0x108000 + 0x0C, lsb := 0, width := 32, acc := .rw, rst := (fun _ _ => 0), iN := 3, iStr := 0x100, chk := (.f32 0x00000000 0x49742400 false) }
def PHG.TIMING_BLK_PER : Fld := { off := 0x108000 + 0x10, lsb := 24, width := 4, acc := .rw, rst := (fun _ _ => 3), iN := 3, iStr := 0x100, chk := (.rng 1 15) }
def PHG.TIMING_SPARE_RAMP : Fld := { off := 0x108000 + 0x10, lsb := 16, width := 8, acc := .rw, rst := (fun _ _ => 10), iN := 3, iStr := 0x100, chk := (.rng 1 15) }
def PHG.TIMING_SHADOW_TMO : Fld := { off := 0x108000 + 0x10, lsb := 0, width := 16, acc := .rw, rst := (fun _ _ => 10000), iN := 3, iStr := 0x100, chk := (.rng 100 10000) }
def PHG.DAWN : Fld := { off := 0x108000 + 0x14, lsb := 0, width := 7, acc := .rw, rst := (fun _ _ => 0), iN := 3, iStr := 0x100, chk := (.rng 0 96) }
def PHG.CMD_RELEASE : Fld := { off := 0x108000 + 0x18, lsb := 9, width := 1, acc := .wo, rst := (fun _ _ => 0), iN := 3, iStr := 0x100 }
def PHG.CMD_UNRETIRE : Fld := { off := 0x108000 + 0x18, lsb := 8, width := 1, acc := .wo, rst := (fun _ _ => 0), iN := 3, iStr := 0x100 }
def PHG.CMD_LEG : Fld := { off := 0x108000 + 0x18, lsb := 0, width := 7, acc := .wo, rst := (fun _ _ => 0), iN := 3, iStr := 0x100, chk := (.rng 0 95) }
def PHG.STAT_UNRESOLVED : Fld := { off := 0x108000 + 0x1C, lsb := 24, width := 1, acc := .w1c, rst := (fun _ _ => 0), iN := 3, iStr := 0x100 }
def PHG.STAT_N_SPARE : Fld := { off := 0x108000 + 0x1C, lsb := 16, width := 8, acc := .rov, rst := (fun _ _ => 0), iN := 3, iStr := 0x100 }
def PHG.STAT_N_SHADOW : Fld := { off := 0x108000 + 0x1C, lsb := 8, width := 7, acc := .rov, rst := (fun _ _ => 0), iN := 3, iStr := 0x100 }
def PHG.STAT_N : Fld := { off := 0x108000 + 0x1C, lsb := 0, width := 7, acc := .rov, rst := (fun _ _ => 0), iN := 3, iStr := 0x100 }
def PHG.CEIL : Fld := { off := 0x108000 + 0x20, lsb := 0, width := 32, acc := .ro, rst := (fun _ _ => 0), iN := 3, iStr := 0x100 }
def PHG.RESID : Fld := { off := 0x108000 + 0x24, lsb := 0, width := 32, acc := .ro, rst := (fun _ _ => 0), iN := 3, iStr := 0x100 }
def PHG.SPMASK : Fld := { off := 0x108000 + 0x30, lsb := 0, width := 32, acc := (.rwl .ssf), rst := (fun _ _ => 0), iN := 3, iStr := 0x100, jN := 3, jStr := 4 }

/-- Every field of the PHG registers.  -/
def PHG.flds : List Fld :=
  [PHG.CFG_SENS_PER, PHG.CFG_OPEN_PER, PHG.CFG_BLK_RETIRE, PHG.CFG_SPARE_EN, PHG.CFG_SENS_EN, PHG.CFG_OPEN_EN, PHG.CFG_AUTO_PHASE, PHG.NOM, PHG.SENS_THR, PHG.RES_THR, PHG.TIMING_BLK_PER, PHG.TIMING_SPARE_RAMP, PHG.TIMING_SHADOW_TMO, PHG.DAWN, PHG.CMD_RELEASE, PHG.CMD_UNRETIRE, PHG.CMD_LEG, PHG.STAT_UNRESOLVED, PHG.STAT_N_SPARE, PHG.STAT_N_SHADOW, PHG.STAT_N, PHG.CEIL, PHG.RESID, PHG.SPMASK]

/-! ### GRD: R258 -/

def GRD.CFG_VS_EN : Fld := { off := 0x109000 + 0x000, lsb := 2, width := 1, acc := (.rwl .ssf), rst := (fun _ _ => 0) }
def GRD.CFG_ROCOF_EN : Fld := { off := 0x109000 + 0x000, lsb := 1, width := 1, acc := (.rwl .ssf), rst := (fun _ _ => 0) }
def GRD.CFG_EN : Fld := { off := 0x109000 + 0x000, lsb := 0, width := 1, acc := (.rwl .ssf), rst := (fun _ _ => 1) }
def GRD.PROFILE : Fld := { off := 0x109000 + 0x004, lsb := 0, width := 2, acc := .rw, rst := (fun _ _ => 0) }
def GRD.ROCOF_THR : Fld := { off := 0x109000 + 0x008, lsb := 0, width := 32, acc := .rw, rst := (fun _ _ => 0x40000000), chk := (.f32 0x3DCCCCCD 0x41200000 false) }
def GRD.VS_THR : Fld := { off := 0x109000 + 0x00C, lsb := 0, width := 32, acc := .rw, rst := (fun _ _ => 0x42B40000), chk := (.f32 0x3F800000 0x43340000 false) }
def GRD.PASSIVE_HOLD : Fld := { off := 0x109000 + 0x010, lsb := 0, width := 16, acc := .rw, rst := (fun _ _ => 100) }
def GRD.ES_VLO : Fld := { off := 0x109000 + 0x014, lsb := 0, width := 32, acc := .rw, rst := (fun _ _ => 0x3F6AC083), chk := (.f32 0x00000000 0x40000000 false) }
def GRD.ES_VHI : Fld := { off := 0x109000 + 0x018, lsb := 0, width := 32, acc := .rw, rst := (fun _ _ => 0x3F866666), chk := (.f32 0x00000000 0x40000000 false) }
def GRD.ES_FLO : Fld := { off := 0x109000 + 0x01C, lsb := 0, width := 32, acc := .rw, rst := (fun _ _ => 0x428C0000), chk := (.f32 0x42200000 0x428C0000 false) }
def GRD.ES_FHI : Fld := { off := 0x109000 + 0x020, lsb := 0, width := 32, acc := .rw, rst := (fun _ _ => 0x42200000), chk := (.f32 0x42200000 0x428C0000 false) }
def GRD.ES_DELAY : Fld := { off := 0x109000 + 0x024, lsb := 0, width := 16, acc := .rw, rst := (fun _ _ => 3000), chk := (.rng 0 6000) }
def GRD.CTRL : Fld := { off := 0x109000 + 0x028, lsb := 0, width := 1, acc := .wo, rst := (fun _ _ => 0) }
def GRD.STAT_RETURN_REQ : Fld := { off := 0x109000 + 0x02C, lsb := 12, width := 1, acc := .ro, rst := (fun _ _ => 0) }
def GRD.STAT_PASSIVE : Fld := { off := 0x109000 + 0x02C, lsb := 11, width := 1, acc := .ro, rst := (fun _ _ => 0) }
def GRD.STAT_PENDING_SET : Fld := { off := 0x109000 + 0x02C, lsb := 10, width := 1, acc := .ro, rst := (fun _ _ => 0) }
def GRD.STAT_SET : Fld := { off := 0x109000 + 0x02C, lsb := 8, width := 2, acc := .ro, rst := (fun _ _ => 0) }
def GRD.STAT_CRV_MISSING : Fld := { off := 0x109000 + 0x02C, lsb := 4, width := 4, acc := .ro, rst := (fun _ _ => 0) }
def GRD.STAT_ES_MET : Fld := { off := 0x109000 + 0x02C, lsb := 3, width := 1, acc := .ro, rst := (fun _ _ => 0) }
def GRD.STAT_MUST_TRIP : Fld := { off := 0x109000 + 0x02C, lsb := 2, width := 1, acc := .ro, rst := (fun _ _ => 0) }
def GRD.STAT_REGION : Fld := { off := 0x109000 + 0x02C, lsb := 0, width := 2, acc := .ro, rst := (fun _ _ => 0) }
def GRD.ES_TIME : Fld := { off := 0x109000 + 0x030, lsb := 0, width := 32, acc := .ro, rst := (fun _ _ => 0) }
def GRD.SYNC_TOL : Fld := { off := 0x109000 + 0x034, lsb := 0, width := 32, acc := .rw, rst := (fun _ _ => 0x42200000), chk := (.f32 0x00000000 0x461C4000 false) }
def GRD.SYNC_TIME_TMO_MS : Fld := { off := 0x109000 + 0x038, lsb := 16, width := 16, acc := .rw, rst := (fun _ _ => 5000), chk := (.rng 100 65535) }
def GRD.SYNC_TIME_HOLD_MS : Fld := { off := 0x109000 + 0x038, lsb := 0, width := 16, acc := .rw, rst := (fun _ _ => 20), chk := (.rng 10 1000) }
def GRD.SETCFG_RESTORE_MS : Fld := { off := 0x109000 + 0x040, lsb := 16, width := 16, acc := .rw, rst := (fun _ _ => 20), jN := 4, jStr := 4 }
def GRD.SETCFG_EXIT_MS : Fld := { off := 0x109000 + 0x040, lsb := 0, width := 16, acc := .rw, rst := (fun _ _ => 20), jN := 4, jStr := 4 }

/-- Every field of the GRD registers.  -/
def GRD.flds : List Fld :=
  [GRD.CFG_VS_EN, GRD.CFG_ROCOF_EN, GRD.CFG_EN, GRD.PROFILE, GRD.ROCOF_THR, GRD.VS_THR, GRD.PASSIVE_HOLD, GRD.ES_VLO, GRD.ES_VHI, GRD.ES_FLO, GRD.ES_FHI, GRD.ES_DELAY, GRD.CTRL, GRD.STAT_RETURN_REQ, GRD.STAT_PASSIVE, GRD.STAT_PENDING_SET, GRD.STAT_SET, GRD.STAT_CRV_MISSING, GRD.STAT_ES_MET, GRD.STAT_MUST_TRIP, GRD.STAT_REGION, GRD.ES_TIME, GRD.SYNC_TOL, GRD.SYNC_TIME_TMO_MS] ++
  [GRD.SYNC_TIME_HOLD_MS, GRD.SETCFG_RESTORE_MS, GRD.SETCFG_EXIT_MS]

/-! ### CRV: R258, R242 -/

def CRV.PT_VALID : Fld := { off := 0x10A000 + 0x0, lsb := 63, width := 1, acc := (.rwl .ssf), rst := (fun _ _ => 0), iN := 16, iStr := 0x80, jN := 16, jStr := 8 }
def CRV.PT_REGION : Fld := { off := 0x10A000 + 0x0, lsb := 56, width := 2, acc := (.rwl .ssf), rst := (fun _ _ => 0), iN := 16, iStr := 0x80, jN := 16, jStr := 8, chk := (.codes [0, 1, 2]) }
def CRV.PT_TRIP_MS : Fld := { off := 0x10A000 + 0x0, lsb := 32, width := 16, acc := (.rwl .ssf), rst := (fun _ _ => 0), iN := 16, iStr := 0x80, jN := 16, jStr := 8 }
def CRV.PT_LEVEL : Fld := { off := 0x10A000 + 0x0, lsb := 0, width := 32, acc := (.rwl .ssf), rst := (fun _ _ => 0), iN := 16, iStr := 0x80, jN := 16, jStr := 8, chk := (.f32i crvLevelLo crvLevelHi) }

/-- Every field of the CRV registers.  -/
def CRV.flds : List Fld :=
  [CRV.PT_VALID, CRV.PT_REGION, CRV.PT_TRIP_MS, CRV.PT_LEVEL]

/-! ### PRB: R259 -/

def PRB.CFG_EN : Fld := { off := 0x10B000 + 0x000, lsb := 31, width := 1, acc := (.rwl .ssf), rst := (fun _ _ => 0) }
def PRB.CFG_CODE : Fld := { off := 0x10B000 + 0x000, lsb := 16, width := 6, acc := (.rwl .ssf), rst := (fun _ _ => 0) }
def PRB.CFG_WIN : Fld := { off := 0x10B000 + 0x000, lsb := 8, width := 7, acc := (.rwl .ssf), rst := (fun _ _ => 64), chk := (.set [8,16,24,32,40,48,56,64,72,80,88,96,104,112,120,127]) }
def PRB.CFG_N_TONE : Fld := { off := 0x10B000 + 0x000, lsb := 4, width := 4, acc := (.rwl .ssf), rst := (fun _ _ => 3), chk := (.rng 1 8) }
def PRB.CFG_N_CONSEC : Fld := { off := 0x10B000 + 0x000, lsb := 0, width := 4, acc := (.rwl .ssf), rst := (fun _ _ => 3), chk := (.rng 1 15) }
def PRB.RATIO_THR : Fld := { off := 0x10B000 + 0x004, lsb := 0, width := 32, acc := .rw, rst := (fun _ _ => 0x40000000), chk := (.f32 0x3F8CCCCD 0x42C80000 false) }
def PRB.BASE_TAU : Fld := { off := 0x10B000 + 0x008, lsb := 0, width := 16, acc := .rw, rst := (fun _ _ => 60), chk := (.rng 1 3600) }
def PRB.LISTEN : Fld := { off := 0x10B000 + 0x00C, lsb := 0, width := 16, acc := .rw, rst := (fun _ _ => 0), chk := (.zrng 10 3600) }
def PRB.I_BASE : Fld := { off := 0x10B000 + 0x010, lsb := 0, width := 32, acc := .rw, rst := (fun _ _ => 0x3F800000), chk := (.f32 0x3F800000 0x49742400 false) }
def PRB.SRC : Fld := { off := 0x10B000 + 0x020, lsb := 0, width := 18, acc := .rw, rst := (fun _ i=>if i=3 then 0x254 else if i=4 then 0x258 else if i=5 then 0x25C else 0), jN := 6, jStr := 4 }
def PRB.STAT_CONSEC : Fld := { off := 0x10B000 + 0x040, lsb := 20, width := 4, acc := .ro, rst := (fun _ _ => 0) }
def PRB.STAT_EXCEED : Fld := { off := 0x10B000 + 0x040, lsb := 16, width := 4, acc := .ro, rst := (fun _ _ => 0) }
def PRB.STAT_BASE_READY : Fld := { off := 0x10B000 + 0x040, lsb := 8, width := 8, acc := .ro, rst := (fun _ _ => 0) }
def PRB.STAT_COLLISION : Fld := { off := 0x10B000 + 0x040, lsb := 4, width := 1, acc := .w1c, rst := (fun _ _ => 0) }
def PRB.STAT_LISTENING : Fld := { off := 0x10B000 + 0x040, lsb := 3, width := 1, acc := .ro, rst := (fun _ _ => 0) }
def PRB.STAT_FULL : Fld := { off := 0x10B000 + 0x040, lsb := 2, width := 1, acc := .ro, rst := (fun _ _ => 0) }
def PRB.STAT_SYNC : Fld := { off := 0x10B000 + 0x040, lsb := 1, width := 1, acc := .ro, rst := (fun _ _ => 0) }
def PRB.STAT_RUN : Fld := { off := 0x10B000 + 0x040, lsb := 0, width := 1, acc := .ro, rst := (fun _ _ => 0) }
def PRB.EST_CNT : Fld := { off := 0x10B000 + 0x044, lsb := 0, width := 32, acc := .ro, rst := (fun _ _ => 0) }

/-- Every field of the PRB registers.  -/
def PRB.flds : List Fld :=
  [PRB.CFG_EN, PRB.CFG_CODE, PRB.CFG_WIN, PRB.CFG_N_TONE, PRB.CFG_N_CONSEC, PRB.RATIO_THR, PRB.BASE_TAU, PRB.LISTEN, PRB.I_BASE, PRB.SRC, PRB.STAT_CONSEC, PRB.STAT_EXCEED, PRB.STAT_BASE_READY, PRB.STAT_COLLISION, PRB.STAT_LISTENING, PRB.STAT_FULL, PRB.STAT_SYNC, PRB.STAT_RUN, PRB.EST_CNT]

/-! ### TONE: R259 -/

def TONE.FREQ : Fld := { off := 0x10B080 + 0x0, lsb := 0, width := 16, acc := .rw, rst := (fun k _=>[750,1350,2250,3150,4650,6450,8850,11850].getD k 0), iN := 8, iStr := 0x10, chk := (.rng 750 12000) }
def TONE.AMP : Fld := { off := 0x10B080 + 0x4, lsb := 0, width := 32, acc := .rw, rst := (fun _ _ => 0x39A3D70A), iN := 8, iStr := 0x10, chk := (.f32 0x00000000 0x39A3D70A false) }
def TONE.RATIO : Fld := { off := 0x10B080 + 0x8, lsb := 0, width := 32, acc := .ro, rst := (fun _ _ => 0), iN := 8, iStr := 0x10 }
def TONE.BASE : Fld := { off := 0x10B080 + 0xC, lsb := 0, width := 32, acc := .ro, rst := (fun _ _ => 0), iN := 8, iStr := 0x10 }

/-- Every field of the TONE registers.  -/
def TONE.flds : List Fld :=
  [TONE.FREQ, TONE.AMP, TONE.RATIO, TONE.BASE]

/-! ### DCS: R285 -/

def DCS.CFG : Fld := { off := 0x10C000 + 0x000, lsb := 0, width := 1, acc := (.rwl .ssf), rst := (fun _ _ => 1) }
def DCS.P_RATED : Fld := { off := 0x10C000 + 0x004, lsb := 0, width := 32, acc := .rw, rst := (fun _ _ => 0x4B189680), chk := (.f32 0x47C35000 0x4B989680 false) }
def DCS.DAWN_LVL_EXIT : Fld := { off := 0x10C000 + 0x008, lsb := 16, width := 16, acc := .rw, rst := (fun _ _ => 100), chk := (.rng 1 1000) }
def DCS.DAWN_LVL_ENTER : Fld := { off := 0x10C000 + 0x008, lsb := 0, width := 16, acc := .rw, rst := (fun _ _ => 50), chk := (.rng 1 1000) }
def DCS.DAWN_TIME_EXIT_S : Fld := { off := 0x10C000 + 0x00C, lsb := 16, width := 16, acc := .rw, rst := (fun _ _ => 10), chk := (.rng 1 3600) }
def DCS.DAWN_TIME_ENTER_S : Fld := { off := 0x10C000 + 0x00C, lsb := 0, width := 16, acc := .rw, rst := (fun _ _ => 60), chk := (.rng 1 3600) }
def DCS.SHORT_CHK : Fld := { off := 0x10C000 + 0x010, lsb := 0, width := 32, acc := .rw, rst := (fun _ _ => 0x41A00000), chk := (.f32 0x00000000 0x461C4000 false) }
def DCS.CHK_IREV : Fld := { off := 0x10C000 + 0x014, lsb := 0, width := 32, acc := .rw, rst := (fun _ _ => 0x3F800000), chk := (.f32 0x00000000 0x461C4000 false) }
def DCS.CHK_IFWD : Fld := { off := 0x10C000 + 0x018, lsb := 0, width := 32, acc := .rw, rst := (fun _ _ => 0x41200000), chk := (.f32 0x00000000 0x461C4000 false) }
def DCS.CHK_STAT_FAIL : Fld := { off := 0x10C000 + 0x01C, lsb := 31, width := 1, acc := .ro, rst := (fun _ _ => 0) }
def DCS.CHK_STAT_LEG : Fld := { off := 0x10C000 + 0x01C, lsb := 16, width := 7, acc := .ro, rst := (fun _ _ => 0) }
def DCS.CHK_STAT_CAUSE : Fld := { off := 0x10C000 + 0x01C, lsb := 8, width := 4, acc := .ro, rst := (fun _ _ => 0) }
def DCS.CHK_STAT_COUNT : Fld := { off := 0x10C000 + 0x01C, lsb := 0, width := 7, acc := .ro, rst := (fun _ _ => 0) }
def DCS.CHK_FAIL : Fld := { off := 0x10C000 + 0x020, lsb := 0, width := 32, acc := .ro, rst := (fun _ _ => 0), jN := 3, jStr := 4 }
def DCS.DAWN_P : Fld := { off := 0x10C000 + 0x02C, lsb := 0, width := 32, acc := .ro, rst := (fun _ _ => 0) }
def DCS.PRE_VLO : Fld := { off := 0x10C000 + 0x030, lsb := 0, width := 32, acc := .rw, rst := (fun _ _ => 0), chk := (.f32 0x00000000 0x461C4000 false) }
def DCS.PRE_VHI : Fld := { off := 0x10C000 + 0x034, lsb := 0, width := 32, acc := .rw, rst := (fun _ _ => 0), chk := (.f32 0x00000000 0x461C4000 false) }
def DCS.PRE_MS : Fld := { off := 0x10C000 + 0x038, lsb := 0, width := 16, acc := .rw, rst := (fun _ _ => 10), chk := (.rng 1 1000) }
def DCS.MODEL : Fld := { off := 0x10C000 + 0x040, lsb := 0, width := 32, acc := .rw, rst := (fun _ _ => 0), jN := 10, jStr := 4, chk := .f32nan }

/-- Every field of the DCS registers.  -/
def DCS.flds : List Fld :=
  [DCS.CFG, DCS.P_RATED, DCS.DAWN_LVL_EXIT, DCS.DAWN_LVL_ENTER, DCS.DAWN_TIME_EXIT_S, DCS.DAWN_TIME_ENTER_S, DCS.SHORT_CHK, DCS.CHK_IREV, DCS.CHK_IFWD, DCS.CHK_STAT_FAIL, DCS.CHK_STAT_LEG, DCS.CHK_STAT_CAUSE, DCS.CHK_STAT_COUNT, DCS.CHK_FAIL, DCS.DAWN_P, DCS.PRE_VLO, DCS.PRE_VHI, DCS.PRE_MS, DCS.MODEL]

/-! ### DCI: R285 -/

def DCI.CFG_EN : Fld := { off := 0x10C100 + 0x00, lsb := 31, width := 1, acc := (.rwl .ssf), rst := (fun _ _ => 0), iN := 24, iStr := 0x40 }
def DCI.CFG_BURST_EN : Fld := { off := 0x10C100 + 0x00, lsb := 30, width := 1, acc := (.rwl .ssf), rst := (fun _ _ => 0), iN := 24, iStr := 0x40 }
def DCI.CFG_LEG : Fld := { off := 0x10C100 + 0x00, lsb := 0, width := 7, acc := (.rwl .ssf), rst := (fun k _=>72+k), iN := 24, iStr := 0x40, chk := (.pred (fun _ _ v=>v<96)) }
def DCI.I_RATE : Fld := { off := 0x10C100 + 0x04, lsb := 0, width := 32, acc := .rw, rst := (fun _ _ => 0), iN := 24, iStr := 0x40, chk := (.f32 0x00000000 0x461C4000 false) }
def DCI.VIN_START : Fld := { off := 0x10C100 + 0x08, lsb := 0, width := 32, acc := .rw, rst := (fun _ _ => 0), iN := 24, iStr := 0x40, chk := (.f32 0x00000000 0x461C4000 false) }
def DCI.V_SC : Fld := { off := 0x10C100 + 0x0C, lsb := 0, width := 32, acc := .rw, rst := (fun _ _ => 0), iN := 24, iStr := 0x40, chk := (.f32 0x00000000 0x461C4000 false) }
def DCI.START_FWD_N : Fld := { off := 0x10C100 + 0x10, lsb := 24, width := 8, acc := .rw, rst := (fun _ _ => 4), iN := 24, iStr := 0x40, chk := (.rng 1 255) }
def DCI.START_FWD_PCT : Fld := { off := 0x10C100 + 0x10, lsb := 16, width := 8, acc := .rw, rst := (fun _ _ => 10), iN := 24, iStr := 0x40, chk := (.rng 1 255) }
def DCI.START_REV_PCT : Fld := { off := 0x10C100 + 0x10, lsb := 8, width := 8, acc := .rw, rst := (fun _ _ => 10), iN := 24, iStr := 0x40, chk := (.rng 1 255) }
def DCI.START_SS_MS : Fld := { off := 0x10C100 + 0x10, lsb := 0, width := 8, acc := .rw, rst := (fun _ _ => 50), iN := 24, iStr := 0x40, chk := (.rng 1 255) }
def DCI.SC : Fld := { off := 0x10C100 + 0x14, lsb := 0, width := 16, acc := .rw, rst := (fun _ _ => 1000), iN := 24, iStr := 0x40, chk := (.rng 10 65535) }
def DCI.BURST_ENTER_PCT : Fld := { off := 0x10C100 + 0x18, lsb := 24, width := 8, acc := .rw, rst := (fun _ _ => 20), iN := 24, iStr := 0x40, chk := (.rng 1 255) }
def DCI.BURST_EXIT_PCT : Fld := { off := 0x10C100 + 0x18, lsb := 16, width := 8, acc := .rw, rst := (fun _ _ => 40), iN := 24, iStr := 0x40, chk := (.rng 1 255) }
def DCI.BURST_SLEEP_MS : Fld := { off := 0x10C100 + 0x18, lsb := 8, width := 8, acc := .rw, rst := (fun _ _ => 20), iN := 24, iStr := 0x40, chk := (.rng 1 200) }
def DCI.BURST_ON : Fld := { off := 0x10C100 + 0x1C, lsb := 0, width := 16, acc := .rw, rst := (fun _ _ => 200), iN := 24, iStr := 0x40, chk := (.rng 1 65535) }
def DCI.STAT_CFG_ERR : Fld := { off := 0x10C100 + 0x20, lsb := 15, width := 1, acc := .ro, rst := (fun _ _ => 0), iN := 24, iStr := 0x40 }
def DCI.STAT_ROLE_ERR : Fld := { off := 0x10C100 + 0x20, lsb := 14, width := 1, acc := .ro, rst := (fun _ _ => 0), iN := 24, iStr := 0x40 }
def DCI.STAT_SC_SEEN : Fld := { off := 0x10C100 + 0x20, lsb := 13, width := 1, acc := .w1c, rst := (fun _ _ => 0), iN := 24, iStr := 0x40 }
def DCI.STAT_START_SLOW : Fld := { off := 0x10C100 + 0x20, lsb := 12, width := 1, acc := .w1c, rst := (fun _ _ => 0), iN := 24, iStr := 0x40 }
def DCI.STAT_SR_HOLD : Fld := { off := 0x10C100 + 0x20, lsb := 8, width := 1, acc := .ro, rst := (fun _ _ => 0), iN := 24, iStr := 0x40 }
def DCI.STAT_RETRY : Fld := { off := 0x10C100 + 0x20, lsb := 4, width := 4, acc := .ro, rst := (fun _ _ => 0), iN := 24, iStr := 0x40 }
def DCI.STAT_STATE : Fld := { off := 0x10C100 + 0x20, lsb := 0, width := 4, acc := .ro, rst := (fun _ _ => 0), iN := 24, iStr := 0x40 }
def DCI.CMD_SWEEP : Fld := { off := 0x10C100 + 0x24, lsb := 1, width := 1, acc := .wo, rst := (fun _ _ => 0), iN := 24, iStr := 0x40 }
def DCI.CMD_UNBLOCK : Fld := { off := 0x10C100 + 0x24, lsb := 0, width := 1, acc := .wo, rst := (fun _ _ => 0), iN := 24, iStr := 0x40 }
def DCI.P_AVG : Fld := { off := 0x10C100 + 0x28, lsb := 0, width := 32, acc := .ro, rst := (fun _ _ => 0), iN := 24, iStr := 0x40 }

/-- Every field of the DCI registers.  -/
def DCI.flds : List Fld :=
  [DCI.CFG_EN, DCI.CFG_BURST_EN, DCI.CFG_LEG, DCI.I_RATE, DCI.VIN_START, DCI.V_SC, DCI.START_FWD_N, DCI.START_FWD_PCT, DCI.START_REV_PCT, DCI.START_SS_MS, DCI.SC, DCI.BURST_ENTER_PCT, DCI.BURST_EXIT_PCT, DCI.BURST_SLEEP_MS, DCI.BURST_ON, DCI.STAT_CFG_ERR, DCI.STAT_ROLE_ERR, DCI.STAT_SC_SEEN, DCI.STAT_START_SLOW, DCI.STAT_SR_HOLD, DCI.STAT_RETRY, DCI.STAT_STATE, DCI.CMD_SWEEP, DCI.CMD_UNBLOCK] ++
  [DCI.P_AVG]

/-! ### MEM: R359 -/

def MEM.CFG_AUTO_REMAP : Fld := { off := 0x060000 + 0x000, lsb := 31, width := 1, acc := .rw, rst := (fun _ _ => 1) }
def MEM.CFG_SCRUB_H : Fld := { off := 0x060000 + 0x000, lsb := 0, width := 5, acc := .rw, rst := (fun _ _ => 24), chk := (.rng 1 24) }
def MEM.STAT_INIT_MIB : Fld := { off := 0x060000 + 0x004, lsb := 16, width := 7, acc := .ro, rst := (fun _ _ => 0) }
def MEM.STAT_REMAP_FULL : Fld := { off := 0x060000 + 0x004, lsb := 2, width := 1, acc := .rov, rst := (fun _ _ => 0) }
def MEM.STAT_SCRUBBING : Fld := { off := 0x060000 + 0x004, lsb := 1, width := 1, acc := .ro, rst := (fun _ _ => 0) }
def MEM.STAT_INIT_DONE : Fld := { off := 0x060000 + 0x004, lsb := 0, width := 1, acc := .rov, rst := (fun _ _ => 0) }
def MEM.BUCKET_SIZE : Fld := { off := 0x060000 + 0x008, lsb := 0, width := 16, acc := .rw, rst := (fun _ _ => 100), chk := (.rng 1 65535) }
def MEM.BUCKET_LEAK : Fld := { off := 0x060000 + 0x00C, lsb := 0, width := 22, acc := .rw, rst := (fun _ _ => 600000), chk := (.rng 1 3600000) }
def MEM.BUCKET_LEVEL : Fld := { off := 0x060000 + 0x010, lsb := 0, width := 16, acc := .ro, rst := (fun _ _ => 0) }
def MEM.CE_CNT : Fld := { off := 0x060000 + 0x014, lsb := 0, width := 32, acc := .ro, rst := (fun _ _ => 0) }
def MEM.UE_CNT : Fld := { off := 0x060000 + 0x018, lsb := 0, width := 32, acc := .ro, rst := (fun _ _ => 0) }
def MEM.OVF_CNT : Fld := { off := 0x060000 + 0x01C, lsb := 0, width := 32, acc := .ro, rst := (fun _ _ => 0) }
def MEM.CE_ADDR : Fld := { off := 0x060000 + 0x020, lsb := 0, width := 27, acc := .ro, rst := (fun _ _ => 0) }
def MEM.UE_ADDR_VALID : Fld := { off := 0x060000 + 0x024, lsb := 31, width := 1, acc := .w1c, rst := (fun _ _ => 0) }
def MEM.UE_ADDR_CA : Fld := { off := 0x060000 + 0x024, lsb := 0, width := 27, acc := .ro, rst := (fun _ _ => 0) }
def MEM.CNT_CLR : Fld := { off := 0x060000 + 0x028, lsb := 0, width := 1, acc := .wo, rst := (fun _ _ => 0) }
def MEM.SCRUB_PASS : Fld := { off := 0x060000 + 0x030, lsb := 0, width := 32, acc := .ro, rst := (fun _ _ => 0) }
def MEM.SCRUB_DT : Fld := { off := 0x060000 + 0x038, lsb := 0, width := 64, acc := .ro, rst := (fun _ _ => 0) }
def MEM.FLIP_ADDR : Fld := { off := 0x060000 + 0x040, lsb := 3, width := 24, acc := (.rwl .sf), rst := (fun _ _ => 0), chk := (.pred (fun _ _ v=>v<0xE00000)) }
def MEM.FLIP_LO : Fld := { off := 0x060000 + 0x048, lsb := 0, width := 64, acc := (.rwl .sf), rst := (fun _ _ => 0) }
def MEM.FLIP_HI : Fld := { off := 0x060000 + 0x050, lsb := 0, width := 8, acc := (.rwl .sf), rst := (fun _ _ => 0) }
def MEM.FLIP_CTRL : Fld := { off := 0x060000 + 0x054, lsb := 0, width := 1, acc := (.rwl .sf), rst := (fun _ _ => 0) }
def MEM.TEST_ADDR : Fld := { off := 0x060000 + 0x060, lsb := 3, width := 24, acc := (.rwl .sf), rst := (fun _ _ => 0), chk := (.pred (fun _ _ v=>v<0xE00000)) }
def MEM.TEST_DATA : Fld := { off := 0x060000 + 0x068, lsb := 0, width := 64, acc := (.rwl .sf), rst := (fun _ _ => 0) }
def MEM.TEST_CTRL_WRITE : Fld := { off := 0x060000 + 0x070, lsb := 1, width := 1, acc := .wo, rst := (fun _ _ => 0) }
def MEM.TEST_CTRL_GO : Fld := { off := 0x060000 + 0x070, lsb := 0, width := 1, acc := .wo, rst := (fun _ _ => 0) }
def MEM.TEST_STAT_UE : Fld := { off := 0x060000 + 0x074, lsb := 2, width := 1, acc := .ro, rst := (fun _ _ => 0) }
def MEM.TEST_STAT_CE : Fld := { off := 0x060000 + 0x074, lsb := 1, width := 1, acc := .ro, rst := (fun _ _ => 0) }
def MEM.TEST_STAT_DONE : Fld := { off := 0x060000 + 0x074, lsb := 0, width := 1, acc := .ro, rst := (fun _ _ => 0) }
def MEM.REMAP_CMD_GO : Fld := { off := 0x060000 + 0x0FC, lsb := 31, width := 1, acc := .wo, rst := (fun _ _ => 0) }
def MEM.REMAP_CMD_GRANULE : Fld := { off := 0x060000 + 0x0FC, lsb := 0, width := 21, acc := .wo, rst := (fun _ _ => 0) }
def MEM.REMAP_VALID : Fld := { off := 0x060000 + 0x100, lsb := 31, width := 1, acc := .ro, rst := (fun _ _ => 0), jN := 16, jStr := 4 }
def MEM.REMAP_BAD : Fld := { off := 0x060000 + 0x100, lsb := 30, width := 1, acc := .ro, rst := (fun _ _ => 0), jN := 16, jStr := 4 }
def MEM.REMAP_PMASK : Fld := { off := 0x060000 + 0x100, lsb := 21, width := 8, acc := .ro, rst := (fun _ _ => 0), jN := 16, jStr := 4 }
def MEM.REMAP_GRANULE : Fld := { off := 0x060000 + 0x100, lsb := 0, width := 21, acc := .ro, rst := (fun _ _ => 0), jN := 16, jStr := 4 }

/-- Every field of the MEM registers.  -/
def MEM.flds : List Fld :=
  [MEM.CFG_AUTO_REMAP, MEM.CFG_SCRUB_H, MEM.STAT_INIT_MIB, MEM.STAT_REMAP_FULL, MEM.STAT_SCRUBBING, MEM.STAT_INIT_DONE, MEM.BUCKET_SIZE, MEM.BUCKET_LEAK, MEM.BUCKET_LEVEL, MEM.CE_CNT, MEM.UE_CNT, MEM.OVF_CNT, MEM.CE_ADDR, MEM.UE_ADDR_VALID, MEM.UE_ADDR_CA, MEM.CNT_CLR, MEM.SCRUB_PASS, MEM.SCRUB_DT, MEM.FLIP_ADDR, MEM.FLIP_LO, MEM.FLIP_HI, MEM.FLIP_CTRL, MEM.TEST_ADDR, MEM.TEST_DATA] ++
  [MEM.TEST_CTRL_WRITE, MEM.TEST_CTRL_GO, MEM.TEST_STAT_UE, MEM.TEST_STAT_CE, MEM.TEST_STAT_DONE, MEM.REMAP_CMD_GO, MEM.REMAP_CMD_GRANULE, MEM.REMAP_VALID, MEM.REMAP_BAD, MEM.REMAP_PMASK, MEM.REMAP_GRANULE]

/-! ### FLT: R376 -/

def FLT.CFG : Fld := { off := 0x040000 + 0x000, lsb := 0, width := 2, acc := .rw, rst := (fun _ _ => 1) }
def FLT.STAT_FATAL_HOLD : Fld := { off := 0x040000 + 0x004, lsb := 2, width := 1, acc := .ro, rst := (fun _ _ => 0) }
def FLT.STAT_OVERFLOW : Fld := { off := 0x040000 + 0x004, lsb := 1, width := 1, acc := .ro, rst := (fun _ _ => 0) }
def FLT.FIRST_VALID : Fld := { off := 0x040000 + 0x008, lsb := 31, width := 1, acc := .w1ch, rst := (fun _ _ => 0) }
def FLT.FIRST_SIMULTANEOUS : Fld := { off := 0x040000 + 0x008, lsb := 30, width := 1, acc := .ro, rst := (fun _ _ => 0) }
def FLT.FIRST_CLASS : Fld := { off := 0x040000 + 0x008, lsb := 24, width := 2, acc := .ro, rst := (fun _ _ => 0) }
def FLT.FIRST_CODE : Fld := { off := 0x040000 + 0x008, lsb := 16, width := 8, acc := .ro, rst := (fun _ _ => 0) }
def FLT.FIRST_SOURCE : Fld := { off := 0x040000 + 0x008, lsb := 0, width := 8, acc := .ro, rst := (fun _ _ => 0) }
def FLT.FIRST_DT : Fld := { off := 0x040000 + 0x010, lsb := 0, width := 64, acc := .ro, rst := (fun _ _ => 0) }
def FLT.OCM_CE : Fld := { off := 0x040000 + 0x018, lsb := 0, width := 32, acc := .ro, rst := (fun _ _ => 0) }
def FLT.CNT_CLR : Fld := { off := 0x040000 + 0x01C, lsb := 0, width := 1, acc := .wo, rst := (fun _ _ => 0) }
def FLT.INJ_GO : Fld := { off := 0x040000 + 0x020, lsb := 31, width := 1, acc := .wo, rst := (fun _ _ => 0) }
def FLT.INJ_KIND : Fld := { off := 0x040000 + 0x020, lsb := 24, width := 3, acc := (.rwl .f), rst := (fun _ _ => 0), chk := (.codes [0, 1, 2, 3]) }
def FLT.INJ_COUNT : Fld := { off := 0x040000 + 0x020, lsb := 16, width := 8, acc := (.rwl .f), rst := (fun _ _ => 0), chk := (.rng 1 255) }
def FLT.INJ_SOURCE : Fld := { off := 0x040000 + 0x020, lsb := 0, width := 8, acc := (.rwl .f), rst := (fun _ _ => 0), chk := (.rng 0 202) }
def FLT.INJ_HOLD : Fld := { off := 0x040000 + 0x024, lsb := 0, width := 16, acc := (.rwl .f), rst := (fun _ _ => 1), chk := (.rng 1 65535) }
def FLT.DUMP_STAT_RESULT : Fld := { off := 0x040000 + 0x028, lsb := 24, width := 8, acc := .ro, rst := (fun _ _ => 0) }
def FLT.DUMP_STAT_SOURCE : Fld := { off := 0x040000 + 0x028, lsb := 0, width := 16, acc := .ro, rst := (fun _ _ => 0) }
def FLT.DUMP_LEN : Fld := { off := 0x040000 + 0x02C, lsb := 0, width := 32, acc := .ro, rst := (fun _ _ => 0) }
def FLT.DUMP_CFG_SIEVE_EN : Fld := { off := 0x040000 + 0x030, lsb := 31, width := 1, acc := .rw, rst := (fun _ _ => 0) }
def FLT.DUMP_CFG_ENGINE : Fld := { off := 0x040000 + 0x030, lsb := 0, width := 3, acc := .rw, rst := (fun _ _ => 0) }
def FLT.ACTIVE : Fld := { off := 0x040000 + 0x040, lsb := 0, width := 32, acc := .rov, rst := (fun _ _ => 0), jN := 8, jStr := 4 }
def FLT.ASSERTED : Fld := { off := 0x040000 + 0x060, lsb := 0, width := 32, acc := .rov, rst := (fun _ _ => 0), jN := 8, jStr := 4 }
def FLT.WIRE : Fld := { off := 0x040000 + 0x080, lsb := 0, width := 32, acc := .rov, rst := (fun _ _ => 0), jN := 8, jStr := 4 }

/-- Every field of the FLT registers.  -/
def FLT.flds : List Fld :=
  [FLT.CFG, FLT.STAT_FATAL_HOLD, FLT.STAT_OVERFLOW, FLT.FIRST_VALID, FLT.FIRST_SIMULTANEOUS, FLT.FIRST_CLASS, FLT.FIRST_CODE, FLT.FIRST_SOURCE, FLT.FIRST_DT, FLT.OCM_CE, FLT.CNT_CLR, FLT.INJ_GO, FLT.INJ_KIND, FLT.INJ_COUNT, FLT.INJ_SOURCE, FLT.INJ_HOLD, FLT.DUMP_STAT_RESULT, FLT.DUMP_STAT_SOURCE, FLT.DUMP_LEN, FLT.DUMP_CFG_SIEVE_EN, FLT.DUMP_CFG_ENGINE, FLT.ACTIVE, FLT.ASSERTED, FLT.WIRE]

/-! ### SRC: R376 -/

def SRC.CFG_QUIET : Fld := { off := 0x041000 + 0x0, lsb := 31, width := 1, acc := .rw, rst := (fun _ _ => 0), iN := 256, iStr := 0x10 }
def SRC.CFG_CLASS : Fld := { off := 0x041000 + 0x0, lsb := 16, width := 2, acc := .rw, rst := (fun s _=>fltClass s), iN := 256, iStr := 0x10, roAt := fltFixed }
def SRC.CFG_N : Fld := { off := 0x041000 + 0x0, lsb := 0, width := 8, acc := .rw, rst := (fun _ _ => 1), iN := 256, iStr := 0x10, chk := (.rng 1 255) }
def SRC.WIN : Fld := { off := 0x041000 + 0x4, lsb := 0, width := 22, acc := .rw, rst := (fun _ _ => 1000), iN := 256, iStr := 0x10, chk := (.rng 1 3600000) }
def SRC.STAT_WCOUNT : Fld := { off := 0x041000 + 0x8, lsb := 16, width := 8, acc := .ro, rst := (fun _ _ => 0), iN := 256, iStr := 0x10 }
def SRC.STAT_CLEAR_REFUSED : Fld := { off := 0x041000 + 0x8, lsb := 3, width := 1, acc := .w1c, rst := (fun _ _ => 0), iN := 256, iStr := 0x10 }
def SRC.STAT_WIRE : Fld := { off := 0x041000 + 0x8, lsb := 2, width := 1, acc := .ro, rst := (fun _ _ => 0), iN := 256, iStr := 0x10 }
def SRC.STAT_ASSERTED : Fld := { off := 0x041000 + 0x8, lsb := 1, width := 1, acc := .ro, rst := (fun _ _ => 0), iN := 256, iStr := 0x10 }
def SRC.STAT_ACTIVE : Fld := { off := 0x041000 + 0x8, lsb := 0, width := 1, acc := .w1ch, rst := (fun _ _ => 0), iN := 256, iStr := 0x10 }
def SRC.TOTAL : Fld := { off := 0x041000 + 0xC, lsb := 0, width := 32, acc := .ro, rst := (fun _ _ => 0), iN := 256, iStr := 0x10 }

/-- Every field of the SRC registers.  -/
def SRC.flds : List Fld :=
  [SRC.CFG_QUIET, SRC.CFG_CLASS, SRC.CFG_N, SRC.WIN, SRC.STAT_WCOUNT, SRC.STAT_CLEAR_REFUSED, SRC.STAT_WIRE, SRC.STAT_ASSERTED, SRC.STAT_ACTIVE, SRC.TOTAL]

/-! ### HOE: R377 -/

def HOE.CFG_TEL_EN : Fld := { off := 0x070000 + 0x000, lsb := 31, width := 1, acc := .rw, rst := (fun _ _ => 0) }
def HOE.CFG_TEL_MS : Fld := { off := 0x070000 + 0x000, lsb := 0, width := 16, acc := .rw, rst := (fun _ _ => 1000), chk := (.rng 100 60000) }
def HOE.STAT_SHED : Fld := { off := 0x070000 + 0x004, lsb := 8, width := 1, acc := .ro, rst := (fun _ _ => 0) }
def HOE.STAT_OVR : Fld := { off := 0x070000 + 0x004, lsb := 0, width := 7, acc := .ro, rst := (fun _ _ => 0) }
def HOE.TJ_MAX : Fld := { off := 0x070000 + 0x008, lsb := 0, width := 32, acc := .ro, rst := (fun _ _ => 0) }
def HOE.DRIFT : Fld := { off := 0x070000 + 0x00C, lsb := 0, width := 32, acc := .ro, rst := (fun _ _ => 0) }
def HOE.DRIFT_THR : Fld := { off := 0x070000 + 0x010, lsb := 0, width := 32, acc := .rw, rst := (fun _ _ => 1000), chk := (.rng 1 100000) }
def HOE.TASK : Fld := { off := 0x070000 + 0x040, lsb := 0, width := 64, acc := .ro, rst := (fun _ _ => 0), jN := 7, jStr := 8 }

/-- Every field of the HOE registers.  -/
def HOE.flds : List Fld :=
  [HOE.CFG_TEL_EN, HOE.CFG_TEL_MS, HOE.STAT_SHED, HOE.STAT_OVR, HOE.TJ_MAX, HOE.DRIFT, HOE.DRIFT_THR, HOE.TASK]

/-! ### SAF: R404 -/

def SAF.CFG_OFF_DELAY : Fld := { off := 0x120000 + 0x000, lsb := 8, width := 6, acc := (.rwl .ssf), rst := (fun _ _ => 10), chk := (.rng 0 35) }
def SAF.CFG_BOTH_REQ : Fld := { off := 0x120000 + 0x000, lsb := 2, width := 1, acc := (.rwl .ssf), rst := (fun _ _ => 0) }
def SAF.CFG_SINGLE_OK : Fld := { off := 0x120000 + 0x000, lsb := 1, width := 1, acc := (.rwl .ssf), rst := (fun _ _ => 1) }
def SAF.CFG_HOST_RESET : Fld := { off := 0x120000 + 0x000, lsb := 0, width := 1, acc := (.rwl .ssf), rst := (fun _ _ => 0) }
def SAF.STAT_CODE : Fld := { off := 0x120000 + 0x004, lsb := 24, width := 8, acc := .ro, rst := (fun _ _ => 0) }
def SAF.STAT_AC : Fld := { off := 0x120000 + 0x004, lsb := 12, width := 3, acc := .ro, rst := (fun _ _ => 0) }
def SAF.STAT_DC : Fld := { off := 0x120000 + 0x004, lsb := 8, width := 3, acc := .ro, rst := (fun _ _ => 0) }
def SAF.STAT_NET1_DOWN : Fld := { off := 0x120000 + 0x004, lsb := 5, width := 1, acc := .ro, rst := (fun _ _ => 0) }
def SAF.STAT_NET0_DOWN : Fld := { off := 0x120000 + 0x004, lsb := 4, width := 1, acc := .ro, rst := (fun _ _ => 0) }
def SAF.STAT_PINH : Fld := { off := 0x120000 + 0x004, lsb := 3, width := 1, acc := .ro, rst := (fun _ _ => 0) }
def SAF.STAT_FAULT : Fld := { off := 0x120000 + 0x004, lsb := 2, width := 1, acc := .ro, rst := (fun _ _ => 0) }
def SAF.STAT_DEMAND : Fld := { off := 0x120000 + 0x004, lsb := 1, width := 1, acc := .ro, rst := (fun _ _ => 0) }
def SAF.STAT_INHIBIT : Fld := { off := 0x120000 + 0x004, lsb := 0, width := 1, acc := .ro, rst := (fun _ _ => 0) }
def SAF.CTRL : Fld := { off := 0x120000 + 0x00C, lsb := 0, width := 1, acc := .wo, rst := (fun _ _ => 0) }
def SAF.ACRC : Fld := { off := 0x120000 + 0x014, lsb := 0, width := 32, acc := .rov, rst := (fun _ _ => 0) }
def SAF.IN_FUNC : Fld := { off := 0x120000 + 0x020, lsb := 28, width := 3, acc := (.rwl .ssf), rst := (fun _ _ => 0), jN := 8, jStr := 4, chk := (.codes [0, 1, 2, 3]) }
def SAF.IN_DISC : Fld := { off := 0x120000 + 0x020, lsb := 24, width := 4, acc := (.rwl .ssf), rst := (fun _ _ => 5), jN := 8, jStr := 4, chk := (.rng 1 15) }
def SAF.IN_SETTLE : Fld := { off := 0x120000 + 0x020, lsb := 16, width := 6, acc := (.rwl .ssf), rst := (fun _ _ => 10), jN := 8, jStr := 4, chk := (.rng 1 50) }
def SAF.IN_FILT : Fld := { off := 0x120000 + 0x020, lsb := 8, width := 5, acc := (.rwl .ssf), rst := (fun _ _ => 10), jN := 8, jStr := 4, chk := (.rng 2 20) }
def SAF.IN_TPB_EN : Fld := { off := 0x120000 + 0x020, lsb := 7, width := 1, acc := (.rwl .ssf), rst := (fun _ _ => 0), jN := 8, jStr := 4 }
def SAF.IN_TPB : Fld := { off := 0x120000 + 0x020, lsb := 4, width := 2, acc := (.rwl .ssf), rst := (fun _ _ => 0), jN := 8, jStr := 4 }
def SAF.IN_TPA_EN : Fld := { off := 0x120000 + 0x020, lsb := 3, width := 1, acc := (.rwl .ssf), rst := (fun _ _ => 0), jN := 8, jStr := 4 }
def SAF.IN_TPA : Fld := { off := 0x120000 + 0x020, lsb := 0, width := 2, acc := (.rwl .ssf), rst := (fun _ _ => 0), jN := 8, jStr := 4 }
def SAF.INSTAT_FAULT : Fld := { off := 0x120000 + 0x040, lsb := 4, width := 1, acc := .ro, rst := (fun _ _ => 0), jN := 8, jStr := 4 }
def SAF.INSTAT_B_TEST : Fld := { off := 0x120000 + 0x040, lsb := 3, width := 1, acc := .ro, rst := (fun _ _ => 0), jN := 8, jStr := 4 }
def SAF.INSTAT_A_TEST : Fld := { off := 0x120000 + 0x040, lsb := 2, width := 1, acc := .ro, rst := (fun _ _ => 0), jN := 8, jStr := 4 }
def SAF.INSTAT_B : Fld := { off := 0x120000 + 0x040, lsb := 1, width := 1, acc := .ro, rst := (fun _ _ => 0), jN := 8, jStr := 4 }
def SAF.INSTAT_A : Fld := { off := 0x120000 + 0x040, lsb := 0, width := 1, acc := .ro, rst := (fun _ _ => 0), jN := 8, jStr := 4 }
def SAF.OUT_DEMAND : Fld := { off := 0x120000 + 0x060, lsb := 31, width := 1, acc := (.rwl .ssf), rst := (fun _ _ => 1), jN := 4, jStr := 4 }
def SAF.OUT_FUNC : Fld := { off := 0x120000 + 0x060, lsb := 28, width := 2, acc := (.rwl .ssf), rst := (fun _ _ => 0), jN := 4, jStr := 4, chk := (.codes [0, 1, 2]) }
def SAF.OUT_FB : Fld := { off := 0x120000 + 0x060, lsb := 24, width := 4, acc := (.rwl .ssf), rst := (fun _ _ => 8), jN := 4, jStr := 4, chk := (.codes [0, 1, 2, 3, 4, 5, 6, 7, 8]) }
def SAF.OUT_TFB : Fld := { off := 0x120000 + 0x060, lsb := 16, width := 6, acc := (.rwl .ssf), rst := (fun _ _ => 10), jN := 4, jStr := 4, chk := (.rng 1 50) }
def SAF.OUT_OPW : Fld := { off := 0x120000 + 0x060, lsb := 0, width := 6, acc := (.rwl .ssf), rst := (fun _ _ => 30), jN := 4, jStr := 4, chk := (.rng 10 50) }
def SAF.OUTSTAT_STATE : Fld := { off := 0x120000 + 0x070, lsb := 4, width := 3, acc := .ro, rst := (fun _ _ => 0), jN := 4, jStr := 4 }
def SAF.OUTSTAT_RBN : Fld := { off := 0x120000 + 0x070, lsb := 3, width := 1, acc := .ro, rst := (fun _ _ => 0), jN := 4, jStr := 4 }
def SAF.OUTSTAT_RBP : Fld := { off := 0x120000 + 0x070, lsb := 2, width := 1, acc := .ro, rst := (fun _ _ => 0), jN := 4, jStr := 4 }
def SAF.OUTSTAT_N : Fld := { off := 0x120000 + 0x070, lsb := 1, width := 1, acc := .ro, rst := (fun _ _ => 0), jN := 4, jStr := 4 }
def SAF.OUTSTAT_P : Fld := { off := 0x120000 + 0x070, lsb := 0, width := 1, acc := .ro, rst := (fun _ _ => 0), jN := 4, jStr := 4 }
def SAF.NETCFG_EN : Fld := { off := 0x120000 + 0x100, lsb := 31, width := 1, acc := (.rwl .ssf), rst := (fun _ _ => 0) }
def SAF.NETCFG_CONN : Fld := { off := 0x120000 + 0x100, lsb := 0, width := 16, acc := (.rwl .ssf), rst := (fun _ _ => 0) }
def SAF.NETSEED : Fld := { off := 0x120000 + 0x104, lsb := 0, width := 32, acc := (.rwl .ssf), rst := (fun _ _ => 0) }
def SAF.NETPORT : Fld := { off := 0x120000 + 0x108, lsb := 0, width := 16, acc := (.rwl .ssf), rst := (fun _ _ => 45221), chk := (.rng 1 65535) }
def SAF.NETTIMING_STATUS_MS : Fld := { off := 0x120000 + 0x10C, lsb := 16, width := 7, acc := (.rwl .ssf), rst := (fun _ _ => 10), chk := (.rng 1 100) }
def SAF.NETTIMING_TMO_MAX : Fld := { off := 0x120000 + 0x10C, lsb := 0, width := 7, acc := (.rwl .ssf), rst := (fun _ _ => 100), chk := (.rng 1 100) }
def SAF.LOCAL_IP : Fld := { off := 0x120000 + 0x110, lsb := 0, width := 32, acc := (.rwl .ssf), rst := (fun _ _ => 0), jN := 2, jStr := 4 }
def SAF.RX_OK : Fld := { off := 0x120000 + 0x120, lsb := 0, width := 32, acc := .ro, rst := (fun _ _ => 0), jN := 2, jStr := 4 }
def SAF.RX_BAD : Fld := { off := 0x120000 + 0x128, lsb := 0, width := 32, acc := .ro, rst := (fun _ _ => 0), jN := 2, jStr := 4 }
def SAF.MISS : Fld := { off := 0x120000 + 0x130, lsb := 0, width := 32, acc := .ro, rst := (fun _ _ => 0), jN := 2, jStr := 4 }
def SAF.LAST_SEQ : Fld := { off := 0x120000 + 0x138, lsb := 0, width := 32, acc := .ro, rst := (fun _ _ => 0) }

/-- Every field of the SAF registers.  -/
def SAF.flds : List Fld :=
  [SAF.CFG_OFF_DELAY, SAF.CFG_BOTH_REQ, SAF.CFG_SINGLE_OK, SAF.CFG_HOST_RESET, SAF.STAT_CODE, SAF.STAT_AC, SAF.STAT_DC, SAF.STAT_NET1_DOWN, SAF.STAT_NET0_DOWN, SAF.STAT_PINH, SAF.STAT_FAULT, SAF.STAT_DEMAND, SAF.STAT_INHIBIT, SAF.CTRL, SAF.ACRC, SAF.IN_FUNC, SAF.IN_DISC, SAF.IN_SETTLE, SAF.IN_FILT, SAF.IN_TPB_EN, SAF.IN_TPB, SAF.IN_TPA_EN, SAF.IN_TPA, SAF.INSTAT_FAULT] ++
  [SAF.INSTAT_B_TEST, SAF.INSTAT_A_TEST, SAF.INSTAT_B, SAF.INSTAT_A, SAF.OUT_DEMAND, SAF.OUT_FUNC, SAF.OUT_FB, SAF.OUT_TFB, SAF.OUT_OPW, SAF.OUTSTAT_STATE, SAF.OUTSTAT_RBN, SAF.OUTSTAT_RBP, SAF.OUTSTAT_N, SAF.OUTSTAT_P, SAF.NETCFG_EN, SAF.NETCFG_CONN, SAF.NETSEED, SAF.NETPORT, SAF.NETTIMING_STATUS_MS, SAF.NETTIMING_TMO_MAX, SAF.LOCAL_IP, SAF.RX_OK, SAF.RX_BAD, SAF.MISS] ++
  [SAF.LAST_SEQ]

/-! ### CLO: R420 -/

def CLO.STAT_MIN_STAGE : Fld := { off := 0x050000 + 0x000, lsb := 12, width := 3, acc := .ro, rst := (fun _ _ => 0) }
def CLO.STAT_CHARGING : Fld := { off := 0x050000 + 0x000, lsb := 11, width := 1, acc := .ro, rst := (fun _ _ => 0) }
def CLO.STAT_DEFERRED : Fld := { off := 0x050000 + 0x000, lsb := 10, width := 1, acc := .ro, rst := (fun _ _ => 0) }
def CLO.STAT_BUSY : Fld := { off := 0x050000 + 0x000, lsb := 9, width := 1, acc := .ro, rst := (fun _ _ => 0) }
def CLO.STAT_DUE : Fld := { off := 0x050000 + 0x000, lsb := 8, width := 1, acc := .ro, rst := (fun _ _ => 0) }
def CLO.STAT_COLD : Fld := { off := 0x050000 + 0x000, lsb := 7, width := 1, acc := .ro, rst := (fun _ _ => 0) }
def CLO.STAT_XTAL : Fld := { off := 0x050000 + 0x000, lsb := 6, width := 1, acc := .ro, rst := (fun _ _ => 0) }
def CLO.STAT_RTC_VALID : Fld := { off := 0x050000 + 0x000, lsb := 5, width := 1, acc := .ro, rst := (fun _ _ => 0) }
def CLO.STAT_PF_DONE : Fld := { off := 0x050000 + 0x000, lsb := 4, width := 1, acc := .ro, rst := (fun _ _ => 0) }
def CLO.STAT_LOST : Fld := { off := 0x050000 + 0x000, lsb := 3, width := 1, acc := .ro, rst := (fun _ _ => 0) }
def CLO.STAT_STAGE : Fld := { off := 0x050000 + 0x000, lsb := 0, width := 3, acc := .ro, rst := (fun _ _ => 0) }
def CLO.VOLT_VHARV : Fld := { off := 0x050000 + 0x004, lsb := 16, width := 16, acc := .ro, rst := (fun _ _ => 0) }
def CLO.VOLT_VSTORE : Fld := { off := 0x050000 + 0x004, lsb := 0, width := 16, acc := .ro, rst := (fun _ _ => 0) }
def CLO.STORE : Fld := { off := 0x050000 + 0x008, lsb := 0, width := 24, acc := .rw, rst := (fun _ _ => 100000), chk := (.rng 100 10000000) }
def CLO.ESR : Fld := { off := 0x050000 + 0x00C, lsb := 0, width := 16, acc := .rw, rst := (fun _ _ => 500) }
def CLO.NVM_ADDR3 : Fld := { off := 0x050000 + 0x010, lsb := 31, width := 1, acc := .rw, rst := (fun _ _ => 0) }
def CLO.NVM_I_FRAM : Fld := { off := 0x050000 + 0x010, lsb := 16, width := 8, acc := .rw, rst := (fun _ _ => 30), chk := (.rng 1 100) }
def CLO.NVM_T_PU : Fld := { off := 0x050000 + 0x010, lsb := 8, width := 8, acc := .rw, rst := (fun _ _ => 25), chk := (.rng 1 100) }
def CLO.NVM_MARGIN : Fld := { off := 0x050000 + 0x010, lsb := 0, width := 7, acc := .rw, rst := (fun _ _ => 50), chk := (.rng 10 100) }
def CLO.CHG_EN : Fld := { off := 0x050000 + 0x014, lsb := 31, width := 1, acc := .rw, rst := (fun _ _ => 1) }
def CLO.CHG_VMAX : Fld := { off := 0x050000 + 0x014, lsb := 16, width := 9, acc := .rw, rst := (fun _ _ => 330), chk := (.rng 250 360) }
def CLO.CHG_I_MAIN : Fld := { off := 0x050000 + 0x014, lsb := 0, width := 5, acc := .rw, rst := (fun _ _ => 10), chk := (.rng 1 20) }
def CLO.RTC : Fld := { off := 0x050000 + 0x018, lsb := 0, width := 64, acc := .rov, rst := (fun _ _ => 0) }
def CLO.E_AVAIL : Fld := { off := 0x050000 + 0x020, lsb := 0, width := 32, acc := .ro, rst := (fun _ _ => 0) }
def CLO.E_NEED : Fld := { off := 0x050000 + 0x024, lsb := 0, width := 32, acc := .ro, rst := (fun _ _ => 0) }
def CLO.COMMIT_CNT : Fld := { off := 0x050000 + 0x028, lsb := 0, width := 32, acc := .ro, rst := (fun _ _ => 0) }
def CLO.DEFER_CNT : Fld := { off := 0x050000 + 0x02C, lsb := 0, width := 32, acc := .ro, rst := (fun _ _ => 0) }
def CLO.CTRL_LOG_CLR : Fld := { off := 0x050000 + 0x030, lsb := 1, width := 1, acc := .wo, rst := (fun _ _ => 0) }
def CLO.CTRL_CNT_CLR : Fld := { off := 0x050000 + 0x030, lsb := 0, width := 1, acc := .wo, rst := (fun _ _ => 0) }
def CLO.LOG_SEC : Fld := { off := 0x050000 + 0x040, lsb := 32, width := 32, acc := .ro, rst := (fun _ _ => 0), jN := 6, jStr := 8 }
def CLO.LOG_KIND : Fld := { off := 0x050000 + 0x040, lsb := 24, width := 8, acc := .ro, rst := (fun _ _ => 0), jN := 6, jStr := 8 }
def CLO.LOG_ITEM : Fld := { off := 0x050000 + 0x040, lsb := 16, width := 8, acc := .ro, rst := (fun _ _ => 0), jN := 6, jStr := 8 }
def CLO.LOG_MV : Fld := { off := 0x050000 + 0x040, lsb := 0, width := 16, acc := .ro, rst := (fun _ _ => 0), jN := 6, jStr := 8 }

/-- Every field of the CLO registers.  -/
def CLO.flds : List Fld :=
  [CLO.STAT_MIN_STAGE, CLO.STAT_CHARGING, CLO.STAT_DEFERRED, CLO.STAT_BUSY, CLO.STAT_DUE, CLO.STAT_COLD, CLO.STAT_XTAL, CLO.STAT_RTC_VALID, CLO.STAT_PF_DONE, CLO.STAT_LOST, CLO.STAT_STAGE, CLO.VOLT_VHARV, CLO.VOLT_VSTORE, CLO.STORE, CLO.ESR, CLO.NVM_ADDR3, CLO.NVM_I_FRAM, CLO.NVM_T_PU, CLO.NVM_MARGIN, CLO.CHG_EN, CLO.CHG_VMAX, CLO.CHG_I_MAIN, CLO.RTC, CLO.E_AVAIL] ++
  [CLO.E_NEED, CLO.COMMIT_CNT, CLO.DEFER_CNT, CLO.CTRL_LOG_CLR, CLO.CTRL_CNT_CLR, CLO.LOG_SEC, CLO.LOG_KIND, CLO.LOG_ITEM, CLO.LOG_MV]

/-! ### PTP: R436 -/

def PTP.CFG_EN : Fld := { off := 0x140000 + 0x000, lsb := 31, width := 1, acc := .rw, rst := (fun _ _ => 0) }
def PTP.CFG_SRC : Fld := { off := 0x140000 + 0x000, lsb := 28, width := 2, acc := .rw, rst := (fun _ _ => 2), chk := (.codes [0, 1, 2]) }
def PTP.CFG_PORT : Fld := { off := 0x140000 + 0x000, lsb := 26, width := 2, acc := .rw, rst := (fun _ _ => 0), chk := (.codes [0, 1, 2]) }
def PTP.CFG_PROFILE : Fld := { off := 0x140000 + 0x000, lsb := 24, width := 2, acc := .rw, rst := (fun _ _ => 0), chk := (.codes [0, 1, 2]) }
def PTP.CFG_SLAVE_ONLY : Fld := { off := 0x140000 + 0x000, lsb := 23, width := 1, acc := .rw, rst := (fun _ _ => 0) }
def PTP.CFG_TWO_STEP : Fld := { off := 0x140000 + 0x000, lsb := 22, width := 1, acc := .rw, rst := (fun _ _ => 0) }
def PTP.CFG_L2 : Fld := { off := 0x140000 + 0x000, lsb := 21, width := 1, acc := .rw, rst := (fun _ _ => 0) }
def PTP.CFG_DOMAIN : Fld := { off := 0x140000 + 0x000, lsb := 0, width := 8, acc := .rw, rst := (fun _ _ => 0) }
def PTP.PRIO_PRIORITY1 : Fld := { off := 0x140000 + 0x004, lsb := 8, width := 8, acc := .rw, rst := (fun _ _ => 128) }
def PTP.PRIO_PRIORITY2 : Fld := { off := 0x140000 + 0x004, lsb := 0, width := 8, acc := .rw, rst := (fun _ _ => 128) }
def PTP.INTERVALS_LOG_SYNC : Fld := { off := 0x140000 + 0x008, lsb := 16, width := 8, acc := .rw, rst := (fun _ _ => 0), chk := (.srng (-7) 1) }
def PTP.INTERVALS_LOG_ANNOUNCE : Fld := { off := 0x140000 + 0x008, lsb := 8, width := 8, acc := .rw, rst := (fun _ _ => 1), chk := (.srng (0) 4) }
def PTP.INTERVALS_LOG_DELAY : Fld := { off := 0x140000 + 0x008, lsb := 0, width := 8, acc := .rw, rst := (fun _ _ => 0), chk := (.srng (-7) 5) }
def PTP.LOCK_UNLOCK_NS : Fld := { off := 0x140000 + 0x00C, lsb := 16, width := 16, acc := .rw, rst := (fun _ _ => 500), chk := (.rng 10 65535) }
def PTP.LOCK_LOCK_NS : Fld := { off := 0x140000 + 0x00C, lsb := 0, width := 16, acc := .rw, rst := (fun _ _ => 50), chk := (.rng 1 10000) }
def PTP.SLEW : Fld := { off := 0x140000 + 0x010, lsb := 0, width := 20, acc := .rw, rst := (fun _ _ => 500000), chk := (.rng 1000 500000) }
def PTP.LAT_EGRESS_NS : Fld := { off := 0x140000 + 0x014, lsb := 16, width := 16, acc := .rw, rst := (fun _ _ => 0), jN := 2, jStr := 4 }
def PTP.LAT_INGRESS_NS : Fld := { off := 0x140000 + 0x014, lsb := 0, width := 16, acc := .rw, rst := (fun _ _ => 0), jN := 2, jStr := 4 }
def PTP.PPS_OUT_EN : Fld := { off := 0x140000 + 0x01C, lsb := 31, width := 1, acc := .rw, rst := (fun _ _ => 0) }
def PTP.PPS_WIDTH_MS : Fld := { off := 0x140000 + 0x01C, lsb := 0, width := 16, acc := .rw, rst := (fun _ _ => 100), chk := (.rng 1 500) }
def PTP.STAT_PPS_IN_OK : Fld := { off := 0x140000 + 0x020, lsb := 10, width := 1, acc := .ro, rst := (fun _ _ => 0) }
def PTP.STAT_EVER_LOCKED : Fld := { off := 0x140000 + 0x020, lsb := 9, width := 1, acc := .ro, rst := (fun _ _ => 0) }
def PTP.STAT_LOCKED : Fld := { off := 0x140000 + 0x020, lsb := 8, width := 1, acc := .rov, rst := (fun _ _ => 0) }
def PTP.STAT_ACTIVE_PORT : Fld := { off := 0x140000 + 0x020, lsb := 4, width := 2, acc := .ro, rst := (fun _ _ => 0) }
def PTP.STAT_PORT_STATE : Fld := { off := 0x140000 + 0x020, lsb := 0, width := 4, acc := .ro, rst := (fun _ _ => 0) }
def PTP.DT : Fld := { off := 0x140000 + 0x028, lsb := 0, width := 64, acc := .rov, rst := (fun _ _ => 0) }
def PTP.OFFSET : Fld := { off := 0x140000 + 0x030, lsb := 0, width := 32, acc := .ro, rst := (fun _ _ => 0) }
def PTP.FREQ : Fld := { off := 0x140000 + 0x034, lsb := 0, width := 32, acc := .ro, rst := (fun _ _ => 0) }
def PTP.MPD : Fld := { off := 0x140000 + 0x038, lsb := 0, width := 32, acc := .ro, rst := (fun _ _ => 0) }
def PTP.GM_ID : Fld := { off := 0x140000 + 0x040, lsb := 0, width := 64, acc := .ro, rst := (fun _ _ => 0) }
def PTP.CLOCK_ID : Fld := { off := 0x140000 + 0x048, lsb := 0, width := 64, acc := .rov, rst := (fun _ _ => 0) }

/-- Every field of the PTP registers.  -/
def PTP.flds : List Fld :=
  [PTP.CFG_EN, PTP.CFG_SRC, PTP.CFG_PORT, PTP.CFG_PROFILE, PTP.CFG_SLAVE_ONLY, PTP.CFG_TWO_STEP, PTP.CFG_L2, PTP.CFG_DOMAIN, PTP.PRIO_PRIORITY1, PTP.PRIO_PRIORITY2, PTP.INTERVALS_LOG_SYNC, PTP.INTERVALS_LOG_ANNOUNCE, PTP.INTERVALS_LOG_DELAY, PTP.LOCK_UNLOCK_NS, PTP.LOCK_LOCK_NS, PTP.SLEW, PTP.LAT_EGRESS_NS, PTP.LAT_INGRESS_NS, PTP.PPS_OUT_EN, PTP.PPS_WIDTH_MS, PTP.STAT_PPS_IN_OK, PTP.STAT_EVER_LOCKED, PTP.STAT_LOCKED, PTP.STAT_ACTIVE_PORT] ++
  [PTP.STAT_PORT_STATE, PTP.DT, PTP.OFFSET, PTP.FREQ, PTP.MPD, PTP.GM_ID, PTP.CLOCK_ID]

/-! ### ETH: R444 -/

def ETH.CFG_EN : Fld := { off := 0x130000 + 0x00, lsb := 31, width := 1, acc := (.rwl .ssf), rst := (fun _ _ => 0), iN := 2, iStr := 0x100 }
def ETH.CFG_RXDLY : Fld := { off := 0x130000 + 0x00, lsb := 5, width := 1, acc := (.rwl .ssf), rst := (fun _ _ => 1), iN := 2, iStr := 0x100 }
def ETH.CFG_TXDLY : Fld := { off := 0x130000 + 0x00, lsb := 4, width := 1, acc := (.rwl .ssf), rst := (fun _ _ => 1), iN := 2, iStr := 0x100 }
def ETH.CFG_SPEED : Fld := { off := 0x130000 + 0x00, lsb := 0, width := 2, acc := (.rwl .ssf), rst := (fun _ _ => 2), iN := 2, iStr := 0x100, chk := (.codes [0, 1, 2]) }
def ETH.MAC_ADDR : Fld := { off := 0x130000 + 0x08, lsb := 0, width := 48, acc := (.rwl .ssf), rst := (fun _ _ => 0), iN := 2, iStr := 0x100 }
def ETH.STAT_PHY_SPEED : Fld := { off := 0x130000 + 0x10, lsb := 2, width := 2, acc := .ro, rst := (fun _ _ => 0), iN := 2, iStr := 0x100 }
def ETH.STAT_MISMATCH : Fld := { off := 0x130000 + 0x10, lsb := 1, width := 1, acc := .rov, rst := (fun _ _ => 0), iN := 2, iStr := 0x100 }
def ETH.STAT_LINK : Fld := { off := 0x130000 + 0x10, lsb := 0, width := 1, acc := .ro, rst := (fun _ _ => 0), iN := 2, iStr := 0x100 }
def ETH.RX_OK : Fld := { off := 0x130000 + 0x14, lsb := 0, width := 32, acc := .ro, rst := (fun _ _ => 0), iN := 2, iStr := 0x100 }
def ETH.RX_DROP : Fld := { off := 0x130000 + 0x18, lsb := 0, width := 32, acc := .ro, rst := (fun _ _ => 0), iN := 2, iStr := 0x100 }
def ETH.RX_ERR : Fld := { off := 0x130000 + 0x1C, lsb := 0, width := 32, acc := .ro, rst := (fun _ _ => 0), iN := 2, iStr := 0x100 }
def ETH.RX_OTHER : Fld := { off := 0x130000 + 0x20, lsb := 0, width := 32, acc := .ro, rst := (fun _ _ => 0), iN := 2, iStr := 0x100 }
def ETH.TX_OK : Fld := { off := 0x130000 + 0x24, lsb := 0, width := 32, acc := .ro, rst := (fun _ _ => 0), iN := 2, iStr := 0x100 }
def ETH.CTRL : Fld := { off := 0x130000 + 0x28, lsb := 0, width := 1, acc := .wo, rst := (fun _ _ => 0), iN := 2, iStr := 0x100 }
def ETH.IPV4 : Fld := { off := 0x130000 + 0x2C, lsb := 0, width := 32, acc := (.rwl .ssf), rst := (fun _ _ => 0), iN := 2, iStr := 0x100 }

/-- Every field of the ETH registers.  -/
def ETH.flds : List Fld :=
  [ETH.CFG_EN, ETH.CFG_RXDLY, ETH.CFG_TXDLY, ETH.CFG_SPEED, ETH.MAC_ADDR, ETH.STAT_PHY_SPEED, ETH.STAT_MISMATCH, ETH.STAT_LINK, ETH.RX_OK, ETH.RX_DROP, ETH.RX_ERR, ETH.RX_OTHER, ETH.TX_OK, ETH.CTRL, ETH.IPV4]

/-! ### MDIO: R444 -/

def MDIO.CMD_GO : Fld := { off := 0x130200 + 0x0, lsb := 31, width := 1, acc := .wo, rst := (fun _ _ => 0) }
def MDIO.CMD_OP : Fld := { off := 0x130200 + 0x0, lsb := 26, width := 2, acc := .wo, rst := (fun _ _ => 0), chk := (.codes [1, 2]) }
def MDIO.CMD_PHY : Fld := { off := 0x130200 + 0x0, lsb := 21, width := 5, acc := .wo, rst := (fun _ _ => 0) }
def MDIO.CMD_REG : Fld := { off := 0x130200 + 0x0, lsb := 16, width := 5, acc := .wo, rst := (fun _ _ => 0) }
def MDIO.CMD_DATA : Fld := { off := 0x130200 + 0x0, lsb := 0, width := 16, acc := .wo, rst := (fun _ _ => 0) }
def MDIO.STAT_BUSY : Fld := { off := 0x130200 + 0x4, lsb := 31, width := 1, acc := .ro, rst := (fun _ _ => 0) }
def MDIO.STAT_DATA : Fld := { off := 0x130200 + 0x4, lsb := 0, width := 16, acc := .ro, rst := (fun _ _ => 0) }

/-- Every field of the MDIO registers.  -/
def MDIO.flds : List Fld :=
  [MDIO.CMD_GO, MDIO.CMD_OP, MDIO.CMD_PHY, MDIO.CMD_REG, MDIO.CMD_DATA, MDIO.STAT_BUSY, MDIO.STAT_DATA]
/-- A register block of Table 20.1: base, span, the GLB.UNITS bit it depends on where its unit may be
absent, and its fields. -/
structure RegBlk where
  base : Nat
  span : Nat
  unit : Option Nat
  flds : List Fld

/-- The blocks of Table 20.1, the MSI-X table and its pending bits (R55). -/
def regBlks : List RegBlk := [
  ⟨0x000000, 0x1000, none, GLB.flds⟩, ⟨0x010000, 0x1000, none, CLK.flds⟩,
  ⟨0x020000, 0x1000, none, PWR.flds⟩, ⟨0x030000, 0x1000, none, RNG.flds⟩,
  ⟨0x040000, 0x2000, none, FLT.flds ++ SRC.flds⟩, ⟨0x050000, 0x1000, none, CLO.flds⟩,
  ⟨0x060000, 0x1000, none, MEM.flds⟩, ⟨0x070000, 0x1000, none, HOE.flds⟩,
  ⟨0x080000, 0x3000, none, CW.flds ++ CMP.flds⟩, ⟨0x090000, 0x2000, none, TG.flds ++ SHR.flds⟩] ++ [
  ⟨0x0A0000, 0xA000, none, CORE.flds ++ SLOT.flds ++ AIN.flds ++ TMR.flds ++ CAL.flds⟩,
  ⟨0x0B0000, 0x1000, none, SDM.flds ++ SD.flds⟩, ⟨0x0C0000, 0x2000, none, ESP.flds⟩,
  ⟨0x0D0000, 0x1000, none, TRG.flds ++ CAP.flds ++ TRS.flds ++ SIE.flds⟩,
  ⟨0x0E0000, 0x1000, some 10, TRL.flds ++ SEG.flds⟩,
  ⟨0x0F0000, 0x1000, some 11, MTR.flds ++ CH.flds ++ S0.flds ++ ACC.flds⟩,
  ⟨0x100000, 0x6000, none, LEG.flds⟩, ⟨0x108000, 0x1000, none, PHG.flds⟩,
  ⟨0x109000, 0x2000, none, GRD.flds ++ CRV.flds⟩, ⟨0x10B000, 0x1000, none, PRB.flds ++ TONE.flds⟩] ++ [
  ⟨0x10C000, 0x1000, none, DCS.flds ++ DCI.flds⟩, ⟨0x110000, 0x2000, none, BRK.flds⟩,
  ⟨0x120000, 0x1000, some 16, SAF.flds⟩, ⟨0x130000, 0x1000, none, ETH.flds ++ MDIO.flds⟩,
  ⟨0x140000, 0x1000, none, PTP.flds⟩, ⟨0x3E0000, 0x0400, none, MSIX.flds⟩,
  ⟨0x3E1000, 0x0008, none, PBA.flds⟩]

/-- The block whose span holds a BAR0 offset. -/
def blkAt (o : Nat) : Option RegBlk := regBlks.find? (fun b => b.base ≤ o && o < b.base + b.span)

/-- The indices i, j at which the register of field f covers the dword at offset o (o a multiple of 4). -/
def Fld.at (f : Fld) (o : Nat) : Option (Nat × Nat) :=
  if o < f.off then none
  else
    let r := o - f.off
    let i := if f.iStr = 0 then 0 else r / f.iStr
    let r1 := r - i * f.iStr
    let j := if f.jStr = 0 then 0 else r1 / f.jStr
    let r2 := r1 - j * f.jStr
    if i < f.iN && j < f.jN && (r2 = 0 || r2 = 4) && f.lsb < 8 * r2 + 32 && 8 * r2 < f.lsb + f.width
    then some (i, j) else none

/-- The fields with a bit in the dword at offset o, with their indices. -/
def fldsAt (o : Nat) : List (Fld × Nat × Nat) :=
  match blkAt o with
  | none => []
  | some b => b.flds.filterMap (fun f => (f.at o).map (fun p => (f, p.1, p.2)))

end Sys2Proof.Machine
end

