-- ==== Sys2Proof/Machine/CoreTypes.lean ====
section
/-!
DEFINITION. What the mode manager, the ring engine, the comparator array, Shears and the fault collector
hold beside their registers (spec 02, 03, 06 and 16). Times are instants of State.now, in h.
-/
namespace Sys2Proof.Machine

/-- The automatic triggers that wait for an evaluation of the mode manager (R38, Table 2.3). -/
inductive Trigger where
  /-- FATAL class or opcode 0x02, once the dump is done (Table 2.3) -/
  | restart
  /-- a protection trip: R47, R111, R153 -/
  | protection
  /-- an island declaration (R249, R256) -/
  | island
  /-- the momentary-cessation region (R245) -/
  | momentary
  /-- the host watchdog (R42) -/
  | hostLost
  /-- a ride-through condition (R245) -/
  | ride
  /-- the return from RIDE after EXIT_MS (R245) -/
  | rideReturn
  /-- RESTORE_MS has ended momentary cessation (R245) -/
  | restored
  /-- automatic DAWN entry and exit (R282) -/
  | dawnIn | dawnOut
  /-- a prestart step failed; PRESTART_TMO expired; every step passed -/
  | checkFailed | prestartTimeout | prestartPassed
  deriving DecidableEq, Repr

/-- A pending MODE_SET (R39): its ring, the mode it asks for and the PRESTART target of byte 1. -/
structure ModeReq where
  q : Nat
  target : Mode
  then_ : Mode
  deriving DecidableEq, Repr

/-- The mode manager. `goodAt` is the instant of main supplies good; `key` the correct FKEY writes so far and
`keyDone` the whole sequence; `step` the prestart step of R36 (0 outside PRESTART) and `stepAt` the instant it began;
`fromCease` that PRESTART was entered from CEASE; `causes` the causes that add to the return conditions of CEASE;
`ending` that the running bricks end their periods for a transition (R467); `kickAt` the start of the host watchdog
period, `wdtOn` that it has not expired since then, `kicked` that it has not expired since the last kick, `ceaseKick`
a kick since CEASE was entered; `resetDue` that SAFESTOP was entered, or went on, while the island was down, and that
no safety reset has succeeded since (R468); `evals` that an evaluation is in progress, and `reqs` the contactor
request of an AX9600-S that it has gathered (R390); `railBad` the last instant at which a rail was outside its levels
or PFW_N low (R406); `linkUp` says that the PCIe link is up and `perstLow` that PERST_N is low; `maxRead` the maximum
read request size in force, in bytes (R67, Table 3.1). -/
structure ModeSt where
  cur : Mode := .wake
  prev : Mode := .keepalive
  target : Option Mode := none
  cause : Cause := .powerOn
  seq : Nat := 0
  time : Nat := 0
  enteredAt : Nat := 0
  ftest : Bool := false
  key : Nat := 0
  keyDone : Bool := false
  goodAt : Nat := 0
  everReady : Nat := 0
  req : Option ModeReq := none
  trig : List Trigger := []
  causes : List Cause := []
  step : Nat := 0
  stepAt : Nat := 0
  checkNext : Nat := 0
  fromCease : Bool := false
  ending : Bool := false
  kickAt : Nat := 0
  wdtOn : Bool := true
  kicked : Bool := true
  ceaseKick : Bool := false
  resetDue : Bool := false
  evals : Bool := false
  reqs : Option (Nat × Nat × Nat) := none
  railBad : Nat := 0
  linkUp : Bool := false
  perstLow : Bool := false
  maxRead : Nat := 512
  deriving DecidableEq, Repr

/-- How far a started descriptor has come: its payload is still being read; it may execute, with these
payload bytes; it waits for what it started to end. -/
inductive Stage where
  | payload
  | ready (bytes : List Nat)
  | waiting
  deriving DecidableEq, Repr

/-- A started descriptor with its host address; `status` is the status its checks already gave. -/
structure Started where
  d : Desc
  addr : Nat
  stage : Stage
  at_ : Nat
  deriving DecidableEq, Repr

/-- One ring. The latched configuration of R58 is base … seqchk and cls; for a submission ring `fetchIdx` is the next
slot to fetch, `reads` the outstanding descriptor reads, oldest first (first slot, slots, instant of issue),
`prefetch` the descriptors fetched and not started with their slots, `expect` the expected SEQ once one is known,
`stopped` that a failed read stopped fetching, `held` the descriptors behind HOSTIDX that have been counted as waiting
for a credit of the prefetch queue (R25). For a completion or event ring `phase` is the phase bit, `used` the entries
written and not consumed, `unsig` the write instants of the unsignalled entries, `irq` that an entry asks for its
message at once, `lostNow` the records lost since the last one written. -/
structure RingSt where
  base : Nat := 0
  size : Nat := 4
  cls : Nat := 0
  cq : Nat := 0
  prio : Nat := 0
  seqchk : Bool := false
  fetchIdx : Nat := 0
  reads : List (Nat × Nat × Nat) := []
  prefetch : List (Desc × Nat) := []
  expect : Option Nat := none
  stopped : Bool := false
  held : Nat := 0
  started : Option Started := none
  phase : Bool := true
  used : Nat := 0
  unsig : List Nat := []
  irq : Bool := false
  lostNow : Nat := 0
  deriving DecidableEq, Repr

/-- One comparator window. `hist`, `histHi` and `histLo` are the last samples of the filter (bit 0 newest) and what
the two thresholds gave in each; `out` the condition: the filtered output, or the raw comparator of a hard window;
`rawHi` and `rawLo` each threshold with its hysteresis; `blankEnd` the end of the blanking interval in hand, `edges`
the command edges, oldest first, that have still to start or restart one at their balls (R141); `latchAt` when LATCH
last set, all counts of the PWM time base (State.pw). `moveHi` and `moveLo` are a DAC on its way (R139): the code it
has reached and the instant at which the move began. `trim` is what Hoe has moved the threshold since power-on, in
1/256 code (R138, Table 16.6). -/
structure CwSt where
  hist : Nat := 0
  histHi : Nat := 0
  histLo : Nat := 0
  out : Bool := false
  rawHi : Bool := false
  rawLo : Bool := false
  blankEnd : Option Nat := none
  edges : List Nat := []
  latchAt : Option Nat := none
  moveHi : Option (Nat × Nat) := none
  moveLo : Option (Nat × Nat) := none
  trim : Int := 0
  deriving DecidableEq, Repr

/-- One trip group: its asserted sources (2¹⁶ · KIND + INDEX), and the instant of its last fire with its tick of the PWM time
base and the sources that count as simultaneous with it (R152). -/
structure TgSt where
  srcs : List Nat := []
  fireAt : Option Nat := none
  fireTick : Nat := 0
  fireSrcs : List Nat := []
  deriving DecidableEq, Repr

/-- A fault event on its way to the collector (queue 76): the source timestamp is `dt`, `asserts` says that
the source had no cause before it (R361), `rep` its held repeats. -/
structure FltEv where
  src : Nat
  code : Nat
  dt : Nat
  at_ : Nat
  asserts : Bool
  rep : Nat := 0
  wire : Bool := false
  inj : Bool := false
  deriving DecidableEq, Repr

/-- One fault source: the causes that hold, the end of an occurrence with its code, the events it holds for
want of a credit, oldest first, and the instant its count window opened. -/
structure FltSt where
  causes : List Nat := []
  occEnd : Option Nat := none
  held : List FltEv := []
  winAt : Option Nat := none
  deriving DecidableEq, Repr

/-- A candidate of the first-error latch (R366). -/
structure FirstCand where
  src : Nat
  code : Nat
  cls : Nat
  dt : Nat
  at_ : Nat
  deriving DecidableEq, Repr

/-- A kept FAULT record (Table 16.8, section 4). -/
structure FltRec where
  src : Nat
  code : Nat
  flags : Nat
  cls : Nat
  rep : Nat
  dt : Nat
  deriving DecidableEq, Repr

/-- An injection in progress (R367): the source, its KIND, the repetitions left after the present one and
HOLD in µs; `phase` tells an asserted phase from the 10 µs pause; `at_` is when the phase began. -/
structure InjSt where
  src : Nat
  kind : Nat
  left : Nat
  hold : Nat
  on : Bool
  at_ : Nat
  deriving DecidableEq, Repr

/-- The fault collector. `first` are the candidates of the open 1 µs window that began at `firstAt`;
`history` the last FAULT records, oldest first; `dumpBuf` the armed buffer (address, length); `dumpSrc`
the source and code that started the dump, with the DT of the FATAL hold; `dumpXfer` the status and RESULT with which its
transfer completed (R351); `fwWdt` the firmware watchdog; `cmdStop` that
DEVICE_RESTART has ended the dispatch of commands, and `restartQ` the submission ring of a DEVICE_RESTART whose
completion is not yet written (R83). -/
structure CollSt where
  src : Tbl FltSt := []
  queue : List FltEv := []
  first : List FirstCand := []
  firstAt : Nat := 0
  history : List FltRec := []
  inj : Option InjSt := none
  dumpBuf : Option (Nat × Nat) := none
  dumpSrc : Option (Nat × Nat × Nat) := none
  dumpAt : Nat := 0
  dumpXfer : Option (Nat × Nat) := none
  coreReset : Bool := false
  cmdStop : Bool := false
  restartQ : Option Nat := none
  fwWdt : Bool := false
  tjHigh : Bool := false
  tjSevere : Bool := false
  deriving DecidableEq, Repr

end Sys2Proof.Machine
end

