-- ==== Sys2Proof/Machine/EspTypes.lean ====
section
/-!
DEFINITION. What Espalier holds beside its registers and the signal store (spec 08): the graph, the open
samples, the tasks, the mailboxes. Times are instants of State.now, in h; `dt…` are device times.
-/
namespace Sys2Proof.Machine

/-- An edge entry of the graph image (Table 8.9): the input of a node. -/
structure EdgeCfg where
  kind : Nat
  src : Nat
  node : Nat
  deriving DecidableEq, Repr

/-- A node entry of the graph image (Table 8.8) with its inputs. -/
structure NodeCfg where
  type : Nat
  cad : Nat
  nOut : Nat
  edges : List EdgeCfg
  nState : Nat
  outBase : Nat
  stateBase : Nat
  coefBase : Nat
  nCoef : Nat
  cost : Nat
  param : Nat
  deriving DecidableEq, Repr

/-- A cadence entry of the graph image (Table 8.10). -/
structure CadCfg where
  src : Nat
  loop : Bool
  prio : Nat
  div : Nat
  arg : Nat
  rate : Nat
  deriving DecidableEq, Repr

/-- A loaded graph. `inits` are its initialisers by point. -/
structure Graph where
  id : Nat
  nodes : List NodeCfg
  cads : List CadCfg
  inits : Tbl Nat
  deriving DecidableEq, Repr

/-- An open sample of a cadence: its number, the DT and instant of its opening, its interval in seconds
(binary32, R197) and in ns where there is one; the values read at the opening (SNAP), the first values posted after it
at the sensor points its nodes read as SYNC, the outputs of its nodes with what stood there before (for
PREV); the nodes that have fired and those that have completed; the DT tag of the latest SYNC sensor
value; the instant at which its latest task completed; whether it has been abandoned, its nodes not yet fired being
skipped (R185); the nodes for which it is the first sample since a load or a NODE_RESET (R197, R219); the pair and what IMP
nodes read beside it at its opening (R250); the count of DT steps at its opening (R431). -/
structure Sample where
  num : Nat
  dt : Nat
  at_ : Nat
  step : Option Nat
  gap : Option Nat := none
  snaps : Tbl Nat
  caps : Tbl Nat := []
  outs : Tbl Nat := []
  prev : Tbl Nat := []
  fired : List Nat := []
  done : List Nat := []
  tag : Option Nat := none
  endAt : Nat := 0
  gone : Bool := false
  firsts : List Nat := []
  probe : List Nat := []
  era : Nat := 0
  deriving DecidableEq, Repr

/-- A cadence at work: its trigger count, last sample number, samples not yet complete (oldest first), the instant and DT
of the last opening, whether DT has been stepped since (R431), the duration of the last sample in
ns once it has completed, and the instant of its last CAD_OVERRUN record. -/
structure CadSt where
  trigs : Nat := 0
  num : Nat := 0
  samples : List Sample := []
  lastAt : Option Nat := none
  lastDt : Nat := 0
  stepped : Bool := false
  dur : Nat := 0
  overAt : Option Nat := none
  deriving DecidableEq, Repr

/-- Where a task stands: ready, running on a lane since an instant, or waiting for a queue (Table 16.8). -/
inductive TaskStage where
  | ready
  | running (at_ : Nat)
  | waiting (at_ : Nat)
  deriving DecidableEq, Repr

/-- A task: the firing of a node in a sample, with the inputs and coefficients it took, what the unit behind the node
showed it (`env`), the states it found, the interval of the sample, the instant and DT it became ready, and the DT of
its dispatch; whether its sample is its node's first since a load or reset (`first`), whether it is the node's first
firing since a load (`fresh`); the count of DT steps at the opening of its sample (`era`); whether its node has been
reset since (`reset`): it then leaves the states alone. -/
structure TaskSt where
  node : Nat
  cad : Nat
  num : Nat
  ins : List Nat
  coefs : List Nat
  env : List Nat := []
  step : Option Nat
  gap : Option Nat := none
  openDt : Nat
  tag : Option Nat
  readyAt : Nat
  readyDt : Nat
  dispDt : Nat := 0
  stage : TaskStage := .ready
  st : List Nat := []
  first : Bool := false
  fresh : Bool := false
  reset : Bool := false
  era : Nat := 0
  deriving DecidableEq, Repr

/-- A node that could fire while no task entry is free (R189): its cadence and sample, and the instant and DT at which
it became ready. -/
structure WaitSt where
  node : Nat
  cad : Nat
  num : Nat
  readyAt : Nat
  readyDt : Nat
  deriving DecidableEq, Repr

/-- What stood at a point until a write at an instant, kept for a sample that opened before (R187, R204). -/
structure OldVal where
  point : Nat
  value : Nat
  at_ : Nat
  deriving DecidableEq, Repr

/-- What SEQ remembers beside its states (R240): firings since the load or reset, and n of the last one. -/
structure SeqMem where
  count : Nat := 0
  n : Nat := 0
  deriving DecidableEq, Repr

/-- What MPT remembers beside its states (R276 to R279): its mode (Table 11.8), the state its input had at the last
firing, whether it has made an enabled firing since (its first is the one that sets v_ref or p_prev), b_cap, p_avg,
the request it holds (1 a sweep, 2 a move), and whether a move is past its first t_pert. -/
structure MptMem where
  mode : Nat := 0
  input : Nat := 0
  begun : Bool := false
  cap : Nat := 0
  avg : Nat := 0
  req : Nat := 0
  half : Bool := false
  deriving DecidableEq, Repr

/-- What a node keeps between its firings beside its state points: whether it has fired since the load, its last valid
outputs (none yet: empty), a reset to be made at the next opening (R206), the instant of its last USER_EVENT, its last
valid pair, and the memories of SEQ and MPT. -/
structure NodeSt where
  ran : Bool := false
  outs : List Nat := []
  reset : Bool := false
  evtAt : Option Nat := none
  pair : Option (Nat × Nat) := none
  seq : SeqMem := {}
  mpt : MptMem := {}
  deriving DecidableEq, Repr

/-- A commit of coefficients in progress (R205, R211): the nodes still to swap, those swapped, the ring of the
command that waits, if one does, its start, and whether a record of it was skipped. -/
structure CommitSt where
  nodes : List Nat
  swapped : Nat
  ring : Option Nat
  at_ : Nat
  bad : Bool
  deriving DecidableEq, Repr

/-- A mailbox update in queue 81 (R208). -/
structure MboxUpd where
  box : Nat
  point : Nat
  value : Nat
  seq : Nat
  deriving DecidableEq, Repr

/-- Espalier. `stalled` are the nodes that wait for a task entry; `touched` those whose coefficients have been written
since their last swap; `mboxHold` the mailbox updates that wait for room in queue 81; `rpc` the repetitive-controller
tables by 1,024 · table + bin; `hostWr` the scratch points the host has written in the present CK_FAB cycle, with that
cycle (R183); `olds` what stood at the SNAP sources before their latest writes; `loading` the ring whose GRAPH_LOAD is
in progress. -/
structure EspSt where
  graph : Option Graph := none
  cads : Tbl CadSt := []
  tasks : List TaskSt := []
  nodes : Tbl NodeSt := []
  stalled : List WaitSt := []
  touched : List Nat := []
  commits : List CommitSt := []
  mboxQ : List MboxUpd := []
  mboxHold : List MboxUpd := []
  rpc : Tbl Nat := []
  hostWr : List (Nat × Nat) := []
  olds : List OldVal := []
  loading : Option Nat := none
  deriving DecidableEq, Repr

end Sys2Proof.Machine
end

