-- ==== Sys2Proof/Machine/GridTypes.lean ====
section
/-!
DEFINITION. What the phase-group supervisor, the grid supervisor, the impedance probe and the DC stage hold
beside their registers and points (spec 09 to 11). Times are instants of State.now, in h; `dt…` are device
times in ns.
-/
namespace Sys2Proof.Machine

/-- A leg as the phase-group supervisor sees it. `since` is the instant its state began; `lows` what its SHR
firings reported in this period (none: no firing yet; else whether all were low); `switched` that it was
switching when the period began; `open_` and `blocked` the counts of R226 and R231; `iFb` and `rF` the latest
outputs of SHR; `lim` that of its THM node; `okSince` the instant from which |r_f| has stayed below
RES_THR/2 (R229); `shadow` the time counted in SHADOW in h, and `shadowAt` since when it counts; `group` the
group a spare stands in; `next` the state it takes at the next START of its group's reference brick, with the cause of
LEG_RESTORED (R217); `stay` the group it was in, or none, until the change of its ROLE takes effect. -/
structure PhgLeg where
  since : Nat := 0
  lows : Option Bool := none
  switched : Bool := false
  open_ : Nat := 0
  blocked : Nat := 0
  iFb : Nat := 0
  rF : Nat := 0
  lim : Option Nat := none
  okSince : Option Nat := none
  shadow : Nat := 0
  shadowAt : Option Nat := none
  group : Option Nat := none
  next : Option (LegSup × Option Nat) := none
  stay : Option (Option Nat) := none
  deriving DecidableEq, Repr

/-- A verdict that waits for its START: the leg, the cause of LEG_RETIRED (Table 9.11), or none for SHADOW,
and the spare chosen. -/
structure Verdict where
  leg : Nat
  cause : Option Nat
  spare : Option Nat
  deriving DecidableEq, Repr

/-- An insertion: the spare, the leg it replaces, the start of its ramp once it is INSERTING, and whether a guard of its
brick has opened with its PHASE_WALK clear (R230). -/
structure Insertion where
  spare : Nat
  replaced : Nat
  rampAt : Option Nat
  clear : Bool := false
  deriving DecidableEq, Repr

/-- A phase group. `sens` is the count of R228; `evals` the evaluations of e_ph in this period of the
reference brick (any above SENS_THR, any at or below it); `judged` those since each leg's last START, by
brick: whether any was above SENS_THR; `verdicts` wait for their STARTs; `waiting` are retirements whose
replacement has not begun and `ins` is the insertion in hand; `members` that the group had members at the
last PRESTART; `quietTo` the end of the suspension after RIDE; `due` that weights, targets and ceilings wait for the next
START of the reference brick (R217). -/
structure PhgSt where
  sens : Nat := 0
  evals : Bool × Bool := (false, false)
  judged : Tbl Bool := []
  verdicts : List Verdict := []
  waiting : List Insertion := []
  ins : Option Insertion := none
  members : Bool := false
  quietTo : Nat := 0
  due : Bool := false
  deriving DecidableEq, Repr

/-- A chip of the probe: its number DT / 4 ms, whether every sample of it was injected, its samples, and the
correlations of the eight tones in units of 2⁻⁸⁰. -/
structure Chip where
  num : Nat
  inj : Bool
  n : Nat
  v : List (Int × Int)
  i : List (Int × Int)
  deriving DecidableEq, Repr

/-- The probe: the completed chips, newest first; the chip in hand; the valid |Z| of tones still learning;
whether its island declaration stands until CEASE is left; whether it is enabled in a mode in which it injects (`live`:
not paused); the DT of the last correlator sample; the last chip number at which an estimate was formed; the code period
in which it listens, and the DT in ns at which it last began to. -/
structure PrbSt where
  chips : List Chip := []
  cur : Option Chip := none
  learn : Tbl (List Nat) := []
  island : Bool := false
  live : Bool := false
  lastAt : Option Nat := none
  lastEst : Nat := 0
  listen : Option Nat := none
  lastListen : Int := 0
  deriving DecidableEq, Repr

/-- A kind of curve: its region, the point that gives it, its latest x and t_left, and the DT at which the sample of its
latest firing opened, with the count of DT steps then. -/
structure KindSt where
  region : Nat := 0
  point : Option Nat := none
  x : Nat := 0
  left : Nat := 0x477FFF00
  dt : Option Nat := none
  era : Nat := 0
  deriving DecidableEq, Repr

/-- A landing of the synchronisation check: its instant and the difference in volts (binary32). -/
structure SyncDiff where
  at_ : Nat
  diff : Nat
  deriving DecidableEq, Repr

/-- The grid supervisor. `timers` by 16 · kind + point hold the ns an unbroken run has lasted; `vpre` the region-0
inputs of the last second; `acted` the timers of must-trips on which the supervisor has acted; `esRun` the ns of the
qualified run, `esFrom` the DT from which it counts, `esEra` the count of DT steps at the sample that last moved it
(R431) and `esDone` that the run has reached ES_DELAY; `exitAt`, `restoreAt` the instants from which region 0, or at
most 1, has held; `passiveAt` the end of PASSIVE_HOLD; `sync` the differences of the last 20 ms by line, `syncAt` the
instant from which the check has held. -/
structure GrdSt where
  timers : Tbl Nat := []
  kinds : Tbl KindSt := []
  vpre : List (Nat × Nat) := []
  acted : List Nat := []
  esRun : Option Nat := none
  esFrom : Int := 0
  esEra : Nat := 0
  esDone : Bool := false
  exitAt : Option Nat := none
  restoreAt : Option Nat := none
  passiveAt : Nat := 0
  sync : Tbl (List SyncDiff) := []
  syncAt : Option Nat := none
  deriving DecidableEq, Repr

/-- A DC input. `since` is the instant its state began; `vinAt` that from which Vin has stayed at or above
VIN_START; `toStart` that it moves on at the next START of its leg; `fwd` the count of R267 and `hand` that the
count is complete and the handover falls at the next START; `landN` and `landSum` the landings of this period;
`confirmed` that forward current is confirmed in this ON phase; `held` that the rectifier is held for R269,
`holdNext` and `relNext` that it is to be held or released at the next START; `scAt` the instant from which V_link
has stayed below V_SC; `goodAt` that from which it has been in RUN or a burst state (R271); `onLeft` the periods
left of BURST_ON and `frame` that a downlink frame lengthens it (R284); `cycN`, `cycSum` the landings of this burst
cycle and `cycles` the count of R283; `curN`, `curSum` the landings of the 100 ms in hand, with `powSum` the sum of
their v × i, `mean` the current of the last whole 100 ms, and `blocks` the count and v × i sum of the last ten;
`sweep` a host request; `foldAt` the DT of the last fold; `restart` that it must start afresh after an action or
block on its leg; `slow` that START_SLOW has been judged in this START; `due` that a downlink frame is due (R284). -/
structure DciSt where
  since : Nat := 0
  vinAt : Option Nat := none
  toStart : Bool := false
  fwd : Nat := 0
  hand : Bool := false
  landN : Nat := 0
  landSum : Nat := 0
  confirmed : Bool := false
  held : Bool := false
  holdNext : Bool := false
  relNext : Bool := false
  scAt : Option Nat := none
  goodAt : Option Nat := none
  onLeft : Nat := 0
  frame : Bool := false
  cycN : Nat := 0
  cycSum : Nat := 0
  cycles : Nat := 0
  curN : Nat := 0
  curSum : Nat := 0
  powSum : Nat := 0
  mean : Option Nat := none
  blocks : List (Nat × Nat) := []
  sweep : Bool := false
  foldAt : Option Nat := none
  restart : Bool := false
  slow : Bool := false
  due : Bool := false
  deriving DecidableEq, Repr

/-- The DC stage as a whole. `preAt` is the instant from
which V_link has been in the precharge window (R470); `dawnAt` the start of the 100 ms in hand, `dawnLow` and
`dawnHigh` the instants from which P_dc has stayed below ENTER or above EXIT (R282). -/
structure DcsSt where
  preAt : Option Nat := none
  dawnAt : Nat := 0
  dawnLow : Option Nat := none
  dawnHigh : Option Nat := none
  deriving DecidableEq, Repr

end Sys2Proof.Machine
end

