-- ==== Sys2Proof/Machine/SieTypes.lean ====
section
/-!
DEFINITION. What Sieve and the capture memory hold beside their registers (spec 14 and 15). Times are
instants of State.now, in h; `dt…` are device times in ns.
-/
namespace Sys2Proof.Machine

/-- A cubic crossing that waits for write +2 (R329): the writes −1, 0 and +1, the level, the DTs of the two
writes around the crossing. -/
structure CubicSt where
  xm : Nat
  x0 : Nat
  x1 : Nat
  level : Nat
  dt0 : Nat
  dt1 : Nat
  deriving DecidableEq, Repr

/-- A trigger unit: its previous write (value, DT), the write before that, the arms of EDGE, the pending
cubic crossing and the instant of its last record. -/
structure TrgSt where
  prev : Option (Nat × Nat) := none
  prev2 : Option Nat := none
  up : Bool := true
  down : Bool := true
  cubic : Option CubicSt := none
  evtAt : Option Nat := none
  deriving DecidableEq, Repr

/-- The configuration a capture reads at its start (R333). -/
structure CapCfg where
  raw : Bool
  red : Bool
  src : Nat
  arg : Nat
  div : Nat
  interval : Nat
  auto : Nat
  mask : Nat
  pre : Nat
  post : Nat
  base : Nat
  size : Nat
  chans : List Nat
  deriving DecidableEq, Repr

/-- A trigger cause (R333, R334): 0 a fire of `unit`, 1 a force, 2 the auto expiry; the DT of the firing
write, force or expiry, the crossing time with its fraction, and the CK_FAB cycle in which it fell. -/
structure CapCause where
  kind : Nat
  unit : Nat
  dt : Nat
  trigDt : Nat
  frac : Nat
  cyc : Nat
  deriving DecidableEq, Repr

/-- The reduction of one channel in the interval in progress: finite values, their sum and sum of squares in
binary64 (R335), minimum and maximum. -/
structure ChanAcc where
  n : Nat := 0
  sum : FVal := .fin false 0 0
  sq : FVal := .fin false 0 0
  min : Nat := 0
  max : Nat := 0
  deriving DecidableEq, Repr

/-- A frame or record in a ring: its first byte counted from the start of the capture, and its length. -/
structure RingItem where
  start : Nat
  len : Nat
  deriving DecidableEq, Repr

/-- A capture. Byte counts run from the start of the capture; the ring offset is the count modulo the ring
length. `formed` is the count after the last frame formed, `written` after the last byte written to memory,
`staged` the bytes between them; `items` the frames whose bytes are all still in the ring or staged; `endIdx`
the index after the last sample written, `ending` the end code once the end is decided. -/
structure CapSt where
  cfg : CapCfg
  ring : Option Nat
  events : Nat := 0
  lastEv : Option Nat := none
  idx : Nat := 0
  armedAt : Option Nat := none
  cause : Option CapCause := none
  trigIdx : Option Nat := none
  trigOff : Option Nat := none
  armDt : Nat := 0
  intFirst : Nat := 0
  intDt : Nat := 0
  intN : Nat := 0
  acc : List ChanAcc := []
  fbIdx : Option Nat := none
  abort : Bool := false
  wrapped : Bool := false
  formed : Nat := 0
  written : Nat := 0
  staged : List Nat := []
  items : List RingItem := []
  whole : Nat := 0
  endIdx : Nat := 0
  ending : Option Nat := none
  deriving DecidableEq, Repr

/-- A trace stream: the buffer it was enabled with in 4 KiB units, records dropped since the last one written, the
instant of its last SIE_TRACE_DROP, the byte counts of the ring, the staged bytes and the whole records in the
ring. -/
structure TrsSt where
  base : Nat := 0
  size : Nat := 1
  dropped : Nat := 0
  evtAt : Option Nat := none
  formed : Nat := 0
  written : Nat := 0
  staged : List Nat := []
  items : List RingItem := []
  deriving DecidableEq, Repr

/-- One 8 B word of capture memory: its data and the bits of its 72-bit code word that are in error
(R350). -/
structure MemWord where
  data : Nat := 0
  err : Nat := 0
  deriving DecidableEq, Repr

/-- The capture memory's own doings: the instant of the last leak of the bucket (R352); the granules in which the
last scrub pass corrected a word, by CA / 64, and the start and SCRUB_H of the pass in hand (R355); the instant at
which a test port access ends, with what it is (R358); the granules that firmware has logged in the NVM parameter
log (R354). -/
structure MemSt where
  leakAt : Nat := 0
  corrected : List Nat := []
  scrubAt : Option Nat := none
  scrubH : Nat := 24
  test : Option (Nat × Bool) := none
  nvmRemap : List Nat := []
  rr : Nat := 23
  deriving DecidableEq, Repr

end Sys2Proof.Machine
end

