-- ==== Sys2Proof/Machine/TrlTypes.lean ====
section
/-!
DEFINITION. What Trellis holds beside its registers and the array map (spec 12). Times are instants of State.now,
in h.
-/
namespace Sys2Proof.Machine

/-- A downlink frame (Table 12.1): its TYPE, address and payload, and the command of a ring that waits for it. -/
structure TrlFrame where
  type : Nat
  addr : Nat
  payload : List Nat
  ring : Option Nat := none
  deriving DecidableEq, Repr

/-- A batch of a round: its first address and count, the instant the last bit of its poll frame was sent (or would
have been, when it could not be), whether it was sent, the slot length it was polled with in 0.1 ms, the slot in hand,
whether a good reply has come in it and whether any has. -/
structure TrlBatch where
  addr : Nat
  n : Nat
  t0 : Nat
  sent : Bool
  len : Nat := 69
  slot : Nat := 0
  got : Bool := false
  heard : Bool := false
  deriving DecidableEq, Repr

/-- A round: its start, the address and count still to be polled, the batches in hand, good replies, the slots without
any, and the addresses without a good reply; `waits` that the next poll waits for a credit of queue 75. -/
structure TrlRound where
  at_ : Nat
  next : Nat
  left : Nat
  batches : List TrlBatch := []
  good : Nat := 0
  missing : Nat := 0
  silent : List Nat := []
  waits : Bool := false
  deriving DecidableEq, Repr

/-- A segment. `frame` is the frame being sent with the STARTs of its leg since it was taken up (its first bit
begins at the first of them); `ended` one whose last bit has been sent, with the instant; `idle` the periods of
PER0 since the last frame; `kaAt` the instant the next keep-alive falls due, `kaDue` that at which the one waiting
or being sent fell due; `cmds` and `poll` the frames that wait; `roundAt` the start of the last round, `now_` a
POLL_NOW; `lands` the sample instants and raw codes of the last landings of its input (R287, R293); `fold` that a completed
round waits for its fold; `credit` that the segment holds a credit of queue 75 (R295). -/
structure TrlSeg where
  frame : Option (TrlFrame × Nat) := none
  ended : Option (TrlFrame × Nat) := none
  idle : Nat := 20
  kaAt : Option Nat := none
  kaDue : Option Nat := none
  kaWait : Bool := false
  cmds : List TrlFrame := []
  poll : Option (TrlFrame × TrlBatch) := none
  round : Option TrlRound := none
  roundAt : Option Nat := none
  now_ : Bool := false
  lands : List (Nat × Int) := []
  fold : Bool := false
  credit : Bool := false
  deriving DecidableEq, Repr

/-- A decoded frame in queue 75 (R293): its segment, payload bits and CRC, the DT of its first bit, and the address of
the slot in which it came. -/
structure UlFrame where
  seg : Nat
  payload : Nat
  crc : Nat
  dt : Nat
  addr : Nat
  deriving DecidableEq, Repr

/-- A TRL_CMD at work: its ring, its start, the segments whose frame has been sent and those still to come, and whether its
count was clamped (R51). -/
structure TrlCmd where
  q : Nat
  at_ : Nat
  sent : Nat
  left : Nat
  clamped : Bool := false
  deriving DecidableEq, Repr

/-- Trellis. `kaInt` is the start of the keep-alive interval in hand; `miss` the consecutive rounds without a good
reply, by address, and `lost` the addresses whose NODE_LOST has been posted (R301); `frames` queue 75. -/
structure TrlSt where
  segs : Tbl TrlSeg := []
  kaInt : Option Nat := none
  miss : Tbl Nat := []
  lost : List Nat := []
  cmds : List TrlCmd := []
  frames : List UlFrame := []
  deriving DecidableEq, Repr

end Sys2Proof.Machine
end

