-- ==== Sys2Proof/Machine/State.lean ====
section
/-!
DEFINITION. The state of the block: everything the spec gives it, as plain data, with the queue of
commands that wait. State.reset is the machine right after main supplies good at power-on (R32, Table
2.3: mode WAKE, cause POWER_ON).
-/
namespace Sys2Proof.Machine

/-- The reasons a command ends in a fault. -/
inductive Fault where
  /-- Raised by every command that names a unit, ring, leg, queue or address the spec does not have (a
  brick above 7, a ring above 63). Safe: no claim about a device that has the unit is touched. -/
  | noSuchUnit
  deriving DecidableEq, Repr

/-- The reasons a command is refused. -/
inductive Refusal where
  /-- Raised by no meaning: a command whose meaning is not written. Safe. -/
  | notModelled (mnemonic : String)
  deriving DecidableEq, Repr

/-- The whole state. `regs` is the register file by field key; `pts` the signal store by point and `seqs` the sample
sequence numbers of its points; `hostMem` the bytes the device has written to host memory; `now` the time since
power-on in h; `pw` the count of the PWM time base since WAKE in 1/32 t (R426), which is an h of it; `dt` device time
in 2⁻³² ns / 10⁹, which runs while `dtOn`; `free` counts the free values used (Config.freeValue); `out` collects the
host writes of the command being executed; `rr` is the submission ring last served of each PRIO (31 before the first,
R69); `bridge` the register writes that a stopped bridge holds, in the order in which they entered it (R30, R108);
`qUse` the entries of queues 82 to 84 written at an instant (log 111), and `qWait` the rings whose next entry waits
for a credit of queue 82 (64 for the next event record). -/
structure State where
  pending : List Instr
  variant : Variant
  now : Nat
  pw : Nat
  dt : Nat
  dtOn : Bool
  free : Nat
  regs : Tbl Nat
  pts : Tbl Nat
  seqs : Tbl Nat
  hostMem : Tbl Byte
  out : List (Nat × Nat)
  mm : ModeSt
  rings : Tbl RingSt
  rr : Tbl Nat
  bridge : List BridgeWrite
  qUse : Tbl (Nat × Nat)
  qWait : List Nat
  cplQ : List Cpl
  evq : List EvRec
  legs : Tbl LegSt
  brks : Tbl BrkSt
  halts : List HaltCause
  cmpQ : Tbl (List CmpEntry)
  reports : List PeriodReport
  cws : Tbl CwSt
  tgs : Tbl TgSt
  flt : CollSt
  pinhLow : Bool
  dcTaken : Bool
  acTaken : Bool
  adcTrigs : List (Nat × Nat × Nat)
  cadTrigs : List (Nat × Nat)
  engTrigs : List (Nat × Nat)
  esp : EspSt
  shadow : Tbl Nat
  trgs : Tbl TrgSt
  caps : Tbl (Option CapSt)
  trss : Tbl TrsSt
  capmem : Tbl MemWord
  mem : MemSt
  trl : TrlSt
  hoe : HoeSt
  mtr : MtrSt
  clo : CloSt
  saf : SafSt
  clk : ClkSt
  ptp : PtpSt
  eth : EthSt
  seqSt : Tbl SeqSt
  cores : Tbl CoreSt
  resQ : Tbl (List AdcRes)
  tmrs : Tbl TmrSt
  sds : Tbl SdSt
  cal : CalSt
  auxMult : Nat
  phgLegs : Tbl PhgLeg
  phgs : Tbl PhgSt
  ceilMark : Option Nat
  prb : PrbSt
  grd : GrdSt
  dcis : Tbl DciSt
  dcs : DcsSt
  deriving DecidableEq, Repr

/-- The state after reset in a given variant. -/
def State.resetOf (v : Variant) : State where
  pending := []
  variant := v
  now := 0
  pw := 0
  dt := 0
  dtOn := false
  free := 0
  regs := []
  pts := []
  seqs := []
  hostMem := []
  out := []
  mm := {}
  rings := []
  rr := []
  bridge := []
  qUse := []
  qWait := []
  cplQ := []
  evq := []
  legs := []
  brks := []
  halts := []
  cmpQ := []
  reports := []
  cws := []
  tgs := []
  flt := {}
  pinhLow := false
  dcTaken := true
  acTaken := true
  adcTrigs := []
  cadTrigs := []
  engTrigs := []
  esp := {}
  shadow := []
  trgs := []
  caps := []
  trss := []
  capmem := []
  mem := {}
  trl := {}
  hoe := {}
  mtr := {}
  clo := {}
  saf := {}
  clk := {}
  ptp := {}
  eth := {}
  seqSt := []
  cores := []
  resQ := []
  tmrs := []
  sds := []
  cal := {}
  auxMult := 400
  phgLegs := []
  phgs := []
  ceilMark := none
  prb := {}
  grd := {}
  dcis := []
  dcs := {}

/-- Reset: an AX9600-A (DESIGN CHOICE, log 1). -/
def State.reset : State := State.resetOf .A

end Sys2Proof.Machine
end

