-- ==== Sys2Proof/Machine/Ops.lean ====
section
/-!
DEFINITION. The named operations on the state that every unit shares: register fields, time, event
records, host memory writes, readiness, queue statistics, free values, fault causes and mode triggers.
-/
namespace Sys2Proof.Machine

/-! ### Outcomes -/

/-- Place the bytes a command wrote, in order, into host memory; an unwritten byte reads as 0 (log 4). -/
def placeBytes (m : Tbl Byte) (l : List (Nat × Nat)) : Tbl Byte :=
  l.foldl (fun m p => tput m p.1 (BitVec.ofNat 8 p.2) 0) m

/-- A meaning from its effect: the effect touches neither the queue of commands, nor the variant (R441), nor host
memory. -/
def State.run (f : State → State) (s : State) : Host.Outcome State Fault Refusal :=
  .next { f { s with out := [] } with
    pending := s.pending
    variant := s.variant
    hostMem := s.hostMem
    out := [] }

/-- The same of a command that may write host memory: the host writes it collected reach it in order (R70). -/
def State.runHost (f : State → State) (s : State) : Host.Outcome State Fault Refusal :=
  let t := f { s with out := [] }
  .next { t with
    pending := s.pending
    variant := s.variant
    hostMem := placeBytes s.hostMem t.out
    out := [] }

/-- A meaning that names a unit: it faults where the spec has no such unit. -/
def State.runIf (ok : Bool) (f : State → State) (s : State) : Host.Outcome State Fault Refusal :=
  if ok then s.run f else .fault .noSuchUnit

/-- The same of a command that may write host memory. -/
def State.runHostIf (ok : Bool) (f : State → State) (s : State) : Host.Outcome State Fault Refusal :=
  if ok then s.runHost f else .fault .noSuchUnit

/-- Apply f when c holds. -/
def State.when (s : State) (c : Bool) (f : State → State) : State := if c then f s else s

/-- Apply f for each element of a list, in order. -/
def State.each {α : Type} (s : State) (l : List α) (f : α → State → State) : State :=
  l.foldl (fun t a => f a t) s

/-! ### Register fields -/

/-- A field's present value. -/
def State.rd (s : State) (f : Fld) (i : Nat := 0) (j : Nat := 0) : Nat :=
  tgetD s.regs (f.key i j) (f.reset i j)

/-- A one-bit field as a truth value. -/
def State.rdB (s : State) (f : Fld) (i : Nat := 0) (j : Nat := 0) : Bool := s.rd f i j != 0

/-- A field set to v (its low bits). -/
def State.wr (s : State) (f : Fld) (v : Nat) (i : Nat := 0) (j : Nat := 0) : State :=
  { s with regs := tput s.regs (f.key i j) (v % 2 ^ f.width) (f.reset i j) }

def State.wrB (s : State) (f : Fld) (v : Bool) (i : Nat := 0) (j : Nat := 0) : State :=
  s.wr f (b2n v) i j

/-- A 32-bit counter field advanced by n, saturating. -/
def State.count (s : State) (f : Fld) (i : Nat := 0) (j : Nat := 0) (n : Nat := 1) : State :=
  s.wr f (satAdd32 (s.rd f i j) n) i j

/-! ### Time -/

/-- One microsecond, one millisecond and one second in h (Table 0.2). -/
def usH : Nat := 12800
def msH : Nat := 12800000
def secH : Nat := 12800000000

/-- The scale of State.dt: 2³² units to the nanosecond (R428). -/
def dtUnit : Nat := 2 ^ 32

/-- Device time in ns, 0 until it runs (R428). -/
def State.dtNs (s : State) : Nat := s.dt / dtUnit % 2 ^ 64

def State.dtLo (s : State) : Nat := s.dtNs % 2 ^ 32

/-- The cycles of CK_SYS, 4 ns each, that have begun by instant t. -/
def sysCycle (t : Nat) : Nat := 5 * t / 256

/-- What DT advances by in a cycle of CK_SYS: 4 ns and the correction of PTP.FREQ parts in 10⁹, to 2⁻³² ns (R428,
R429). -/
def State.dtRate (s : State) : Nat :=
  ((4 * dtUnit : Nat) + sext (s.rd PTP.FREQ) 32 * (4 * dtUnit : Nat) / 1000000000).toNat

/-- DT runs: it has been started, and CK_SYS is there to count it. -/
def State.dtRuns (s : State) : Bool := s.dtOn && !s.halts.contains .ckSys

/-- Device time in 2⁻³² ns at an instant t up to now, between two cycles of CK_SYS in proportion: what an instant is tagged
with whose accuracy the spec states as finer than a cycle (DEDUCED, log 160). -/
def State.dtFine (s : State) (t : Nat) : Nat :=
  if s.dtRuns then
    s.dt - (sysCycle s.now - sysCycle t) * s.dtRate + s.dtRate * (5 * t % 256) / 256
  else s.dt

/-- Device time in ns at an instant t up to now. -/
def State.dtAt (s : State) (t : Nat) : Nat := s.dtFine t / dtUnit % 2 ^ 64

/-- secH² times the integral, from the restart on, of the spread triangle between −1 and 1 that starts at its centre, rising;
x is the phase in the modulation period, as a part of secH (R424). -/
def triArea (x : Nat) : Nat :=
  if 4 * x < secH then 2 * x ^ 2
  else if 4 * x < 3 * secH then 2 * x * secH - 2 * x ^ 2 - secH ^ 2 / 4
  else 2 * (secH - x) ^ 2

/-- The h of the PWM time base in the first u h after a restart of the spread triangle, by the plan in force (R424): with
CENTRE the frequency runs over f0 × (1 ± s/2), with DOWN from f0 down to f0 × (1 − s). -/
def State.spread (s : State) (u : Nat) : Nat :=
  let p := s.rd CLK.STAT_PLAN
  let w := s.rd CLK.BAND_WIDTH 0 p
  let hz := s.rd CLK.BAND_MOD_HZ 0 p
  let d := w * triArea (u * hz % secH) / (20000 * hz * secH)
  match s.rd CLK.BAND_MODE 0 p with
  | 1 => u + d - w * u / 20000
  | 2 => u + d
  | _ => u

/-- The phase steps made in the first w h of the time base after the last epoch point: one in 64 t (R426). -/
def State.stepsMade (s : State) (w : Nat) : Nat := Nat.min s.clk.plan.natAbs (w / 2048)

/-- The count of the PWM time base in 1/64 t at an instant t from the last epoch point on (R424, R426). While CK_PWM is
stopped it is counted on (DESIGN CHOICE, log 107). -/
def State.pwHalf (s : State) (t : Nat) : Nat :=
  let w := s.spread (t - s.clk.base.1)
  let k := s.stepsMade w
  if s.clk.plan < 0 then s.clk.base.2 + 2 * w + k else s.clk.base.2 + 2 * w - k

/-- The time base runs at its nominal rate: without spread and without phase steps. -/
def State.plainPw (s : State) : Bool :=
  let m := s.rd CLK.BAND_MODE 0 (s.rd CLK.STAT_PLAN)
  m ≠ 1 && m ≠ 2 && s.clk.plan = 0

/-- The least number above lo, up to hi, at which f holds, where f goes on to hold from there. -/
def leastAbove (f : Nat → Bool) : Nat → Nat → Nat → Nat
  | 0, _, hi => hi
  | fuel + 1, lo, hi =>
    let m := (lo + hi) / 2
    if hi ≤ lo + 1 then hi else if f m then leastAbove f fuel lo m else leastAbove f fuel m hi

/-- The instant at which the PWM time base reaches the count p, in h of it; that of the last epoch point for a count before
that. -/
def State.realOf (s : State) (p : Nat) : Nat :=
  let b := s.clk.base
  let n := (2 * p - b.2 + 1) / 2
  if n = 0 || s.plainPw then b.1 + n
  else leastAbove (fun t => 2 * p ≤ s.pwHalf t) 64 b.1 (b.1 + 2 * n)

/-- Time passes to instant t, never backwards; DT advances in each cycle of CK_SYS (R428), and the PWM time base counts its
ticks (R426). -/
def State.to (s : State) (t : Nat) : State :=
  if t ≤ s.now then s
  else
    { s with
      now := t
      pw := Nat.max s.pw (s.pwHalf t / 2)
      dt := if s.dtRuns then s.dt + (sysCycle t - sysCycle s.now) * s.dtRate else s.dt }

/-- Time passes until the PWM time base reaches the count p. -/
def State.toPw (s : State) (p : Nat) : State :=
  if p ≤ s.pw then s else { s.to (s.realOf p) with pw := p }

/-- Time passes until DT reaches a value, when it runs (R428). -/
def State.toDt (s : State) (target : Nat) : State :=
  let rate := s.dtRate
  if !s.dtRuns || rate = 0 || target * dtUnit ≤ s.dt then s
  else s.to ((256 * (sysCycle s.now + (target * dtUnit - s.dt + rate - 1) / rate) + 4) / 5)

/-! ### Presence and readiness -/

/-- The unit of GLB.UNITS bit b is present (R441). -/
def State.has (s : State) (b : Nat) : Bool := s.variant.units.testBit b

/-- READY bit b (Table 2.9). -/
def State.ready (s : State) (b : Nat) : Bool := (s.rd GLB.READY).testBit b

def State.setReady (s : State) (b : Nat) (v : Bool) : State :=
  s.wr GLB.READY (putBits (s.rd GLB.READY) b 1 (b2n v))

/-- The READY bits that are mandatory for STANDBY (Table 2.9). -/
def mandatoryBits : List Nat := [0, 1, 2, 7, 10, 33, 34, 35, 38]

def State.mandatoryReady (s : State) : Bool := mandatoryBits.all s.ready

/-! ### Event records, host writes, free values -/

/-- The 32 bytes of a record: its type, its type-specific fields (offset, bytes, value) and DT_LO (R75). -/
def evWord (ty : Nat) (parts : List (Nat × Nat × Nat)) (lo : Nat) : BitVec 256 :=
  BitVec.ofNat 256
    (parts.foldl (fun a p => a + bits p.2.2 0 (8 * p.2.1) <<< (8 * p.1)) ty + bits lo 0 32 <<< 224)

/-- An event arises now: its record waits to be routed (R77, R466). -/
def State.post (s : State) (ty : Nat) (parts : List (Nat × Nat × Nat)) : State :=
  { s with evq := s.evq ++ [⟨evWord ty parts s.dtLo⟩] }

/-- A CLAMP (type 2) or MODE_LOCK (type 3) record of Table 2.10 for a register field. -/
def State.checkRec (s : State) (ty : Nat) (w : WSrc) (addr field req app : Nat) : State :=
  match w with
  | .bar0 => s.post ty [(2, 2, field), (8, 4, addr), (16, 4, req), (20, 4, app), (26, 1, 0xFF)]
  | .batch ord tag q =>
    s.post ty [(1, 1, 1), (2, 2, field), (8, 4, addr), (12, 4, ord), (16, 4, req), (20, 4, app),
      (24, 2, tag), (26, 1, q)]

/-- ACCESS_ERROR (Table 3.12). -/
def State.accessError (s : State) (bar size wr off : Nat) : State :=
  s.post 0x05 [(1, 1, bar), (2, 1, size), (3, 1, wr), (8, 8, off)]

/-- The device writes bytes to host memory from address a on. -/
def State.hostPut (s : State) (a : Nat) (bytes : List Nat) : State :=
  { s with out := s.out ++ bytes.mapIdx (fun i b => (a + i, b % 256)) }

/-- The next free value (Config.freeValue). -/
def State.freeVal (s : State) : Nat := Config.freeValue s.free

def State.useFree (s : State) : State := { s with free := s.free + 1 }

/-- The next free error between −b and b, for a figure whose accuracy alone the spec states. -/
def State.freeErr (s : State) (b : Nat) : Int := clampI (-(b : Int)) b (Config.boundedError s.free)

/-- The next free error of a DT tag that is good to ±b ns: dtAt gives the whole ns at or below the instant. -/
def State.tagErr (s : State) (b : Nat) : Int := clampI (1 - (b : Int)) b (Config.boundedError s.free)

/-! ### Queues of Table 1.6 -/

/-- The depth of queue i. -/
def queueDepth (i : Nat) : Nat :=
  if i < 18 then 32 else if i < 34 then 16 else if i < 42 then 16 else if i < 74 then 16
  else match i with
    | 74 => 64
    | 75 => 64
    | 76 => 256
    | 77 => 8
    | 78 => 8
    | 79 => 8
    | 80 => 16
    | 81 => 32
    | 82 => 32
    | 83 => 32
    | 84 => 32
    | 85 => 8
    | 86 => 8
    | 87 => 4
    | 88 => 4
    | 89 => 4
    | 90 => 32
    | _ => 0

/-- The queue belongs to a unit this variant has (R27, Table 20.5). -/
def State.queuePresent (s : State) (i : Nat) : Bool :=
  if i = 75 then s.has 10
  else if i = 87 then s.has 11
  else if [85, 86, 88, 89].contains i then s.has 16
  else i < 91

/-- Queue i now holds n entries: its high-water mark follows (Table 1.7). -/
def State.queueHolds (s : State) (i n : Nat) : State :=
  if s.rd GLB.QSTAT_HWM 0 i < n then s.wr GLB.QSTAT_HWM n 0 i else s

/-- The entries of queue 82, 83 or 84 that its producer has written at the present instant; the consumer frees them as time
passes (DEDUCED, log 111). -/
def State.queueUsed (s : State) (i : Nat) : Nat :=
  let u := tgetD s.qUse i (0, 0)
  if u.1 = s.now then u.2 else 0

/-- Queue 82, 83 or 84 has a credit left (R24). -/
def State.queueRoom (s : State) (i : Nat) : Bool := s.queueUsed i < queueDepth i

/-- A credit of queue 82, 83 or 84 is spent on an entry (R24). -/
def State.queueSpend (s : State) (i : Nat) : State :=
  let n := s.queueUsed i + 1
  ({ s with qUse := tput s.qUse i (s.now, n) (0, 0) } : State).queueHolds i n

/-- A client passes n entries through queue 83 or 84: it holds the credits there are, and each entry beyond them waits for
one (R25). -/
def State.queuePass (s : State) (i n : Nat) : State :=
  let k := s.queueUsed i + n
  let s : State := { s with qUse := tput s.qUse i (s.now, Nat.min (queueDepth i) k) (0, 0) }
  (s.queueHolds i (Nat.min (queueDepth i) k)).count GLB.QSTAT_STALL_CNT 0 i (k - queueDepth i)

/-- An entry of queue i waits for a credit (R25). -/
def State.stallCount (s : State) (i : Nat) : State := s.count GLB.QSTAT_STALL_CNT 0 i

/-- A record of the safety island, types 0x78 to 0x7F (R403). -/
def EvRec.ofIsland (e : EvRec) : Bool := decide (0x78 ≤ e.body.toNat % 256) && decide (e.body.toNat % 256 < 0x80)

/-- The records of the island that have not yet been written: the messages of queue 85 (R403). -/
def State.islandWaiting (s : State) : Nat := s.evq.countP (·.ofIsland)

/-- The island posts a record through queue 85; without a credit it is not posted, and counts as stalled (R403, Table
1.6). -/
def State.safPost (s : State) (ty : Nat) (parts : List (Nat × Nat × Nat)) : State :=
  if s.islandWaiting < 8 then
    let s := s.post ty parts
    s.queueHolds 85 s.islandWaiting
  else s.stallCount 85

/-! ### Register bridges (R30, R108) -/

/-- Register bridge i moves no write: CK_SYS, which feeds it, or the clock of its target has stopped (R107, R108; DEDUCED
for a target, log 14). -/
def State.bridgeHalted (s : State) (i : Nat) : Bool :=
  s.halts.contains .ckSys || (decide (i = 77) && s.halts.contains .ckPwm)
    || (decide (i = 78) && s.halts.contains .ckFab)

/-- A write waits in stopped bridge i, or at the endpoint where its queue is full (Table 1.6). -/
def State.bridgeHold (s : State) (i o size v : Nat) : State :=
  let n := (s.bridge.filter (·.queue = i)).length
  let s : State := { s with bridge := s.bridge ++ [⟨i, o, size, v⟩] }
  if n < 8 then s.queueHolds i (n + 1) else s.stallCount i

/-- The main domain runs and takes accesses: no BAR0 access is taken in KEEPALIVE (R33). -/
def State.mainOn (s : State) : Bool := s.mm.cur ≠ .keepalive

/-- A row of the table that is a BAR0 write, with its effect f. -/
def State.hostWrite (s : State) (f : State → State) : State := s.when s.mainOn f

/-- The management core does not run: a debug halt stops it, and CK_SYS clocks it (R107, Table 1.2; log 144). -/
def State.mgmtHalted (s : State) : Bool := s.halts.contains .debug || s.halts.contains .ckSys

/-! ### Fault causes (R360, R361) -/

/-- The unit a source belongs to is present (R442). -/
def State.srcPresent (s : State) (src : Nat) : Bool :=
  if src = fsTrellis then s.has 10
  else if src = fsRevPower || src = fsMeter then s.has 11
  else if src = fsSafety then s.has 16
  else src < 203

def State.fsrc (s : State) (i : Nat) : FltSt := tgetD s.flt.src i {}

def State.setFsrc (s : State) (i : Nat) (v : FltSt) : State :=
  { s with flt := { s.flt with src := tput s.flt.src i v {} } }

/-- The source is asserted: a cause holds, an occurrence lasts, or its rails disagree with being a pair. -/
def State.srcOn (s : State) (i : Nat) : Bool :=
  let f := s.fsrc i
  !f.causes.isEmpty || f.occEnd.isSome || s.rdB SRC.STAT_WIRE i

/-- A source holds an event for want of a credit, beside those of its other causes; a repeat of one it holds is
counted with it (R25, R361, Table 1.6). -/
def holdEvent (e : FltEv) : List FltEv → List FltEv
  | [] => [e]
  | h :: l =>
    if h.code = e.code && h.asserts = e.asserts && h.wire = e.wire && h.inj = e.inj then
      { h with rep := Nat.min (h.rep + 1) 255 } :: l
    else h :: holdEvent e l

/-- An event enters queue 76, or is held at its source for want of a credit (R25). -/
def State.fltEnqueue (s : State) (e : FltEv) : State :=
  if s.flt.queue.length < 256 then
    let s := { s with flt := { s.flt with queue := s.flt.queue ++ [e] } }
    s.queueHolds 76 s.flt.queue.length
  else
    let f := s.fsrc e.src
    let l := holdEvent e f.held
    (s.when (f.held.length < l.length) (·.stallCount 76)).setFsrc e.src { f with held := l }

/-- A cause of source src becomes true (R361). -/
def State.fltSet (s : State) (src code : Nat) (inj : Bool := false) : State :=
  let f := s.fsrc src
  if !s.srcPresent src || f.causes.contains code then s
  else
    let e : FltEv :=
      { src := src, code := code, dt := s.dtNs, at_ := s.now, asserts := !s.srcOn src, inj := inj }
    ((s.setFsrc src { f with causes := f.causes ++ [code] }).wrB SRC.STAT_ASSERTED true src).fltEnqueue e

/-- A cause of source src ends. -/
def State.fltEnd (s : State) (src code : Nat) : State :=
  let f := s.fsrc src
  let s := s.setFsrc src { f with causes := f.causes.filter (· != code) }
  s.wrB SRC.STAT_ASSERTED (s.srcOn src) src

/-- A cause holds exactly while b. -/
def State.fltLevel (s : State) (src code : Nat) (b : Bool) : State :=
  if b then s.fltSet src code else if (s.fsrc src).causes.contains code then s.fltEnd src code else s

/-- An occurrence of source src: it asserts for 1 µs; one that falls while an earlier one lasts extends it
and is no new event (R360). -/
def State.fltOccur (s : State) (src code : Nat) (inj : Bool := false) : State :=
  let f := s.fsrc src
  if !s.srcPresent src then s
  else
    match f.occEnd with
    | some e =>
      if s.now < e then s.setFsrc src { f with occEnd := some (s.now + usH) }
      else
        (s.setFsrc src { f with occEnd := some (s.now + usH) }).fltEnqueue
          { src := src, code := code, dt := s.dtNs, at_ := s.now,
            asserts := f.causes.isEmpty && !s.rdB SRC.STAT_WIRE src, inj := inj }
    | none =>
      let e : FltEv :=
        { src := src, code := code, dt := s.dtNs, at_ := s.now, asserts := !s.srcOn src, inj := inj }
      ((s.setFsrc src { f with occEnd := some (s.now + usH) }).wrB SRC.STAT_ASSERTED true
        src).fltEnqueue e

/-- An entry of queue i waits for a credit; a stall on queues 0 to 33 or 90 is an occurrence of FS189. -/
def State.stalled (s : State) (i : Nat) : State :=
  (s.stallCount i).when (i < 34 || i = 90) (·.fltOccur fsQueue i)

/-! ### Mode manager triggers -/

/-- The current mode is one of a list. -/
def State.modeIn (s : State) (l : List Mode) : Bool := l.contains s.mm.cur

/-- FOLLOW, FORM, DAWN and RIDE. -/
def runModes : List Mode := [.follow, .form, .dawn, .ride]

/-- A trigger waits for the mode manager (R38). -/
def State.trigger (s : State) (t : Trigger) : State :=
  if s.mm.trig.contains t then s else { s with mm := { s.mm with trig := s.mm.trig ++ [t] } }

/-- A protection trip acts in the running modes and in PRESTART, and adds its return conditions in CEASE (R38, R47, R111,
R153). -/
def State.protectionTrip (s : State) : State :=
  s.when (s.modeIn (.prestart :: .cease :: runModes)) (·.trigger .protection)

/-- A write is admitted to an RWL field in the present mode (R11). -/
def State.modeAdmits (s : State) : ModeSet → Bool
  | .ssf => s.modeIn [.standby, .service, .factory]
  | .sf => s.modeIn [.service, .factory]
  | .f => s.modeIn [.factory]

/-- The function of READY bit b is lost: the bit clears, its source is raised and READY_LOST is posted; a
mandatory bit is a protection trip (R38, R47). -/
def State.loseReady (s : State) (b : Nat) : State :=
  if !s.ready b then s
  else
    let s := ((s.setReady b false).fltSet (readyLostSource b) b).post 0x04 [(1, 1, b), (8, 8, s.dtNs)]
    s.when (mandatoryBits.contains b) (·.protectionTrip)

/-- A function has completed its bring-up: its bit sets, and a loss of readiness ends (R46, Table 16.1). -/
def State.readySet (s : State) (b : Nat) : State := (s.setReady b true).fltLevel (readyLostSource b) b false

/-- Hoe's task i has ended a pass (Table 16.11). -/
def State.hoeDone (s : State) (i : Nat) : State :=
  ({ s with hoe := { s.hoe with
    last := tput s.hoe.last i s.now 0, late := s.hoe.late.filter (· ≠ i) } } : State).wr HOE.TASK s.dtNs 0 i

/-- Hoe runs: from READY.HOE on, and while the management core does (R368, R107). -/
def State.hoeRuns (s : State) : Bool := s.ready 41 && !s.mgmtHalted

/-! ### Units by number -/

def State.leg (s : State) (n : Nat) : LegSt := tgetD s.legs n {}
def State.setLeg (s : State) (n : Nat) (v : LegSt) : State := { s with legs := tput s.legs n v {} }
def State.modLeg (s : State) (n : Nat) (f : LegSt → LegSt) : State := s.setLeg n (f (s.leg n))

def LegSt.side (l : LegSt) : Side → SideSt
  | .high => l.high
  | .low => l.low

def LegSt.setSide (l : LegSt) (d : Side) (v : SideSt) : LegSt :=
  match d with
  | .high => { l with high := v }
  | .low => { l with low := v }

def State.side (s : State) (n : Nat) (d : Side) : SideSt := (s.leg n).side d
def State.modSide (s : State) (n : Nat) (d : Side) (f : SideSt → SideSt) : State :=
  s.modLeg n (fun l => l.setSide d (f (l.side d)))

def State.brk (s : State) (k : Nat) : BrkSt := tgetD s.brks k {}
def State.setBrk (s : State) (k : Nat) (v : BrkSt) : State := { s with brks := tput s.brks k v {} }
def State.modBrk (s : State) (k : Nat) (f : BrkSt → BrkSt) : State := s.setBrk k (f (s.brk k))

/-- The legs of brick k (Table 0.4). -/
def legsOf (k : Nat) : List Nat := (List.range 12).map (12 * k + ·)

def State.cw (s : State) (w : Nat) : CwSt := tgetD s.cws w {}
def State.setCw (s : State) (w : Nat) (v : CwSt) : State := { s with cws := tput s.cws w v {} }

def State.tg (s : State) (g : Nat) : TgSt := tgetD s.tgs g {}
def State.setTg (s : State) (g : Nat) (v : TgSt) : State := { s with tgs := tput s.tgs g v {} }

def State.ring (s : State) (q : Nat) : RingSt := tgetD s.rings q {}
def State.setRing (s : State) (q : Nat) (v : RingSt) : State := { s with rings := tput s.rings q v {} }
def State.modRing (s : State) (q : Nat) (f : RingSt → RingSt) : State := s.setRing q (f (s.ring q))

end Sys2Proof.Machine
end

