-- ==== Sys2Proof/Machine/Words.lean ====
section
/-!
DEFINITION. Register words (R6, R7): the fields of a register put together as 32-bit words.
-/
namespace Sys2Proof.Machine

/-- The part of the dword at BAR0 offset o that field f of indices i, j takes with value v. -/
def Fld.inDword (f : Fld) (o i j v : Nat) : Nat :=
  (v % 2 ^ f.width) <<< f.lsb >>> (8 * (o - f.addr i j)) % 2 ^ 32

/-- The dword at offset o made of these fields, each with the value `val` gives it. -/
def dwordOf (val : Fld → Nat → Nat → Nat) (l : List (Fld × Nat × Nat)) (o : Nat) : Nat :=
  l.foldl (fun w p => w + p.1.inDword o p.2.1 p.2.2 (val p.1 p.2.1 p.2.2)) 0

/-- The dword at offset o of a list of fields. -/
def wordOf (val : Fld → Nat → Nat → Nat) (l : List Fld) (o : Nat) : Nat :=
  dwordOf val (l.filterMap (fun f => (f.at o).map (fun p => (f, p.1, p.2)))) o

def Fld.is (f g : Fld) : Bool := f.off = g.off && f.lsb = g.lsb

/-- A field of which a write asks an action: unwritten bits count as 0. -/
def Acc.acts : Acc → Bool
  | .w1c => true
  | .w1ch => true
  | .wo => true
  | _ => false

/-- The offset of the dword in which field f of indices i, j begins. -/
def Fld.dword (f : Fld) (i j : Nat) : Nat := f.addr i j + f.lsb / 32 * 4

/-- The 32-bit write that gives field f of indices i, j the value v: every other field of the dword requests its present
value. -/
def State.oneWord (s : State) (f : Fld) (i j v : Nat) : Nat :=
  dwordOf (fun g a b => if g.is f then v else if g.acc.acts then 0 else s.rd g a b) (fldsAt (f.dword i j)) (f.dword i j)

/-- A row that is a BAR0 write of v to field f, through register bridge k, with its effect g: a stopped bridge holds the
write (R30, R108). -/
def State.bridgeWrite (s : State) (k : Nat) (f : Fld) (i j v : Nat) (g : State → State) : State :=
  s.hostWrite (fun s =>
    if s.bridgeHalted k then s.bridgeHold k (f.dword i j) 4 (s.oneWord f i j v) else g s)

/-- The register word at offset o as it stands, of the fields of one block. -/
def State.word (s : State) (l : List Fld) (o : Nat) : Nat := wordOf (fun f i j => s.rd f i j) l o

end Sys2Proof.Machine
end

