-- ==== Sys2Proof/Machine/Triggers.lean ====
section
/-!
DEFINITION. The trigger sources that units share (R160, R184, R331): a source that fires leaves a trigger
waiting at every sequence, cadence and capture engine that selects it. ADC_TRIGGER, SAMPLE_OPEN and
CAPTURE_ENGINE_SAMPLE take them up.
-/
namespace Sys2Proof.Machine

/-- Every (core, sequence) of the 18 SAR cores. -/
def allSeqs : List (Nat × Nat) :=
  (List.range 18).flatMap (fun c => (List.range 8).map (fun q => (c, q)))

/-- Triggers at the enabled sequences whose SRC and ARG the test admits (Table 7.2). -/
def State.fireSeqs (s : State) (p : Nat → Nat → Bool) : State :=
  let hit := allSeqs.filter (fun cq =>
    s.rdB CORE.SEQCTRL_EN cq.1 cq.2 && p (s.rd CORE.SEQTRIG_SRC cq.1 cq.2)
      (s.rd CORE.SEQTRIG_ARG cq.1 cq.2))
  { s with adcTrigs := s.adcTrigs ++ hit.map (fun cq => (cq.1, cq.2, s.pw)) }

/-- Triggers, at instant t, at the cadences of the running graph whose SRC and ARG the test admits
(Table 8.2). -/
def State.fireCadsAt (s : State) (t : Nat) (p : Nat → Nat → Bool) : State :=
  let cads := match s.esp.graph with
    | some g => g.cads
    | none => []
  let hit := cads.zipIdx.filter (fun c => p c.1.src c.1.arg)
  { s with cadTrigs := s.cadTrigs ++ hit.map (fun c => (c.2, t)) }

def State.fireCads (s : State) (p : Nat → Nat → Bool) : State := s.fireCadsAt s.now p

/-- The capture of engine e that is in FILL, ARMED or POST. -/
def State.capOf (s : State) (e : Nat) : Option CapSt :=
  let v := s.rd CAP.STAT_STATE e
  if v = 0 || v = 4 then none else tgetD s.caps e none

/-- A clock event with DT dt at the engines whose latched configuration the test admits (Table 14.2). -/
def State.fireEngs (s : State) (dt : Nat) (p : CapCfg → Bool) : State :=
  let hit := (List.range 8).filter (fun e => match s.capOf e with
    | some c => p c.cfg
    | none => false)
  { s with engTrigs := s.engTrigs ++ hit.map (fun e => (e, dt)) }

/-- The START of brick k fires its sequences and cadences. -/
def State.fireStart (s : State) (k : Nat) : State :=
  (s.fireSeqs (fun src a => (src = 1 || src = 3) && bits a 0 3 = k)).fireCads
    (fun src a => src = 2 && bits a 0 3 = k && bit a 3)

/-- The tick at or before MID of brick k fires its sequences and cadences. -/
def State.fireMid (s : State) (k : Nat) : State :=
  (s.fireSeqs (fun src a => (src = 2 || src = 3) && bits a 0 3 = k)).fireCads
    (fun src a => src = 2 && bits a 0 3 = k && bit a 4)

/-- An HC edge of leg n fires its sequences. -/
def State.fireEdge (s : State) (n : Nat) (rise : Bool) : State :=
  s.fireSeqs (fun src a => src = (if rise then 4 else 5) && bits a 0 7 = n)

/-- The own START of leg n fires the cadences of kind LEG_START. -/
def State.fireOwn (s : State) (n : Nat) : State := s.fireCads (fun src a => src = 3 && bits a 0 7 = n)

end Sys2Proof.Machine
end

