-- ==== Sys2Proof/Machine/Legs.lean ====
section
/-!
DEFINITION. The outputs of a leg: what holds them off (R131), the command edges at the balls with the
blanking they start (R141), HC and its edges (R91), dead time and extreme duty (R92, R102), the interlock
(R126), pairs and their arrival (R96 to R98).
-/
namespace Sys2Proof.Machine

/-- The fixed pipeline from a compare to the ball, 12 t (Table 4.1). -/
def pipeH : Nat := 384
/-- The effective minimum pulse m (R95). -/
def State.minPulse (s : State) (n : Nat) : Nat := Nat.max (s.rd LEG.MINPW n) 2560

def State.role (s : State) (n : Nat) : Nat := s.rd LEG.ROLE n
def roleDc : Nat := 4
def roleChopper : Nat := 5
def roleSpare : Nat := 6

/-- Leg n is to run on its own period counter (R112): DC_BOOST with OWNPER. -/
def State.ownAsked (s : State) (n : Nat) : Bool := s.role n = roleDc && s.rdB LEG.CFG_OWNPER n

/-- The leg runs on its own period counter (R112). One that waits for a START of its brick runs with the brick until then. -/
def State.ownLeg (s : State) (n : Nat) : Bool := s.ownAsked n && !(s.leg n).ownWait

/-- The low side exists and may switch: LS_EN is set and the role is not CHOPPER (R92, R128). -/
def State.lowExists (s : State) (n : Nat) : Bool := s.rdB LEG.CFG_LS_EN n && s.role n ≠ roleChopper

/-- Both contactors are reported open, or taken as open in an AX9600-S (R22, R34, R390). -/
def State.contactorsOpen (s : State) : Bool :=
  if s.has 16 then s.rd SAF.STAT_DC = 1 && s.rd SAF.STAT_AC = 1 else s.dcTaken && s.acTaken

/-- The mode holds the outputs of leg n off (R34). -/
def State.modeHolds (s : State) (n : Nat) : Bool :=
  match s.mm.cur with
  | .prestart => !(decide (5 ≤ s.mm.step) && (s.leg n).sup.counted)
  | .service => !s.contactorsOpen
  | .factory => !s.contactorsOpen
  | .follow => false
  | .form => false
  | .dawn => false
  | .ride => false
  | _ => true

/-- The island's pulse inhibit, or PINH_N, is in force (R131 row 1); an island in its own reset inhibits (R382), and
a rail under test (R392). -/
def State.inhibited (s : State) : Bool :=
  s.pinhLow || (s.has 16 && (!s.saf.up || s.rdB SAF.STAT_INHIBIT || s.saf.railOn))

/-- The supervisor state keeps the leg off (R215): retired, parked or spare. -/
def LegSup.off : LegSup → Bool
  | .parked => true
  | .retired => true
  | .spare => true
  | _ => false

/-- Everything of row 6 of Table 5.5 that holds leg n off: its block, its brick, the mode, its role. -/
def State.row6 (s : State) (n : Nat) : Bool :=
  let l := s.leg n
  let k := n / 12
  l.gblock || s.rdB LEG.CTRL_HBLOCK n || l.tripHold || l.trips.any (fun t => t.2 = 1)
    || !s.rdB BRK.STATUS_RUN k || s.rdB BRK.STATUS_HALTED k || (if s.ownLeg n then l.ended else (s.brk k).ended)
    || s.rdB FLT.STAT_FATAL_HOLD || s.modeHolds n || s.role n = 0
    || (s.role n = roleSpare && !l.sup.counted) || l.sup.off || l.dcHold
    || s.rdB LEG.STATUS_TIMING_CONFLICT n

/-- The highest row of Table 5.5, 1 to 6, that holds the outputs of leg n; 0 when none does. -/
def State.holdRow (s : State) (n : Nat) : Nat :=
  let l := s.leg n
  let k := n / 12
  if s.inhibited then 1
  else if s.rd BRK.GCFG_DRV k = 0 then 2
  else if s.rdB BRK.VLED_UV k || s.halts.contains .ckPwm then 3
  else if l.trips.any (fun t => t.2 = 3) then 4
  else if l.trips.any (fun t => t.2 = 2) then 5
  else if s.row6 n then 6
  else 0

/-! ### Command edges at the ball -/

/-- The windows whose blanking follows leg n: its standard window, and the general windows bound to it
(Table 6.1, R141). -/
def State.windowsOf (s : State) (n : Nat) : List Nat :=
  n :: ((List.range 32).map (· + 192)).filter (fun w => s.rd CW.SEL_LEG w = n)

/-- A command edge of leg n reaches its ball at instant t, where it starts or restarts the blanking of its windows (R141). -/
def State.blankFrom (s : State) (n t : Nat) : State :=
  s.each ((s.windowsOf n).filter (fun w => s.rd CW.CFG_BLANK w ≠ 0)) (fun w s =>
    let c := s.cw w
    s.setCw w { c with edges := c.edges.filter (· ≤ t) ++ t :: c.edges.filter (t < ·) })

/-- The command edge that was to reach the ball at t does not: an OFF command overtakes it. -/
def State.blankDrop (s : State) (n t : Nat) : State :=
  s.each (s.windowsOf n) (fun w s =>
    let c := s.cw w
    if c.edges.contains t then s.setCw w { c with edges := c.edges.filter (· ≠ t) } else s)

/-- The output takes the OFF coding now (R118), at the ball after `pipe`; `alive` says that link-alive
pulses follow. Every scheduled turn-on of the side is cancelled. A status that is inactive already counts at once as
accepted inactive for this command (DESIGN CHOICE, log 133). -/
def State.offCmd (s : State) (n : Nat) (d : Side) (pipe : Nat) (alive : Bool) : State :=
  let v := s.side n d
  let t := s.pw + pipe
  let cut : SideSt :=
    { v with turnOn := none, waiting := false, turnOff := none, dropped := false, confirmBy := none,
             confirmed := false, lostBy := none, link := if alive then v.link else 0 }
  if v.on then
    let s := s.modSide n d (fun _ =>
      { cut with on := false, cmdAt := t, offOk := !v.lvl, stuckBy := if v.lvl then some (t + usH) else none,
                 alive := if alive then some (t + usH) else none })
    if t < v.cmdAt then s.blankDrop n v.cmdAt else s.blankFrom n t
  else if v.notch ≠ 0 then s
  else s.modSide n d (fun _ => { cut with alive := if alive then v.alive else none })

/-- A running notch is cut (rows 1 and 4 of Table 5.5); in its gap no edge follows. -/
def State.cutNotch (s : State) (n : Nat) (d : Side) (alive : Bool) : State :=
  let v := s.side n d
  if v.notch = 0 then s
  else
    (s.modSide n d (fun v =>
      { v with notch := 0, cmdAt := s.pw, offOk := !v.lvl, stuckBy := if v.lvl then some (s.pw + usH) else none,
               alive := if alive then some (s.pw + usH) else none })).when (v.notch = 1) (·.blankFrom n s.pw)

/-- The command has the output active at its ball at instant t: a command reaches the ball 12 t after its compare (Table
4.1). -/
def SideSt.lit (v : SideSt) (t : Nat) : Bool := decide (v.onAt ≤ t) && (v.on || decide (t < v.cmdAt))

/-- The command of the side is OFF at the ball from now on, without link-alive pulses; an OFF edge still on its way is
overtaken. -/
def State.darkNow (s : State) (n : Nat) (d : Side) : State :=
  let v := s.side n d
  if v.on then s.offCmd n d 0 false
  else
    ((s.modSide n d (fun v => { v with cmdAt := s.pw, alive := none })).blankDrop n v.cmdAt).blankFrom n s.pw

/-- SOFT_OFF at one output (R118, R120, Table 5.5): the notch when the output is active at its ball and NOTCH = 1, else
OFF; an ON command that has not reached the ball is overtaken. -/
def State.softOff (s : State) (n : Nat) (d : Side) : State :=
  let v := s.side n d
  if v.notch ≠ 0 then s
  else if v.lit s.pw && s.rdB BRK.GCFG_NOTCH (n / 12) then
    (s.darkNow n d).modSide n d (fun v => { v with notch := 2, notchAt := s.pw, stuckBy := none })
  else s.offCmd n d 0 true

/-- A Trellis signalling pulse of leg n is under way, which nothing but the role and the mode could hold (R289); the FATAL
hold ends it (R373). -/
def State.sigLive (s : State) (n : Nat) : Bool :=
  !(s.leg n).gblock && !s.rdB FLT.STAT_FATAL_HOLD && !s.rdB LEG.CTRL_HBLOCK n && !s.rdB BRK.STATUS_HALTED (n / 12)
    && (match (s.leg n).sigPulse with
      | some e => decide (s.pw < e)
      | none => false)

/-- While leg n is held or under a Shears action, its period is not one in which it was switching throughout (R226). -/
def State.notSwitching (s : State) (n : Nat) : State :=
  let p := tgetD s.phgLegs n {}
  if p.switched && (decide (s.holdRow n ≠ 0) || !(s.leg n).trips.isEmpty) then
    { s with phgLegs := tput s.phgLegs n { p with switched := false } {} }
  else s

/-- A Shears action or a gate-link block stands on leg n (R263). -/
def State.actedOn (s : State) (n : Nat) : Bool :=
  let l := s.leg n
  !l.trips.isEmpty || l.tripHold || l.gblock || s.rdB LEG.CTRL_HBLOCK n

/-- An action or a block that stands on a leg of the DC stage is kept for its next START (R263). -/
def State.noteHit (s : State) (n : Nat) : State :=
  if s.role n = roleDc && s.actedOn n && !(s.leg n).hit then s.modLeg n (fun l => { l with hit := true }) else s

/-- The outputs of leg n take what the present hold asks (R131, R132), and a low side that exists no longer takes the OFF
coding (R92). -/
def State.applyHold (s : State) (n : Nat) : State :=
  let s := (s.notSwitching n).noteHit n
  let l := s.leg n
  let busy := l.high.on || l.low.on || l.high.turnOn.isSome || l.low.turnOn.isSome || l.high.notch ≠ 0
    || l.low.notch ≠ 0 || l.refresh.isSome
  let lit := l.high.alive.isSome || l.low.alive.isSome
  if !busy && !lit then s
  else
    let r := s.holdRow n
    let both (f : State → Side → State) (s : State) : State := f (f s .high) .low
    if r = 0 then s.when ((l.low.on || l.low.turnOn.isSome) && !s.lowExists n) (·.offCmd n .low 0 true)
    else if 3 < r && !busy then s
    else
      let s := s.modLeg n (fun l => { l with refresh := none })
      if r = 1 || r = 2 || r = 3 then
        both (fun s d => ((s.cutNotch n d false).offCmd n d 0 false)) s
      else if r = 4 then both (fun s d => ((s.cutNotch n d true).offCmd n d 0 true)) s
      else if r = 5 then both (fun s d => s.softOff n d) s
      else if s.sigLive n then s.offCmd n .high 0 true
      else both (fun s d => s.offCmd n d 0 true) s

/-- Every leg takes what its present hold asks. -/
def State.applyHolds (s : State) : State := s.each (s.legs.map (·.1)) (fun n s => s.applyHold n)

/-- The legs of a brick take what their present hold asks. -/
def State.applyBrick (s : State) (k : Nat) : State := s.each (legsOf k) (fun n s => s.applyHold n)

/-! ### HC (R91) -/

/-- The period in force of leg n and the START point it is counted from. -/
def State.legPeriod (s : State) (n : Nat) : Nat :=
  if s.ownLeg n then (s.leg n).ownPer else s.rd BRK.PERIOD_NOW (n / 12)
def State.legStart (s : State) (n : Nat) : Nat :=
  if s.ownLeg n then (s.leg n).ownStart else (s.brk (n / 12)).start
/-- The instant of State.now of the latest START of leg n. -/
def State.legStartAt (s : State) (n : Nat) : Nat :=
  if s.ownLeg n then (s.leg n).ownLast else (s.brk (n / 12)).startAt
def State.legRuns (s : State) (n : Nat) : Bool :=
  if s.ownLeg n then (s.leg n).ownRun else s.rdB BRK.STATUS_RUN (n / 12)

/-- HC of leg n neither stays low nor high for the whole period. -/
def State.pairSwitches (s : State) (n : Nat) : Bool :=
  let on := s.rd LEG.ACTIVE_ON n
  let off := s.rd LEG.ACTIVE_OFF n
  let p := s.legPeriod n
  decide (on < p) && decide (off < p) && decide (on ≠ off)

/-- A pair of 0 % or 100 % duty that a MID loads ends a switching period as well (R226). -/
def State.midPair (s : State) (n : Nat) : State :=
  let p := tgetD s.phgLegs n {}
  if p.switched && !s.pairSwitches n then { s with phgLegs := tput s.phgLegs n { p with switched := false } {} } else s

/-- A compare rotated by the offset; none where it never fires (R91). -/
def rotated (c ofs p : Nat) : Option Nat := if c < p then some ((c + ofs) % p) else none

/-- The ON compare in force, or the OFF compare. -/
def State.compareOf (s : State) (n : Nat) (rise : Bool) : Nat :=
  if rise then s.rd LEG.ACTIVE_ON n else s.rd LEG.ACTIVE_OFF n

/-- Where a compare of leg n fires in this period (R91). In the period of a phase step, one that the step carries back
over START fires where it would have without the step as well, and one that it carries on over START waits for the next
period: no interval changes by more than the shift (R104; DEDUCED, log 132). -/
def State.compares (s : State) (n : Nat) (rise : Bool) : List Nat :=
  let l := s.leg n
  let p := s.legPeriod n
  match rotated (s.compareOf n rise) l.ofs p, rotated (s.compareOf n rise) l.ofsWas p with
  | some new, some old =>
    if l.ofs = l.ofsWas then [new]
    else if (l.ofs + p - l.ofsWas) % p ≤ p / 2 then (if new < old then [] else [new])
    else if old < new then [old, new] else [new]
  | _, _ => []

/-- The earlier of two HC edges; on the same h the fall wins (R91). -/
def earlierEdge (a b : Nat × Bool) : Nat × Bool := if a.1 < b.1 || (a.1 = b.1 && !a.2) then a else b

/-- The first of some edges at or after position pos. -/
def nextEdgeOf (l : List (Nat × Bool)) (pos : Nat) : Option (Nat × Bool) :=
  match l.filter (fun e => decide (pos ≤ e.1)) with
  | [] => none
  | e :: es => some (es.foldl earlierEdge e)

/-- The next HC edge of this period: its position and whether it is a rise. -/
def State.nextEdge (s : State) (n : Nat) : Option (Nat × Bool) :=
  if s.legRuns n then
    nextEdgeOf ((s.compares n true).map (·, true) ++ (s.compares n false).map (·, false)) (s.leg n).pos
  else none

/-- The instant of the next compare of a kind after instant t, in this period or the two that follow. -/
def State.nextCompare (s : State) (n : Nat) (rise : Bool) (t : Nat) : Option Nat :=
  let p := s.legPeriod n
  let later := match rotated (s.compareOf n rise) (s.leg n).ofs p with
    | some o => [p + o, 2 * p + o]
    | none => []
  ((s.compares n rise ++ later).map (s.legStart n + ·)).find? (t < ·)

/-- HC falls next at this instant, rises next at this instant. -/
def State.nextFall (s : State) (n t : Nat) : Option Nat := s.nextCompare n false t
def State.nextRise (s : State) (n t : Nat) : Option Nat := s.nextCompare n true t

/-- Where a pulse of the side that begins at t must end: the HC edge of the other kind. -/
def State.pulseEnd (s : State) (n : Nat) (d : Side) (t : Nat) : Option Nat :=
  match (s.side n d).turnOff with
  | some e => some e
  | none => match d with
    | .high => s.nextFall n t
    | .low => s.nextRise n t

/-- Less than m would remain of a pulse that begins at t and ends at e (R102, R126). -/
def tooShort (m t : Nat) (e : Option Nat) : Bool :=
  match e with
  | some e => e < t + m
  | none => false

/-! ### Turning on (R92, R121, R126) -/

/-- The output turns on now (R118); its status must confirm within T_CONF = 1.5 µs (R124). -/
def State.onCmd (s : State) (n : Nat) (d : Side) (pipe : Nat) : State :=
  let t := s.pw + pipe
  (s.modSide n d (fun v =>
    { v with on := true, cmdAt := t, onAt := t, turnOn := none, waiting := false, alive := none,
             notch := 0, stuckBy := none, confirmed := v.lvl, lostBy := none, pulseAt := none,
             confirmBy := if v.lvl then none else some (t + 19200) })).blankFrom n t

/-- Only the high side is held: the DC stage keeps its rectifier off (Table 11.1). The low side does not
exist with LS_EN = 0 and in a CHOPPER. -/
def State.sideHeld (s : State) (n : Nat) (d : Side) : Bool :=
  match d with
  | .high => (s.leg n).ghHold
  | .low => !s.lowExists n

/-- The opposite switch takes part in the interlock (R128). -/
def State.oppExists (s : State) (n : Nat) (d : Side) : Bool :=
  match d with
  | .high => s.lowExists n && !(s.role n = 0) && !(s.role n = roleSpare && !(s.leg n).sup.counted)
  | .low => s.role n ≠ roleChopper && s.rdB LEG.CFG_LS_EN n

/-- The opposite switch is confirmed off: its command is OFF and its status has been accepted as inactive since (R126). -/
def State.oppOff (s : State) (n : Nat) (d : Side) : Bool :=
  !s.oppExists n d || (!(s.side n d.other).on && (s.side n d.other).notch = 0
    && (s.side n d.other).offOk)

/-- A hold keeps the output from turning on: any row of Table 5.5 from 1 to 6, a signalling pulse of the low side aside
(R289), or what holds the side alone. -/
def State.outHeld (s : State) (n : Nat) (d : Side) : Bool :=
  let r := s.holdRow n
  (r ≠ 0 && !(r = 6 && decide (d = .low) && s.sigLive n)) || s.sideHeld n d

/-- The earliest turn-on that the minimum off interval allows: 400 ns after the output's own turn-off edge
when NOTCH = 1 (R121). -/
def State.offLimit (s : State) (n : Nat) (d : Side) : Nat :=
  if s.rdB BRK.GCFG_NOTCH (n / 12) && (s.side n d).cmdAt ≠ 0 then (s.side n d).cmdAt + 5120 - pipeH else 0

/-- The dead time before a turn-on of the side (R92). A CHOPPER has none (Table 4.12). -/
def State.deadTime (s : State) (n : Nat) (d : Side) : Nat :=
  if s.role n = roleChopper then 0
  else match d with
    | .high => s.rd LEG.DT_RISE n
    | .low => s.rd LEG.DT_FALL n

/-- The scheduled turn-on of a side is cancelled. -/
def State.dropOn (s : State) (n : Nat) (d : Side) : State :=
  s.modSide n d (fun v => { v with turnOn := none, waiting := false, turnOff := none })

/-- A refresh that waits for the opposite switch d ends without it: the switch it interrupted follows after its dead time
(R130; DESIGN CHOICE, log 133). -/
def State.refreshSkip (s : State) (n : Nat) (d : Side) : State :=
  match (s.leg n).refresh with
  | some r =>
    if r.side ≠ d && r.until_.isNone then
      (s.modLeg n (fun l => { l with refresh := none })).modSide n r.side (fun v =>
        { v with turnOn := some (s.pw + s.deadTime n r.side) })
    else s
  | none => s

/-- A turn-on is cancelled because less than m would remain: seen as a drop (R126). -/
def State.cancelOn (s : State) (n : Nat) (d : Side) : State :=
  ((s.dropOn n d).refreshSkip n d).wrB LEG.STATUS_EXT_SEEN true n

/-- A turn-on falls due now: it happens, is delayed by the minimum off interval or the interlock and counted
once, or is cancelled (R121, R126, R131). -/
def State.tryOn (s : State) (n : Nat) (d : Side) : State :=
  let v := s.side n d
  if v.turnOn.isNone then s
  else if s.outHeld n d then s.dropOn n d
  else if s.pw < s.offLimit n d then
    (s.when (!v.waiting) (·.count LEG.DELAY_CNT n)).modSide n d (fun v =>
      { v with turnOn := some (s.offLimit n d), waiting := true })
  else if !s.oppOff n d then
    (s.when (!v.waiting) (·.count LEG.DELAY_CNT n)).modSide n d (fun v => { v with waiting := true })
  else if v.waiting && tooShort (s.minPulse n) s.pw (s.pulseEnd n d s.pw) then s.cancelOn n d
  else s.onCmd n d pipeH

/-- Schedule a turn-on of the side at t, and let it act at once when t has come; an output that a refresh
has on stays on. -/
def State.schedOn (s : State) (n : Nat) (d : Side) (t : Nat) (off : Option Nat) : State :=
  if (s.side n d).on then s.modSide n d (fun v => { v with turnOff := off, dropped := false })
  else
    let s := s.modSide n d (fun v =>
      { v with turnOn := some t, waiting := false, turnOff := off, dropped := false })
    if t ≤ s.pw then s.tryOn n d else s

/-! ### HC edges (R92, R102) -/

def State.drops (s : State) (n : Nat) : Bool := !s.rdB LEG.CFG_EXTREME n

/-- The pulse of a side ends at its HC edge: a turn-on that still waits is cancelled, which counts as a drop (R126). -/
def State.endPulse (s : State) (n : Nat) (d : Side) : State :=
  (s.when (s.side n d).waiting (·.wrB LEG.STATUS_EXT_SEEN true n)).offCmd n d pipeH true

/-- HC rises now on a leg whose outputs are not held: the GH pulse is evaluated (R102). -/
def State.hcRise (s : State) (n : Nat) : State :=
  let l := s.leg n
  let m := s.minPulse n
  let low := s.lowExists n
  if l.low.dropped then s.modSide n .low (fun v => { v with dropped := false })
  else
    let glEnd := match l.low.turnOff with
      | some e => if s.pw < e && (l.low.on || l.low.turnOn.isSome || !low) then e else s.pw
      | none => s.pw
    let ghOn := glEnd + s.deadTime n .high
    let short := tooShort m ghOn (s.nextFall n s.pw)
    if short && s.drops n then
      (s.modSide n .high (fun v => { v with dropped := true })).wrB LEG.STATUS_EXT_SEEN true n
    else
      let s := if glEnd = s.pw then s.endPulse n .low else s
      let s := s.when short (·.wrB LEG.STATUS_EXT_SEEN true n)
      s.schedOn n .high ghOn (if short then some (ghOn + m) else none)

/-- HC falls now on a leg whose outputs are not held: the GL pulse, or the gap of a CHOPPER, is evaluated
(R102, Table 4.12). -/
def State.hcFall (s : State) (n : Nat) : State :=
  let l := s.leg n
  let m := s.minPulse n
  let chop := decide (s.role n = roleChopper)
  if l.high.dropped then s.modSide n .high (fun v => { v with dropped := false })
  else
    let ghOff := match l.high.turnOff with
      | some e => if s.pw < e then e else s.pw
      | none => s.pw
    let glOn := ghOff + s.deadTime n .low
    let judged := s.lowExists n || chop
    let short := judged && tooShort m glOn (s.nextRise n s.pw)
    if short && s.drops n then
      (s.modSide n .low (fun v => { v with dropped := true })).wrB LEG.STATUS_EXT_SEEN true n
    else
      let s := if ghOff = s.pw then s.endPulse n .high else s
      let s := s.when short (·.wrB LEG.STATUS_EXT_SEEN true n)
      if s.lowExists n then s.schedOn n .low glOn (if short then some (glOn + m) else none)
      else if chop then
        s.modSide n .low (fun v => { v with turnOff := if short then some (ghOff + m) else none })
      else s

/-- The HC edge at the next compare of this period (R91). -/
def State.hcEdge (s : State) (n : Nat) : State :=
  match s.nextEdge n with
  | none => s
  | some (p, rise) =>
    let s := (s.toPw (s.legStart n + p)).modLeg n (fun l => { l with pos := p + 1 })
    if s.rdB LEG.STATUS_HC n = rise then s
    else
      let s := (s.wrB LEG.STATUS_HC rise n).fireEdge n rise
      let s := s.when (s.leg n).refresh.isSome (·.modLeg n (fun l => { l with refresh := none }))
      if s.holdRow n ≠ 0 then s else if rise then s.hcRise n else s.hcFall n

/-- The edges of a leg that still lie before position lim of its period, up to `fuel` of them. -/
def State.edgesTo (s : State) (n lim : Nat) : Nat → State
  | 0 => s
  | fuel + 1 =>
    match s.nextEdge n with
    | some (p, _) => if p < lim then (s.hcEdge n).edgesTo n lim fuel else s
    | none => s

/-- What the old pair has still to fire before a reload at position lim: a reload takes place at the tick edge, and the
edges between there and the reload point keep their places (R89). The reload itself stays at the tick edge. -/
def State.oldEdges (s : State) (n lim : Nat) : State := { s.edgesTo n lim 5 with now := s.now, pw := s.pw, dt := s.dt }

/-- An output that HC asks for, of a leg that begins to switch, is scheduled and its pulse evaluated (R102). -/
def State.startPulse (s : State) (n : Nat) (d : Side) : State :=
  let m := s.minPulse n
  let t := s.pw + s.deadTime n d
  let short := tooShort m t (match d with
    | .high => s.nextFall n s.pw
    | .low => s.nextRise n s.pw)
  let s := (s.offCmd n d.other pipeH true).when short (·.wrB LEG.STATUS_EXT_SEEN true n)
  if short && s.drops n then s else s.schedOn n d t (if short then some (t + m) else none)

/-- At a START, an output that HC asks for and that is neither on nor scheduled is scheduled afresh: the leg
switches from the pair in force (R135, R150). -/
def State.resync (s : State) (n : Nat) : State :=
  let l := s.leg n
  if s.holdRow n ≠ 0 || l.refresh.isSome || l.high.dropped || l.low.dropped then s
  else
    let d : Side := if s.rdB LEG.STATUS_HC n then .high else .low
    if (decide (d = .low) && !s.lowExists n) || (s.side n d).on || (s.side n d).turnOn.isSome then s
    else s.startPulse n d

/-! ### Reloading (R97) and STANDBY -/

/-- The reload of leg n: the locked pair becomes the active pair, a held pair becomes the pending pair, and
the guard closes (R97). -/
def State.reloadPair (s : State) (n : Nat) : State :=
  let l := s.leg n
  let s := s.when l.locked (fun s =>
    ((((s.wr LEG.ACTIVE_ON (s.rd LEG.PENDING_ON n) n).wr LEG.ACTIVE_OFF (s.rd LEG.PENDING_OFF n) n).wrB
      LEG.STATUS_SRC (l.pendSrc ≠ .host) n).wrB LEG.PENDING_VALID false n).modLeg n (fun l =>
      { l with dcLive := decide (l.pendSrc = .dc) }))
  let s := s.modLeg n (fun l => { l with locked := false, guard := false, held := none })
  match l.held with
  | none => s
  | some p =>
    ((((s.modLeg n (fun l => { l with pendSrc := p.src })).wr LEG.PENDING_ON p.on n).wr
      LEG.PENDING_OFF p.off n).wrB LEG.PENDING_VALID true n).wrB LEG.STATUS_HELD false n

/-- The leg discards its pending and held pairs and takes the zero-duty pair; deferrals, LATE, blocks of the
gate link and conflicts clear; HBLOCK, the staged pair and the counters stay (Table 2.7, R114). The zero-duty pair reads
as the host's in STATUS.SRC (DESIGN CHOICE, log 132). -/
def State.standbyLeg (s : State) (n : Nat) : State :=
  let s := s.modLeg n (fun l => { l with locked := false, held := none, gblock := false })
  s.each [LEG.PENDING_VALID, LEG.PENDING_ON, LEG.PENDING_OFF, LEG.ACTIVE_ON, LEG.ACTIVE_OFF,
    LEG.STATUS_HELD, LEG.STATUS_DEFERRED, LEG.STATUS_LATE, LEG.STATUS_TIMING_CONFLICT, LEG.STATUS_SRC]
    (fun f s => s.wr f 0 n)

/-! ### Reload points (R89, R97, R101) -/

/-- The tick edge at or before an instant. -/
def tickOf (t : Nat) : Nat := t / 32 * 32

/-- The coming reload of brick k is a MID reload. -/
def State.reloadMid (s : State) (k : Nat) : Bool := (s.brk k).midNext && s.rdB BRK.STATUS_DBL_ACTIVE k

/-- The coming reload point of brick k, in h. -/
def State.reloadPoint (s : State) (k : Nat) : Nat :=
  if s.reloadMid k then (s.brk k).start + s.rd BRK.PERIOD_NOW k / 2
  else (s.brk k).start + s.rd BRK.PERIOD_NOW k

/-- The number of the coming reload of brick k: 2p at START of period p, 2p + 1 at MID. -/
def State.nextReload (s : State) (k : Nat) : Nat :=
  if s.reloadMid k then 2 * s.rd BRK.PCOUNT k + 1 else 2 * s.rd BRK.PCOUNT k + 2

/-- Double update in force for a period of length p with DBL = d (R101). -/
def dblFor (d : Bool) (p : Nat) : Bool := d && 128000 ≤ p

/-- The reload after the coming one, as the fixed reload points give it (R101, R113). -/
def State.reloadAfter (s : State) (k : Nat) : Nat :=
  let p := s.rd BRK.PCOUNT k
  if s.reloadMid k then 2 * p + 2
  else
    let d := if (s.brk k).guard then (s.brk k).dbl
      else dblFor (s.rdB BRK.CFG k) (s.rd BRK.PERIOD k)
    if d then 2 * p + 3 else 2 * p + 4

/-- The reload number at which a pair that has just arrived comes into force, low 32 bits; 0xFFFF_FFFF while
the leg's counter is not running (R113). -/
def State.forceAt (s : State) (n : Nat) (held : Bool) : Nat :=
  if !s.legRuns n then max32
  else if s.ownLeg n then (2 * (s.leg n).ownNum + (if held then 4 else 2)) % 2 ^ 32
  else (if held then s.reloadAfter (n / 12) else s.nextReload (n / 12)) % 2 ^ 32

/-- Late reloads are not counted: outputs held by mode, a halt, a role or supervisor state without counting
(R34, R99, R108, R112, R215). -/
def State.lateOff (s : State) (n : Nat) : Bool :=
  s.modeHolds n || !s.halts.isEmpty || s.role n = 0 || (s.leg n).sup.off

/-- The guard of a spare's brick opens: the insertion that is next sees whether the spare's PHASE_WALK is clear (R230). -/
def State.guardSpare (s : State) (n : Nat) : State :=
  s.each (List.range 3) (fun g s =>
    let p := tgetD s.phgs g {}
    match p.waiting with
    | i :: rest =>
      if i.spare = n then
        let i := { i with clear := !s.rdB LEG.STATUS_PHASE_WALK n }
        { s with phgs := tput s.phgs g { p with waiting := i :: rest } {} }
      else s
    | [] => s)

/-- The guard of leg n opens before reload number num: the pending pair is locked, TARGET and a supervisor
command are read, lateness is judged (R97, R99, R104, R216). `start` says that the reload is a START. -/
def State.openGuard (s : State) (n num : Nat) (start loads : Bool) : State :=
  let l := s.leg n
  let k := s.rd LEG.CFG_EXPECT n
  let due := k ≠ 0 && num % k = 0
  let late := due && !l.seen && !s.lateOff n
  let s := s.when start (·.guardSpare n)
  let s := s.modLeg n (fun l =>
    { l with
      guard := true
      locked := loads && s.rdB LEG.PENDING_VALID n
      seen := if due then false else l.seen
      tgt := if start then s.rd LEG.PHASE n else l.tgt
      supLock := if start then l.supNext else l.supLock
      supNext := if start then none else l.supNext })
  if !late then s
  else
    let post := !s.rdB LEG.STATUS_LATE n
    let s := (s.count LEG.LATE_CNT n).wrB LEG.STATUS_LATE true n
    s.when post (fun s =>
      (s.post 0x40 [(1, 1, n), (8, 4, s.rd LEG.LATE_CNT n), (12, 4, num)]).fltOccur fsLegLate n)

/-- The legs of brick k that reload with it. -/
def State.brickLegs (s : State) (k : Nat) : List Nat := (legsOf k).filter (fun n => !s.ownLeg n)

/-- Halted bricks, and bricks that finish for a halt, load no pair (Table 4.11). -/
def State.brickLoads (s : State) (k : Nat) : Bool := !s.rdB BRK.STATUS_HALTED k && !(s.brk k).finish

/-- The guard of the coming reload of brick k opens; before a START it reads PERIOD and DBL (R100, R101). -/
def State.openBrickGuard (s : State) (k : Nat) : State :=
  let mid := s.reloadMid k
  let num := s.nextReload k
  let s := s.modBrk k (fun b =>
    if mid then { b with guard := true }
    else
      { b with guard := true, per := s.rd BRK.PERIOD k,
               dbl := dblFor (s.rdB BRK.CFG k) (s.rd BRK.PERIOD k),
               short := s.rdB BRK.CFG k && s.rd BRK.PERIOD k < 128000 })
  s.each (s.brickLegs k) (fun n s => s.openGuard n num (!mid) (s.brickLoads k))

/-- The guard of the own-period leg n opens before its coming START (R97, R100, R112). -/
def State.openOwnGuard (s : State) (n : Nat) : State :=
  (s.modLeg n (fun l => { l with ownNext := s.rd LEG.LPERIOD n })).openGuard n (2 * (s.leg n).ownNum + 2) true
    (s.brickLoads (n / 12))

/-! ### Pairs (R96 to R98) -/

/-- The guard of the coming reload of leg n opens in this tick or has been due since: the tick in which it opens counts as
inside it (R98). -/
def State.guardDue (s : State) (n : Nat) : Bool :=
  !(s.leg n).guard && s.legRuns n
    && (if s.ownLeg n then decide (tickOf ((s.leg n).ownStart + (s.leg n).ownPer) ≤ s.pw + 2048)
      else !(s.brk (n / 12)).guard && decide (tickOf (s.reloadPoint (n / 12)) ≤ s.pw + 2048))

/-- A guard that is due opens before a pair that arrives in its tick. -/
def State.guardNow (s : State) (n : Nat) : State :=
  if !s.guardDue n then s else if s.ownLeg n then s.openOwnGuard n else s.openBrickGuard (n / 12)

/-- A pair of Espalier arrives in the tick of a host pair, which replaces it whatever their order (R21). -/
def State.beaten (s : State) (n : Nat) (p : Pair) : Bool :=
  decide (p.src = .esp) && decide ((s.leg n).hostTick = some (s.pw / 32))

/-- A whole pair becomes the pending pair, or is held while the guard is open (R97). Answers whether it was held. -/
def State.placePair (s : State) (n : Nat) (p : Pair) : State × Bool :=
  if (s.leg n).guard then
    (((((s.modLeg n (fun l => if s.beaten n p then l else { l with held := some p })).wrB LEG.STATUS_DEFERRED true
      n).wrB LEG.STATUS_HELD true n).count LEG.DEFER_CNT n), true)
  else if s.beaten n p then (s, false)
  else
    (((((s.modLeg n (fun l => { l with pendSrc := p.src })).wr LEG.PENDING_ON p.on n).wr
      LEG.PENDING_OFF p.off n).wrB LEG.PENDING_VALID true n), false)

/-- A whole pair arrives at the leg timing unit (R96 to R99). The DC stage's pairs aside, a leg it has keeps the latest for
later (R267). -/
def State.arrivePair (s : State) (n : Nat) (p : Pair) : State × Bool :=
  let s := s.guardNow n
  let s := s.when (p.src = .esp) (·.modLeg n (fun l => { l with seen := true }))
  let r := if (s.leg n).dcOwn && p.src ≠ .dc then
      (s.modLeg n (fun l => if s.beaten n p then l else { l with graphPair := some p }), false)
    else s.placePair n p
  (r.1.when (p.src = .host) (fun t => t.modLeg n (fun l => { l with hostTick := some (s.pw / 32) })), r.2)

/-- A host pair is staged in CMP_ON and CMP_OFF and arrives (R96). -/
def State.hostPair (s : State) (n on off : Nat) : State × Bool :=
  ((s.wr LEG.CMP_ON on n).wr LEG.CMP_OFF off n).arrivePair n
    ⟨on % 2 ^ 24, off % 2 ^ 24, .host⟩

end Sys2Proof.Machine
end

