-- ==== Sys2Proof/Machine/Shears.lean ====
section
/-!
DEFINITION. The comparator windows (R137 to R147) and the Shears trip groups (R148 to R156). An input level
is a number of 1/256 codes above the bottom of the input's span.
-/
namespace Sys2Proof.Machine

/-! ### Windows -/

def isHard (w : Nat) : Bool := 96 ≤ w && w < 192

/-- The leg of a window: its own, or the one a general window is bound to (Table 6.1). -/
def State.winLeg (s : State) (w : Nat) : Option Nat :=
  if w < 192 then some (w % 96) else if s.rd CW.SEL_LEG w < 96 then some (s.rd CW.SEL_LEG w) else none

/-- Filter length M and K_eff (R140). -/
def State.winM (s : State) (w : Nat) : Nat := Nat.max 1 (s.rd CW.CFG_M w)

def State.winK (s : State) (w : Nat) : Nat :=
  let m := s.winM w
  let k := s.rd CW.CFG_K w
  if k = 0 then (m + 1) / 2 else Nat.min k m

/-- The deviation of a window's thresholds from their codes, at most 4 codes (R138). -/
def State.winError (s : State) (w : Nat) : Int :=
  clampI (-1024) 1024 (Config.thresholdError w + (s.cw w).trim)

/-- A DAC on its way stands at some code between the one it had reached and the new one until 1 µs has
passed (R139); else at the code. Answers the code and what is left of the move. -/
def State.dacAt (s : State) (move : Option (Nat × Nat)) (code : Nat) : Nat × Option (Nat × Nat) :=
  match move with
  | none => (code, none)
  | some (c, t) =>
    if t + usH ≤ s.now then (code, none)
    else
      let lo := Nat.min c code
      let m := lo + s.freeVal % (Nat.max c code - lo + 1)
      (m, some (m, t))

/-- The two comparators of a window see a level (R138): HIGH with its hysteresis, LOW with its. -/
def State.compare (s : State) (w : Nat) (x : Int) : State :=
  let c := s.cw w
  let h := s.dacAt c.moveHi (s.rd CW.THR_HIGH w)
  let s := s.when c.moveHi.isSome (·.useFree)
  let l := s.dacAt c.moveLo (s.rd CW.THR_LOW w)
  let s := s.when c.moveLo.isSome (·.useFree)
  let e := s.winError w
  let hys : Int := 256 * s.rd CW.CFG_HYST w
  let hi : Int := 256 * h.1 + e
  let lo : Int := 256 * l.1 + e
  s.setCw w { c with
    moveHi := h.2
    moveLo := l.2
    rawHi := s.rdB CW.CFG_EN_HI w && (if c.rawHi then decide (hi - hys ≤ x) else decide (hi < x))
    rawLo := s.rdB CW.CFG_EN_LO w && (if c.rawLo then decide (x ≤ lo + hys) else decide (x < lo)) }

/-- How many of the low m bits are set. -/
def popLow (v m : Nat) : Nat := (onesOf v m).length

/-- A sample of the majority filter (R140). -/
def State.winSample (s : State) (w : Nat) (x : Int) : State :=
  let s := s.compare w x
  let c := s.cw w
  let m := s.winM w
  let push (h : Nat) (b : Bool) : Nat := (2 * h + b2n b) % 2 ^ 15
  let hist := push c.hist (c.rawHi || c.rawLo)
  s.setCw w { c with
    hist := hist
    histHi := push c.histHi c.rawHi
    histLo := push c.histLo c.rawLo
    out := s.winK w ≤ popLow hist m }

/-- The fault source and cause a latched window raises (Table 16.1). -/
def State.winCause (s : State) (w : Nat) : Nat × Nat :=
  match s.winLeg w with
  | some n => (n, if w < 96 then 0x20 else if w < 192 then 0x21 else 0x22)
  | none => (fsGenwin, w - 192)

/-- A general window bound to leg n is latched. -/
def State.boundLatched (s : State) (n : Nat) : Bool :=
  ((List.range 32).map (· + 192)).any (fun w => s.rdB CW.STAT_LATCH w && s.rd CW.SEL_LEG w = n)

/-- The cause of window w follows its latch; the general windows bound to one leg share a cause. -/
def State.winFault (s : State) (w : Nat) : State :=
  let c := s.winCause w
  let on := if c.2 = 0x22 && w ≥ 192 && c.1 < 96 then s.boundLatched c.1 else s.rdB CW.STAT_LATCH w
  s.fltLevel c.1 c.2 on

/-- The latch of window w sets (R144); HI_SEEN and LO_SEEN show the thresholds that made the condition. -/
def State.winLatch (s : State) (w : Nat) : State :=
  if s.rdB CW.STAT_LATCH w then s
  else
    let c := s.cw w
    let m := s.winM w
    let hi := if isHard w then c.rawHi else popLow c.histHi m ≠ 0
    let lo := if isHard w then c.rawLo else popLow c.histLo m ≠ 0
    (((((s.setCw w { c with latchAt := some s.pw }).wrB CW.STAT_LATCH true w).wrB CW.STAT_HI_SEEN hi
      w).wrB CW.STAT_LO_SEEN lo w).wr CW.LATCH_DT s.dtNs w).winFault w

/-- The latch of window w clears with HI_SEEN and LO_SEEN. -/
def State.winUnlatch (s : State) (w : Nat) : State :=
  (((s.wrB CW.STAT_LATCH false w).wrB CW.STAT_HI_SEEN false w).wrB CW.STAT_LO_SEEN false w).winFault w

/-- The latch was set in this very tick. -/
def State.latchedNow (s : State) (w : Nat) : Bool :=
  match (s.cw w).latchAt with
  | some t => t / 32 = s.pw / 32
  | none => false

/-- A period clear of window w (R144, R145). -/
def State.winPeriod (s : State) (w : Nat) : State :=
  if s.rdB CW.CFG_CLR w && s.rdB CW.STAT_LATCH w && !(s.cw w).out && !s.latchedNow w then s.winUnlatch w
  else s

/-- A software clear of window w: refused while the condition is active (R145). -/
def State.winClear (s : State) (w : Nat) : State :=
  if !s.rdB CW.STAT_LATCH w then s
  else if (s.cw w).out then s.wrB CW.STAT_CLEAR_REFUSED true w
  else if s.latchedNow w then s
  else s.winUnlatch w

/-- The windows whose period clear follows the START of leg n. -/
def State.periodWindows (s : State) (n : Nat) : List Nat :=
  n :: (n + 96) :: ((List.range 32).map (· + 192)).filter (fun w => s.rd CW.SEL_LEG w = n)

/-- The general windows bound to no leg, which follow B0. -/
def State.freeWindows (s : State) : List Nat :=
  ((List.range 32).map (· + 192)).filter (fun w => 96 ≤ s.rd CW.SEL_LEG w)

/-! ### The sources of a group (R148) -/

/-- The GSTAT bits, of the two sides, of STYPE bit i. -/
def stypeBits : Nat → List (Nat × Nat)
  | 0 => [(0, 0), (8, 128)]
  | 1 => [(1, 0), (9, 128)]
  | 2 => [(2, 0), (10, 128)]
  | 3 => [(4, 0), (12, 128)]
  | 4 => [(3, 0), (11, 128)]
  | 5 => [(5, 0), (13, 128)]
  | 6 => [(16, 0)]
  | 7 => [(17, 0)]
  | _ => []

/-- GSTAT of leg n as one word (Table 5.11). -/
def State.gstat (s : State) (n : Nat) : Nat :=
  s.rd LEG.GSTAT_L n + s.rd LEG.GSTAT_H n * 2 ^ 8 + s.rd LEG.GSTAT_INTLK_TMO n * 2 ^ 16
    + s.rd LEG.GSTAT_VLED_UV n * 2 ^ 17

/-- The host watchdog has expired and has not been kicked since (R42). -/
def State.hostExpired (s : State) : Bool := !s.mm.kicked

/-- A source promoted to class c is active (R365). A source that was promoted under another CLASS counts for the one that
SRC.CFG.CLASS gives it now (DESIGN CHOICE, log 148). -/
def State.classActive (s : State) (c : Nat) : Bool :=
  (List.range 203).any (fun i => s.rdB SRC.STAT_ACTIVE i && s.rd SRC.CFG_CLASS i = c)

/-- The asserted sources of group g, lowest KIND and INDEX first, as 2¹⁶ · KIND + INDEX. -/
def State.groupSources (s : State) (g : Nat) : List Nat :=
  let wins := (List.range 7).flatMap (fun i =>
    ((onesOf (s.rd TG.WIN g i) 32).map (32 * i + ·)).filter (fun w => w < 224 && s.rdB CW.STAT_LATCH w))
  let types := onesOf (s.rd TG.MISC_STYPE g) 8
  let stats := if types.isEmpty then [] else
    (List.range 3).flatMap (fun i => (onesOf (s.rd TG.SLEG g i) 32).flatMap (fun j =>
      let n := 32 * i + j
      let v := s.gstat n
      types.flatMap (fun t => ((stypeBits t).filter (fun b => bit v b.1)).map (fun b =>
        2 ^ 16 + n + b.2 + 256 * t))))
  let classes := ((onesOf (s.rd TG.MISC_FCLASS g) 4).filter s.classActive).map (2 * 2 ^ 16 + ·)
  let soft := if s.rdB TG.SWTRIP g then [3 * 2 ^ 16] else []
  let dogs := (onesOf (s.rd TG.MISC_WDOG g) 2).filter (fun b =>
    if b = 0 then s.hostExpired else s.flt.fwWdt)
  wins ++ stats ++ classes ++ soft ++ dogs.map (4 * 2 ^ 16 + ·)

/-- The least of a list of sources. -/
def leastOf : List Nat → Nat
  | [] => 0
  | x :: xs => xs.foldl Nat.min x

/-- FIRST_SRC for these simultaneous sources (R152). -/
def State.firstSrc (s : State) (g : Nat) (l : List Nat) : State :=
  ((s.wr TG.FIRST_SRC_KIND (leastOf l / 2 ^ 16) g).wr TG.FIRST_SRC_INDEX (leastOf l % 2 ^ 16) g).wrB
    TG.FIRST_SRC_SIMULTANEOUS (1 < l.length) g

/-- The target legs of group g. -/
def State.targets (s : State) (g : Nat) : List Nat :=
  (List.range 3).flatMap (fun i => (onesOf (s.rd TG.LEGS g i) 32).map (32 * i + ·))

/-- Group g fires (R149). An action that it took at an earlier fire, under another ACTION, ends as Table 6.5 says and not
before: both stand. `l` are the sources that assert with it, `hard` the hard window whose crossing
drives the asynchronous path (R143). -/
def State.groupFire (s : State) (g : Nat) (l : List Nat) (hard : Option Nat) : State :=
  let act := s.rd TG.CFG_ACTION g
  let viaAsync := 2 ≤ act && match hard with
    | some w => l.contains w
    | none => false
  let s := (s.setTg g { s.tg g with fireAt := some s.now, fireTick := s.pw / 32, fireSrcs := l }).firstSrc g l
  let s := ((s.wrB TG.STAT_TRIPPED true g).wr TG.FIRST_DT s.dtNs g).wrB TG.STAT_ASYNC viaAsync g
  let s := s.fltSet (fsTg g) 0
  let s := s.when (s.rdB TG.CFG_CEASE g) (·.protectionTrip)
  if act = 0 then s
  else
    s.each (s.targets g) (fun n s =>
      (s.modLeg n (fun l =>
        { l with trips := if l.trips.contains (g, act) then l.trips else (g, act) :: l.trips })).applyHold n)

/-- Group g is evaluated: ACTIVE, a fire when it becomes ACTIVE, and sources that assert in the tick of its
fire (R148, R149, R152). -/
def State.groupEval (s : State) (hard : Option Nat) (g : Nat) : State :=
  let l := s.groupSources g
  let old := s.tg g
  let new := l.filter (fun x => !old.srcs.contains x)
  let was := !old.srcs.isEmpty
  let s := s.when (l ≠ old.srcs) (fun s =>
    (s.setTg g { old with srcs := l }).wrB TG.STAT_ACTIVE (!l.isEmpty) g)
  if new.isEmpty then s
  else if !was then (if s.rdB TG.CFG_ENABLE g then s.groupFire g new hard else s)
  else
    if old.fireAt.isSome && old.fireTick = s.pw / 32 && s.rdB TG.CFG_ENABLE g then
      let all := old.fireSrcs ++ new
      (s.setTg g { s.tg g with fireSrcs := all }).firstSrc g all
    else s

/-- Every group is evaluated. -/
def State.shears (s : State) (hard : Option Nat := none) : State :=
  s.each (List.range 32) (fun g s => s.groupEval hard g)

/-- ENABLE of group g changes to 1: it fires at once if it is ACTIVE (R149). -/
def State.groupEnable (s : State) (g : Nat) : State :=
  let l := (s.tg g).srcs
  if l.isEmpty then s else s.groupFire g l none

/-- TRIPPED of group g clears: its SOFT_OFF and HARD_OFF hold their legs to their next START (R150). -/
def State.groupUntrip (s : State) (g : Nat) : State :=
  let s := (s.wrB TG.STAT_TRIPPED false g).fltEnd (fsTg g) 0
  s.each (s.legs.map (·.1)) (fun n s =>
    if (s.leg n).trips.any (fun t => t.1 = g && 2 ≤ t.2) then
      s.modLeg n (fun l =>
        { l with trips := l.trips.filter (fun t => !(t.1 = g && 2 ≤ t.2)), tripHold := true })
    else s)

/-- A software clear of TRIPPED: refused while the group is ACTIVE (R150). -/
def State.groupClear (s : State) (g : Nat) : State :=
  if !s.rdB TG.STAT_TRIPPED g then s
  else if s.rdB TG.STAT_ACTIVE g then s.wrB TG.STAT_CLEAR_REFUSED true g
  else s.groupUntrip g

/-- At a START of leg n, the PULSE_BLOCKs of groups that are not ACTIVE end, and so does the hold that a
cleared trip left (Table 6.5, R150). -/
def State.tripsStart (s : State) (n : Nat) : State :=
  let l := s.leg n
  if l.trips.isEmpty && !l.tripHold then s
  else
    s.setLeg n { l with
      trips := l.trips.filter (fun t => !(t.2 = 1 && !s.rdB TG.STAT_ACTIVE t.1))
      tripHold := false }

/-- Entry into STANDBY clears every window latch whose condition is not active and every group that is not
ACTIVE then (R146, R150). -/
def State.shearsStandby (s : State) : State :=
  let s := s.each (List.range 224) (fun w s =>
    if s.rdB CW.STAT_LATCH w && !(s.cw w).out then s.winUnlatch w else s)
  let s := s.shears
  s.each (List.range 32) (fun g s =>
    if s.rdB TG.STAT_TRIPPED g && !s.rdB TG.STAT_ACTIVE g then s.groupUntrip g else s)

/-! ### The meanings -/

/-- A waiting edge of window w starts or restarts its blanking interval (R141). -/
def State.blankStart (s : State) (w e : Nat) : State :=
  let c := s.cw w
  (s.setCw w { c with edges := c.edges.drop 1, blankEnd := some (e + 32 * s.rd CW.CFG_BLANK w) }).wrB
    CW.STAT_BLANKING true w

/-- The blanking interval of window w ends now; the latch sets if the filtered output is active (R141). -/
def State.blankOver (s : State) (w : Nat) : State :=
  let s := (s.setCw w { s.cw w with blankEnd := none }).wrB CW.STAT_BLANKING false w
  if (s.cw w).out && !s.rdB CW.STAT_LATCH w then (s.winLatch w).shears else s

/-- The blanking of window w follows the edges that have reached their balls by now, up to `fuel` starts and ends: an
interval over before an edge ends first. -/
def State.blankNow (s : State) (w : Nat) : Nat → State
  | 0 => s
  | fuel + 1 =>
    match (s.cw w).edges with
    | [] => s
    | e :: _ =>
      if s.pw < e then s
      else if (s.cw w).blankEnd.any (· ≤ e) then (s.blankOver w).blankNow w fuel
      else (s.blankStart w e).blankNow w fuel

/-- The end of the interval in hand, or of the next one, of b h: an edge inside it restarts it (R141). Answers the edges
that follow it. -/
def blankUntil (b : Nat) (till : Option Nat) : List Nat → Option Nat × List Nat
  | [] => (till, [])
  | e :: es =>
    match till with
    | none => blankUntil b (some (e + b)) es
    | some t => if t ≤ e then (some t, e :: es) else blankUntil b (some (e + b)) es

/-- WINDOW_CONDITION_CHANGE (R138, R140, R142): the filter of a standard or general window takes these
samples of the input, 2 t apart, the first at `at_`; when its output becomes active outside blanking, the
latch sets. -/
def execWindowConditionChange (w : Nat) (at_ : Nat) (levels : List Int) (s : State) :
    Host.Outcome State Fault Refusal :=
  s.runIf (w < 224 && !isHard w) (fun s =>
    let s := s.to at_
    let r := levels.foldl (fun (p : State × Nat) x =>
      let s := p.1.toPw p.2
      let s := (s.blankNow w (2 * (s.cw w).edges.length)).winSample w x
      let on := (s.cw w).out
      let s := if on && !s.rdB CW.STAT_BLANKING w && !s.rdB CW.STAT_LATCH w then (s.winLatch w).shears else s
      (s, p.2 + 64)) (s, s.pw)
    r.1.wrB CW.STAT_LIVE (r.1.cw w).out w)

/-- HARD_WINDOW_CROSSING (R138, R143): the raw comparator of a hard window sees a level; when its condition
becomes active, the latch sets and the groups fire through the asynchronous path. -/
def execHardWindowCrossing (w : Nat) (at_ : Nat) (level : Int) (s : State) :
    Host.Outcome State Fault Refusal :=
  s.runIf (isHard w) (fun s =>
    let s := (s.to at_).compare w level
    let c := s.cw w
    let on := c.rawHi || c.rawLo
    let s := (s.setCw w { c with out := on }).wrB CW.STAT_LIVE on w
    if on && !c.out && !s.rdB CW.STAT_LATCH w then (s.winLatch w).shears (some w) else s)

/-- BLANKING_END (R141): the interval ends; the latch sets if the filtered output is active. -/
def execBlankingEnd (w : Nat) (s : State) : Host.Outcome State Fault Refusal :=
  s.runIf (w < 224) (fun s =>
    let c := s.cw w
    match blankUntil (32 * s.rd CW.CFG_BLANK w) c.blankEnd c.edges with
    | (none, _) => s
    | (some t, es) => ((s.toPw t).setCw w { c with edges := es }).blankOver w)

/-- Blanking of window w runs now (Table 6.3). -/
def State.blanking (s : State) (w : Nat) : Bool :=
  (s.cw w).blankEnd.any (s.pw < ·)
    || (s.cw w).edges.any (fun e => decide (e ≤ s.pw) && decide (s.pw < e + 32 * s.rd CW.CFG_BLANK w))

/-- WINDOW_LATCH_CLEAR (R144, R145): a write of 1 to CW[w].STAT.LATCH. -/
def execWindowLatchClear (w : Nat) (s : State) : Host.Outcome State Fault Refusal :=
  s.runIf (w < 224) (fun s => s.bridgeWrite 77 CW.STAT_LATCH w 0 1 (fun s => (s.winClear w).shears))

/-- GROUP_TRIPPED_CLEAR (R150): a write of 1 to TG[g].STAT.TRIPPED. -/
def execGroupTrippedClear (g : Nat) (s : State) : Host.Outcome State Fault Refusal :=
  s.runIf (g < 32) (fun s => s.bridgeWrite 77 TG.STAT_TRIPPED g 0 1 (·.groupClear g))

end Sys2Proof.Machine
end

