-- ==== Sys2Proof/Machine/Gates.lean ====
section
/-!
DEFINITION. The gate-link unit (spec 05): what the status inputs report, the blocks they put on a leg, the
interlock limit, refresh, notch and link-alive pulses, and the VLED rails.
-/
namespace Sys2Proof.Machine

/-! ### Blocks (R124, R135) -/

/-- GSTAT bit numbers within a side (Table 5.11). -/
def gUvlo : Nat := 0
def gDesat : Nat := 1
def gOtemp : Nat := 2
def gStuck : Nat := 3
def gLink : Nat := 4
def gLost : Nat := 5
def gMalf : Nat := 6

/-- The GSTAT field of a side. -/
def gField : Side → Fld
  | .high => LEG.GSTAT_H
  | .low => LEG.GSTAT_L

/-- Any GSTAT bit other than H_MALF and L_MALF is set (R135). -/
def State.gBlocking (s : State) (n : Nat) : Bool :=
  s.rd LEG.GSTAT_H n % 64 ≠ 0 || s.rd LEG.GSTAT_L n % 64 ≠ 0 || s.rdB LEG.GSTAT_INTLK_TMO n
    || s.rdB LEG.GSTAT_VLED_UV n

/-- Leg n is blocked: both outputs take the OFF coding at once, its fault source has the cause of GSTAT bit
b, and Shears sees the status fault (R124). -/
def State.blockLeg (s : State) (n b : Nat) : State :=
  (((s.modLeg n (fun l => { l with gblock := true })).fltSet n b).applyHold n).shears

/-- A decoded condition of one side that blocks the leg. -/
def State.gateFault (s : State) (n : Nat) (d : Side) (b : Nat) : State :=
  let v := s.rd (gField d) n
  (s.wr (gField d) (putBits v b 1 1) n).blockLeg n (match d with
    | .high => b + 8
    | .low => b)

/-- A malformed status pattern: it sets MALF and counts (Table 5.4). -/
def State.malformed (s : State) (n : Nat) (d : Side) : State :=
  (s.wr (gField d) (putBits (s.rd (gField d) n) gMalf 1 1) n).count LEG.MALF_CNT n

/-- The condition of GSTAT bit b of a side persists (R125). -/
def State.gPersists (s : State) (n : Nat) (d : Side) (b : Nat) : Bool :=
  let v := s.side n d
  let within (t : Option Nat) : Bool := match t with
    | some t => decide (s.now < t + 384000)
    | none => false
  if b = gUvlo then within v.lastUvlo
  else if b = gDesat then within v.lastDesat
  else if b = gOtemp then within v.lastOtemp
  else if b = gStuck then v.lvl && !v.on
  else false

/-- A W1C clear of one GSTAT bit of a side. -/
def State.gClear (s : State) (n : Nat) (d : Side) (b : Nat) : State :=
  let v := s.rd (gField d) n
  if !bit v b || s.gPersists n d b then s
  else
    (s.wr (gField d) (putBits v b 1 0) n).fltEnd n (match d with
      | .high => b + 8
      | .low => b)

/-- A write of ones to GSTAT: bits whose condition persists stay set (R125). -/
def State.gstatClear (s : State) (n mask : Nat) : State :=
  let s := s.each (onesOf (bits mask 0 7) 7) (fun b s => s.gClear n .low b)
  let s := s.each (onesOf (bits mask 8 7) 7) (fun b s => s.gClear n .high b)
  let s := s.when (bit mask 16 && s.rdB LEG.GSTAT_INTLK_TMO n) (fun s =>
    (s.wrB LEG.GSTAT_INTLK_TMO false n).fltEnd n 16)
  let s := s.when (bit mask 17 && s.rdB LEG.GSTAT_VLED_UV n && !s.rdB BRK.VLED_UV (n / 12)) (fun s =>
    (s.wrB LEG.GSTAT_VLED_UV false n).fltEnd n 17)
  s.shears

/-- Entry into STANDBY clears every GSTAT bit and the block; a status that is still active against an OFF command and
has been judged is judged again 1 µs later; a pulse under way goes on and is judged by its width (R136; DESIGN CHOICE, log
133). -/
def State.gstatStandby (s : State) (n : Nat) : State :=
  let s := s.each (onesOf (s.gstat n) 18) (fun b s => s.fltEnd n b)
  let s := s.each [LEG.GSTAT_H, LEG.GSTAT_L, LEG.GSTAT_INTLK_TMO, LEG.GSTAT_VLED_UV] (fun f s => s.wr f 0 n)
  let s := if (s.leg n).gblock then s.modLeg n (fun l => { l with gblock := false }) else s
  s.each [Side.high, Side.low] (fun d s =>
    let v := s.side n d
    if v.lvl && !v.on && v.stuckBy.isNone then s.modSide n d (fun v => { v with stuckBy := some (s.pw + usH) }) else s)

/-- Link-alive pulses resume at the OFF outputs of leg n when a steady hold ends (R119): the first comes
1 µs later (DESIGN CHOICE, log 133). -/
def State.aliveAgain (s : State) (n : Nat) : State :=
  let f (d : Side) (s : State) : State :=
    let v := s.side n d
    if v.on || v.notch ≠ 0 || v.alive.isSome then s
    else s.modSide n d (fun v => { v with alive := some (s.pw + usH) })
  if 1 ≤ s.holdRow n && s.holdRow n ≤ 3 then s else f .low (f .high s)

/-! ### The meanings: edges -/

def legOk (n : Nat) : Bool := n < 96

/-- HC_EDGE (R91, R92, R102): the next rotated compare of leg n fires. -/
def execHcEdge (n : Nat) (s : State) : Host.Outcome State Fault Refusal :=
  s.runIf (legOk n) (fun s => s.hcEdge n)

/-- A refresh whose opposite switch has come on lasts REFRESH from there (R130). -/
def State.refreshOn (s : State) (n : Nat) (d : Side) : State :=
  match (s.leg n).refresh with
  | some r =>
    if r.side ≠ d && r.until_.isNone && (s.side n d).on then
      let t := s.pw + Nat.max (s.rd LEG.REFRESH n) (s.minPulse n)
      s.modLeg n (fun l => { l with refresh := some { r with until_ := some t } })
    else s
  | none => s

/-- A scheduled turn-on of a side whose time has come is tried. -/
def State.turnOnDue (s : State) (n : Nat) (d : Side) : State := (s.tryOn n d).refreshOn n d

/-- DEAD_TIME_EXPIRY (R92, R121, R126): the scheduled turn-on of the side falls due. -/
def execDeadTimeExpiry (n : Nat) (d : Side) (s : State) : Host.Outcome State Fault Refusal :=
  s.runIf (legOk n) (fun s =>
    match (s.side n d).turnOn with
    | some t => (s.toPw t).turnOnDue n d
    | none => s)

/-- STRETCHED_PULSE_END (R102, R126): a pulse stretched to m ends; one whose turn-on still waits is cancelled. -/
def execStretchedPulseEnd (n : Nat) (d : Side) (s : State) : Host.Outcome State Fault Refusal :=
  s.runIf (legOk n) (fun s =>
    match (s.side n d).turnOff with
    | some t =>
      let s := s.toPw t
      if (s.side n d).on then s.offCmd n d pipeH true
      else if (s.side n d).turnOn.isSome then s.cancelOn n d
      else s.modSide n d (fun v => { v with turnOff := none })
    | none => s)

/-- NOTCH_PHASE_END (R118): the gap of a notch ends and the output goes active again, or its active phase
ends with the final inactive edge. -/
def execNotchPhaseEnd (n : Nat) (d : Side) (s : State) : Host.Outcome State Fault Refusal :=
  s.runIf (legOk n) (fun s =>
    let v := s.side n d
    if v.notch = 0 then s
    else
      let s := s.toPw (v.notchAt + 3200)
      if v.notch = 2 then
        (s.modSide n d (fun v => { v with notch := 1, notchAt := s.pw })).blankFrom n s.pw
      else s.cutNotch n d true)

/-- What stands at an output ball (R115, R118). -/
inductive OutLevel where
  | highZ | active | inactive
  deriving DecidableEq, Repr

/-- The level of an output now: high-impedance in a DISABLED brick, active while ON, in the active phase of a notch and in
a link-alive pulse (R115, R118, R131). A command reaches the ball 12 t after its compare (Table 4.1). -/
def State.outLevel (s : State) (n : Nat) (d : Side) : OutLevel :=
  let v := s.side n d
  if s.holdRow n = 2 then .highZ
  else if v.lit s.pw || v.notch = 1 || decide (s.pw < v.link) then
    .active
  else .inactive

/-- INTERLOCK_TIMEOUT (R127): the opposite status is not inactive T_INTLK after the opposite OFF command, or after the final
edge of its notch; a turn-on that
waits for it is cancelled and the leg blocked, whether or not a stuck-on decision has come before. -/
def execInterlockTimeout (n : Nat) (d : Side) (s : State) : Host.Outcome State Fault Refusal :=
  s.runIf (legOk n) (fun s =>
    let o := s.side n d.other
    if s.oppOff n d || o.on || o.notch ≠ 0 then s
    else
      let s := s.toPw (o.cmdAt + s.rd LEG.ICFG n)
      ((s.dropOn n d).wrB LEG.GSTAT_INTLK_TMO true n).blockLeg n 16)

/-- MAXON_EXPIRY (R130): a switch has been on for MAXON, counted at its ball; it turns off and the refresh begins. -/
def execMaxonExpiry (n : Nat) (d : Side) (s : State) : Host.Outcome State Fault Refusal :=
  s.runIf (legOk n) (fun s =>
    let v := s.side n d
    if !v.on || s.rd LEG.MAXON n = 0 || (s.leg n).refresh.isSome then s
    else
      let s := s.toPw (v.onAt + s.rd LEG.MAXON n - pipeH)
      let opp := s.rdB LEG.REFRESH_OPP n && s.oppExists n d && !s.sideHeld n d.other
      let m := Nat.max (s.rd LEG.REFRESH n) (s.minPulse n)
      let off := if s.rdB BRK.GCFG_NOTCH (n / 12) then Nat.max m 5120 else m
      let s := ((s.offCmd n d pipeH true).count LEG.REFRESH_CNT n).modLeg n (fun l =>
        { l with refresh := some ⟨d, opp, if opp then none else some (s.pw + off)⟩ })
      if opp then (s.schedOn n d.other (s.pw + s.deadTime n d.other) none).refreshOn n d.other else s)

/-- REFRESH_END (R130): the opposite switch turns off and the first one follows after the opposite dead
time, or, where the opposite switch took no part, the first switch turns on again. -/
def execRefreshEnd (n : Nat) (s : State) : Host.Outcome State Fault Refusal :=
  s.runIf (legOk n) (fun s =>
    match (s.leg n).refresh with
    | none => s
    | some r =>
      match r.until_ with
      | none => s
      | some t =>
        let s := (s.toPw t).modLeg n (fun l => { l with refresh := none })
        if r.opp then
          (s.offCmd n r.side.other pipeH true).schedOn n r.side (s.pw + s.deadTime n r.side) none
        else s.schedOn n r.side s.pw none)

/-! ### The meanings: status inputs (R123, R124) -/

/-- A status input as LIVE shows it (Table 5.12). -/
def State.liveCode (s : State) (n : Nat) (d : Side) : Nat :=
  let x := s.side n d
  if s.rd BRK.GCFG_DRV (n / 12) = 0 then 7
  else if x.pulseAt.isSome || x.pulse.isSome then 2
  else
    let now : Option Nat := match x.lastClass, x.lastAt with
      | some c, some t => if s.now ≤ t + 30 * usH then some (match c with
          | .uvlo => 3
          | .desat => 4
          | .otemp => 5
          | .malf => 6) else none
      | _, _ => none
    now.getD (b2n x.lvl)

/-- The status input of a side is decoded: its brick is not in DISABLED mode (R128). -/
def State.decodes (s : State) (n : Nat) : Bool := s.rd BRK.GCFG_DRV (n / 12) ≠ 0

/-- The width of a pulse as the device measures it, to ±5 ns (R123); the stuck-on check has taken any longer one. -/
def State.measured (s : State) (w : Nat) : Nat := clampN 256 70400 ((w : Int) + s.freeErr 64).toNat

/-- The accepted level of a status input is read with SPOL against its output's command (R123, R124, R126). An active level
against an OFF command begins a pulse; an inactive one ends it, begins the gate-lost time of a confirmed ON, and lets a
turn-on that waits for it go. -/
def State.statusEval (s : State) (n : Nat) (d : Side) : State :=
  let v := s.side n d
  let act := v.ball != s.rdB BRK.GCFG_SPOL (n / 12)
  if v.lvl = act then s
  else if act then
    s.modSide n d (fun v =>
      let v := { v with lvl := true, lvlAt := s.now, lostBy := none }
      if v.on then { v with confirmed := true, confirmBy := none }
      else { v with pulseAt := some s.now, stuckBy := some (s.pw + 70400) })
  else
    let base := { v with lvl := false, lvlAt := s.now, stuckBy := none, pulseAt := none }
    let s :=
      if v.on then
        s.modSide n d (fun _ => { base with lostBy := if v.confirmed then some (s.pw + 1280) else none })
      else
        match v.pulseAt with
        | some a =>
          let w := s.measured (s.now - a)
          s.useFree.modSide n d (fun _ => { base with offOk := true, pulse := some (a, a + w) })
        | none => s.modSide n d (fun _ => { base with offOk := true })
    s.when (s.side n d.other).waiting (·.turnOnDue n d.other)

/-- STATUS_LEVEL_CHANGE (R123, R124, R126): the ball has read a new level for 8 samples; `ball` is that level, made active
or inactive by SPOL. -/
def execStatusLevelChange (n : Nat) (d : Side) (ball : Bool) (at_ : Nat) (s : State) :
    Host.Outcome State Fault Refusal :=
  s.runIf (legOk n) (fun s => ((s.to at_).modSide n d (fun v => { v with ball := ball })).statusEval n d)

/-- GCFG.SPOL of brick k changes: every status input of the brick is read afresh (R123). -/
def State.spolChange (s : State) (k : Nat) : State :=
  s.each (legsOf k) (fun n s => (s.statusEval n .high).statusEval n .low)

/-- The reading of an active pulse by its width in h (Table 5.4); none where another row decides. A width on a limit that two
rows name is read as the valid class (DESIGN CHOICE, log 133). -/
def pulseClass (w : Nat) : Option PulseClass :=
  if w < 256 || 70400 < w then none
  else if 7680 ≤ w && w ≤ 17920 then some .uvlo
  else if 32000 ≤ w && w ≤ 44800 then some .desat
  else if 57600 ≤ w then some .otemp
  else some .malf

/-- Two valid pulses of one train are badly spaced (Table 5.4). -/
def badSpacing (prev : Option Nat) (start : Nat) : Bool :=
  match prev with
  | none => false
  | some p =>
    let g := start - p
    g < 204800 || (307200 ≤ g && g ≤ 384000)

/-- STATUS_PULSE_CLASSIFIED (R124): the pulse that has ended is classified. -/
def execStatusPulseClassified (n : Nat) (d : Side) (s : State) : Host.Outcome State Fault Refusal :=
  s.runIf (legOk n) (fun s =>
    let v := s.side n d
    match v.pulse with
    | none => s
    | some (a, b) =>
      let s := s.modSide n d (fun v => { v with pulse := none })
      if !s.decodes n then s
      else
        match pulseClass (b - a) with
        | none => s
        | some .malf =>
          (s.modSide n d (fun v => { v with lastClass := some .malf, lastAt := some a })).malformed n d
        | some c =>
          let s := s.when (badSpacing v.lastStart a) (·.malformed n d)
          let s := s.modSide n d (fun v =>
            let v := { v with lastStart := some a, lastClass := some c, lastAt := some a }
            match c with
            | .uvlo => { v with lastUvlo := some a }
            | .desat => { v with lastDesat := some a }
            | .otemp => { v with lastOtemp := some a }
            | .malf => v)
          s.gateFault n d (match c with
            | .uvlo => gUvlo
            | .desat => gDesat
            | .otemp => gOtemp
            | .malf => gMalf))

/-- CONFIRM_TIMEOUT (R124): the status has not been active within T_CONF of an ON command (LINK), or has
been inactive for 100 ns after it was confirmed (GATE_LOST). -/
def execConfirmTimeout (n : Nat) (d : Side) (s : State) : Host.Outcome State Fault Refusal :=
  s.runIf (legOk n) (fun s =>
    let v := s.side n d
    match v.confirmBy, v.lostBy with
    | some t, _ =>
      let s := (s.toPw t).modSide n d (fun v => { v with confirmBy := none })
      if v.on && !v.confirmed && s.decodes n then s.gateFault n d gLink else s
    | none, some t =>
      let s := (s.toPw t).modSide n d (fun v => { v with lostBy := none })
      if v.on && !v.lvl && s.decodes n then s.gateFault n d gLost else s
    | none, none => s)

/-- STUCK_CHECK_EXPIRY (R124): the status is still active 1 µs after an OFF command or a final notch edge,
or has been active against an OFF command for more than 5.5 µs. -/
def execStuckCheckExpiry (n : Nat) (d : Side) (s : State) : Host.Outcome State Fault Refusal :=
  s.runIf (legOk n) (fun s =>
    match (s.side n d).stuckBy with
    | none => s
    | some t =>
      let s := (s.toPw t).modSide n d (fun v => { v with stuckBy := none, pulseAt := none })
      let v := s.side n d
      if v.lvl && !v.on && s.decodes n then s.gateFault n d gStuck else s)

/-- GSTAT_PERSIST_EXPIRY (R125): 30 µs have passed since the last pulse of the class started. -/
def execGstatPersistExpiry (n : Nat) (d : Side) (c : PulseClass) (s : State) :
    Host.Outcome State Fault Refusal :=
  s.runIf (legOk n) (fun s =>
    let v := s.side n d
    let go (t : Option Nat) (f : SideSt → SideSt) : State := match t with
      | some t => (s.to (t + 384000)).modSide n d f
      | none => s
    match c with
    | .uvlo => go v.lastUvlo (fun v => { v with lastUvlo := none })
    | .desat => go v.lastDesat (fun v => { v with lastDesat := none })
    | .otemp => go v.lastOtemp (fun v => { v with lastOtemp := none })
    | .malf => s)

/-- GSTAT_CLEAR (R125, R135): a write of ones to LEG[n].GSTAT. -/
def execGstatClear (n mask : Nat) (s : State) : Host.Outcome State Fault Refusal :=
  s.runIf (legOk n) (fun s => s.hostWrite (fun s =>
    if s.bridgeHalted 77 then s.bridgeHold 77 (LEG.GSTAT_L.addr n 0) 4 (mask % 2 ^ 32) else s.gstatClear n mask))

/-- GATE_CNT_CLR (R134). -/
def execGateCntClr (n : Nat) (s : State) : Host.Outcome State Fault Refusal :=
  s.runIf (legOk n) (fun s => s.bridgeWrite 77 LEG.GCTRL n 0 1 (fun s =>
    ((s.wr LEG.DELAY_CNT 0 n).wr LEG.REFRESH_CNT 0 n).wr LEG.MALF_CNT 0 n))

/-! ### VLED (R117) -/

/-- The legs of a brick whose VLED condition holds are blocked, those of an entry into STANDBY again (R117, R136). -/
def State.vledBlock (s : State) (k : Nat) : State :=
  if (legsOf k).all (fun n => s.rdB LEG.GSTAT_VLED_UV n && (s.leg n).gblock) then s
  else
    let s := s.each (legsOf k) (fun n s =>
      ((s.wrB LEG.GSTAT_VLED_UV true n).modLeg n (fun l => { l with gblock := true })).fltSet n 17)
    (s.applyBrick k).shears

/-- VLED_SAMPLE (R117): the 1 µs comparison of VLED_k, which measures `mv` mV. The condition sets after
2 µs below the threshold, and clears after 1 ms at least 100 mV above it. -/
def execVledSample (k mv at_ : Nat) (s : State) : Host.Outcome State Fault Refusal :=
  s.runIf (k < 8) (fun s =>
    let s := (s.to at_).wr BRK.VLED_MV (Nat.min mv 65535) k
    let thr := 20 * s.rd BRK.GCFG_VLED_UVT k
    let b := s.brk k
    if mv < thr then
      let t0 := b.vledLow.getD s.now
      let s := s.setBrk k { b with vledLow := some t0, vledHigh := none }
      if s.rdB BRK.VLED_UV k then s.vledBlock k
      else if t0 + 2 * usH ≤ s.now then ((s.wrB BRK.VLED_UV true k).fltSet (fsVled k) 0).vledBlock k
      else s
    else if thr + 100 ≤ mv then
      let t0 := b.vledHigh.getD s.now
      let s := s.setBrk k { b with vledHigh := some t0, vledLow := none }
      if s.rdB BRK.VLED_UV k && t0 + msH ≤ s.now then
        let s := (s.wrB BRK.VLED_UV false k).fltEnd (fsVled k) 0
        s.each (legsOf k) (fun n s => s.aliveAgain n)
      else s.when (s.rdB BRK.VLED_UV k) (·.vledBlock k)
    else (s.setBrk k { b with vledLow := none, vledHigh := none }).when (s.rdB BRK.VLED_UV k) (·.vledBlock k))

end Sys2Proof.Machine
end

