-- ==== Sys2Proof/Machine/Bricks.lean ====
section
/-!
DEFINITION. The brick and leg time bases (spec 04): enable and disable, reload guards, the leg side of the
reloads, own periods, period reports, halts, and the commands that carry pairs. BRICK_START and OWN_START
are composed of these and of what the other units do at a START in Machine/Starts.lean.
-/
namespace Sys2Proof.Machine

def brickOk (k : Nat) : Bool := k < 8

/-! ### Halts (R107 to R111) -/

/-- No pair of brick k reloads under a halt: locked pairs stay pending (Table 4.11). -/
def State.haltUnlock (s : State) (k : Nat) : State :=
  s.each (legsOf k) (fun n s =>
    if (s.leg n).locked then s.modLeg n (fun l => { l with locked := false }) else s)

/-- Brick k takes the OFF coding for a halt and is HALTED. -/
def State.haltNow (s : State) (k : Nat) : State :=
  (((s.modBrk k (fun b => { b with finish := false })).wrB BRK.STATUS_HALTED true k).haltUnlock k).applyBrick k

/-- Brick k finishes its period for a halt (Table 4.11). -/
def State.haltFinish (s : State) (k : Nat) : State :=
  (((s.modBrk k (fun b => { b with finish := true })).wr BRK.STATUS_HALT_APPLIED 1 k).wrB
    BRK.STATUS_FREEZING false k).haltUnlock k

/-- FREEZE acts as FINISH_SAFE for a reason of R110. -/
def State.downgrade (s : State) (k reason : Nat) : State :=
  (((s.haltFinish k).wrB BRK.STATUS_FREEZE_DG true k).post 0x42 [(1, 1, k), (2, 1, reason)])

/-- The reason of the first check of R110 that fails, none where the brick may freeze. -/
def State.freezeRefused (s : State) : Option Nat :=
  if !s.modeIn [.service, .factory] then some 0
  else if !s.has 16 then some 2
  else if !s.contactorsOpen then some 1
  else none

/-- Brick k acts on a halt as its HALT.MODE states; a stop of CK_PWM acts as SAFE (R107). -/
def State.haltAct (s : State) (k : Nat) (c : HaltCause) : State :=
  let m := if c = .ckPwm then 0 else s.rd BRK.HALT k
  if m = 0 then
    ((s.wr BRK.STATUS_HALT_APPLIED 0 k).wrB BRK.STATUS_FREEZING false k).haltNow k
  else if m = 1 then s.haltFinish k
  else
    match s.freezeRefused with
    | none => (s.wrB BRK.STATUS_FREEZING true k).wr BRK.STATUS_HALT_APPLIED 2 k
    | some r => s.downgrade k r

/-- A halt reaches brick k (R107, R108): an enabled one that is not HALTED acts, its first START come or not, and each
brick posts HALT_ENTERED; one that does not act shows the behaviour it applied last (DESIGN CHOICE, log 36). -/
def State.haltBrick (s : State) (k : Nat) (c : HaltCause) : State :=
  let runs := s.rdB BRK.CTRL_ENABLE k || s.rdB BRK.STATUS_RUN k
  let s := s.when (runs && !s.rdB BRK.STATUS_HALTED k) (·.haltAct k c)
  s.post 0x41 [(1, 1, k), (2, 1, s.rd BRK.STATUS_HALT_APPLIED k), (3, 1, c.code)]

/-- HALT_ENTRY (R107, R108): a halt begins and reaches the bricks. -/
def execHaltEntry (c : HaltCause) (at_ : Nat) (s : State) : Host.Outcome State Fault Refusal :=
  s.run (fun s =>
    let s := s.to at_
    if s.halts.contains c then s
    else
      let s := { s with halts := s.halts ++ [c] }
      let s := s.each (List.range 8) (fun k s => s.haltBrick k c)
      s.when (c = .ckPwm) (·.applyHolds))

/-- CONTACTOR_LEVEL_FALL (R110): the contactor-open level has fallen; freezing bricks act as FINISH_SAFE. -/
def execContactorLevelFall (s : State) : Host.Outcome State Fault Refusal :=
  s.run (fun s =>
    if s.contactorsOpen then s
    else
      s.each (List.range 8) (fun k s => if s.rdB BRK.STATUS_FREEZING k then s.downgrade k 3 else s))

/-- CTRL.RESUME of brick k (R111). -/
def State.resume (s : State) (k : Nat) : State :=
  if s.modeIn [.service, .factory] && s.halts.isEmpty then s.wrB BRK.STATUS_HALTED false k else s

/-- RESUME (R111): ignored while the halt is in force and outside SERVICE and FACTORY. -/
def execResume (k : Nat) (s : State) : Host.Outcome State Fault Refusal :=
  s.runIf (brickOk k) (fun s => s.bridgeWrite 77 BRK.CTRL_RESUME k 0 1 (·.resume k))

/-! ### Enable and disable (R93, R94) -/

/-- The first tick edge at least 64 t from now. -/
def State.freeStart (s : State) : Nat := ceilDiv (s.pw + 2048) 32 * 32

/-- ENABLE of brick k changes from 0 to 1 (R94). -/
def State.brickEnable (s : State) (k : Nat) : State :=
  let s := s.wrB BRK.CTRL_ENABLE true k
  let ref := s.rd BRK.SYNC_REF k
  let ofs := s.rd BRK.SYNC_OFFSET k
  let src := s.rd BRK.SYNC_SRC k
  let s := s.modBrk k (fun b =>
    if src = 1 && ref ≠ k && s.rdB BRK.STATUS_RUN ref then
      { b with waitRef := some (ref, ofs, s.pw + usH) }
    else if src = 2 then { b with waitEpoch := some (ofs, s.pw + usH) }
    else { b with first := some s.freeStart })
  let s := s.each (legsOf k) (fun n s =>
    let l := s.leg n
    let seen := l.seen && s.ownLeg n
    if l.seen = seen && !l.conflictSeen then s else s.setLeg n { l with seen := seen, conflictSeen := false })
  match s.halts with
  | [] => s
  | c :: _ => s.haltBrick k (if s.halts.contains .ckPwm then .ckPwm else c)

/-- BRICK_ENABLE (R94, R107): ENABLE going to 1. -/
def execBrickEnable (k : Nat) (s : State) : Host.Outcome State Fault Refusal :=
  s.runIf (brickOk k) (fun s => s.bridgeWrite 77 BRK.CTRL_ENABLE k 0 1 (fun s =>
    if s.rdB BRK.CTRL_ENABLE k then s else s.brickEnable k))

/-- A leg whose counter stops: its guard closes, and a held pair becomes the pending pair (R98). -/
def State.stopReload (s : State) (n : Nat) : State :=
  let l := s.leg n
  if !l.guard then s
  else
    (s.modLeg n (fun l => { l with locked := false })).reloadPair n

/-- ENABLE of brick k changes to 0: the counter stops and its outputs take the OFF coding (Table 4.4). DBL_ACTIVE clears;
DBL_INHIBIT keeps what the last START found (DESIGN CHOICE, log 132). -/
def State.brickDisable (s : State) (k : Nat) : State :=
  let s := (s.wrB BRK.CTRL_ENABLE false k).wrB BRK.STATUS_RUN false k
  let s := (s.wrB BRK.STATUS_DBL_ACTIVE false k).wrB BRK.STATUS_FREEZING false k
  let s := s.modBrk k (fun b =>
    { b with first := none, waitRef := none, waitEpoch := none, guard := false, midNext := false,
             finish := false, ended := false })
  (s.each (s.brickLegs k) (fun n s => s.stopReload n)).applyBrick k

/-- BRICK_DISABLE (R93): ENABLE going to 0. -/
def execBrickDisable (k : Nat) (s : State) : Host.Outcome State Fault Refusal :=
  s.runIf (brickOk k) (fun s => s.bridgeWrite 77 BRK.CTRL_ENABLE k 0 0 (fun s =>
    if s.rdB BRK.CTRL_ENABLE k then s.brickDisable k else s))

/-! ### Own periods (R112) -/

/-- The own counter of leg n follows OWNPER and ROLE: it is armed when they come to ask for it; when they no longer do, it
stops and its report points read 0 (R106). A leg whose counter stops so joins the period of its brick at once, at the edge
position it has reached; a leg that waits for the next START of its brick goes on waiting when the brick is disabled before
that (DESIGN CHOICE, log 132). -/
def State.ownCheck (s : State) (n : Nat) : State :=
  let l := s.leg n
  let armed := l.ownRun || l.ownFirst.isSome || l.ownWait
  if s.ownAsked n then
    if armed then s
    else if s.rdB BRK.STATUS_RUN (n / 12) then s.modLeg n (fun l => { l with ownWait := true })
    else s.modLeg n (fun l => { l with ownFirst := some s.freeStart, seen := false })
  else if armed then
    let s := s.modLeg n (fun l => { l with ownRun := false, ownFirst := none, ownWait := false, ended := false })
    let s := s.each (List.range 4) (fun j s => { s with pts := tput s.pts (0x3E00 + 4 * n + j) 0 0 })
    s.when (!l.ownWait) (·.stopReload n)
  else s

/-- The legs of brick k that wait for its START at pt to run their own counters: the pair in force runs to that START, and
the own counter begins there (R112). -/
def State.ownRelease (s : State) (k pt : Nat) : State :=
  s.each ((legsOf k).filter (fun n => (s.leg n).ownWait)) (fun n s =>
    (s.oldEdges n (s.rd BRK.PERIOD_NOW k)).modLeg n (fun l => { l with ownWait := false, ownFirst := some pt }))

/-- Leg n's period is shorter than its limit of R95. -/
def State.periodLimit (s : State) (n : Nat) : Nat :=
  2 * s.minPulse n
    + (if s.role n = roleChopper then 0 else s.rd LEG.DT_RISE n + s.rd LEG.DT_FALL n)

/-- At a START the limit of R95 is judged against the period in force; the event is posted at an entry. -/
def State.conflictStart (s : State) (n : Nat) : State :=
  let lim := s.periodLimit n
  let bad := decide (s.legPeriod n < lim)
  let new := bad && !(s.leg n).conflictSeen
  let s := s.wrB LEG.STATUS_TIMING_CONFLICT bad n
  let s := if (s.leg n).conflictSeen = bad then s else s.modLeg n (fun l => { l with conflictSeen := bad })
  s.when new (·.post 0x44 [(1, 1, n), (8, 4, s.legPeriod n), (12, 4, lim)])

/-! ### Phase (R103, R104) -/

/-- One step of PHASE_NOW towards a target. -/
def phaseStep (now tgt : Nat) : Nat :=
  let d := (tgt + 4096 - now) % 4096
  if d ≤ 2048 then (now + Nat.min d 256) % 4096 else (now + 4096 - Nat.min (4096 - d) 256) % 4096

/-- The phase of leg n at a START of its brick; `first` says that no period has come before. -/
def State.phaseStart (s : State) (first : Bool) (n : Nat) : State :=
  let tgt := (s.leg n).tgt
  let now := s.rd LEG.PHASE_NOW n
  let p := phaseStep now tgt
  let was := s.rdB LEG.STATUS_PHASE_WALK n
  let s := (s.wr LEG.PHASE_NOW p n).wrB LEG.STATUS_PHASE_WALK (p ≠ tgt) n
  let s := s.when (was && p = tgt) (·.post 0x45 [(1, 1, n), (8, 2, p)])
  let ofs (x : Nat) : Nat := x * s.legPeriod n / 4096
  let l := { s.leg n with ofs := ofs p, ofsWas := ofs (if first then p else now) }
  if s.leg n = l then s else s.setLeg n l

/-! ### Reloads of a brick (R89, R97, R100, R101, R106) -/

/-- A period report leaves for queue 90 (R106): the interval of real time in h, measured to ±1 ns. -/
def State.report (s : State) (point interval num : Nat) : State :=
  let r : PeriodReport :=
    { point := point, dur := fRatI ((interval : Int) * 5 + s.freeErr 64) 64, dtLo := s.dtLo,
      num := num % 2 ^ 32 }
  let s := if s.reports.length < 32 then s else s.stalled 90
  let s := { s.useFree with reports := s.reports ++ [r] }
  s.queueHolds 90 (Nat.min 32 s.reports.length)

/-- The reload of one leg with a fresh HC position. -/
def State.legReload (s : State) (n : Nat) : State :=
  let s := s.reloadPair n
  if (s.leg n).pos = 0 then s else s.modLeg n (fun l => { l with pos := 0 })

/-- The point of the coming START of brick k, or of its first. -/
def State.startPoint (s : State) (k : Nat) : Nat :=
  if s.rdB BRK.STATUS_RUN k then (s.brk k).start + s.rd BRK.PERIOD_NOW k else (s.brk k).first.getD s.pw

/-- The coming START of brick k begins: a guard that is not yet open opens, the clock stands at the tick edge, and what the
old pairs have still to fire is placed. The first START after an enable has no guard before it: PERIOD, DBL, TARGET and the
pairs are read, and lateness is judged, at that START itself (R98, R99; DESIGN CHOICE, log 132). -/
def State.startBegin (s : State) (k : Nat) : State :=
  let pt := s.startPoint k
  if s.rdB BRK.STATUS_RUN k then
    let s := if (s.brk k).guard then s else s.openBrickGuard k
    let s := s.toPw (tickOf pt)
    s.each (s.brickLegs k) (fun n s => s.oldEdges n (s.rd BRK.PERIOD_NOW k))
  else
    let s := (s.toPw (tickOf pt)).modBrk k (fun b =>
      { b with first := none, per := s.rd BRK.PERIOD k,
               dbl := dblFor (s.rdB BRK.CFG k) (s.rd BRK.PERIOD k),
               short := s.rdB BRK.CFG k && s.rd BRK.PERIOD k < 128000 })
    (s.each (s.brickLegs k) (fun n s => s.openGuard n 0 true (s.brickLoads k))).wrB BRK.STATUS_RUN true k

/-- The START of brick k: the counters, the period and double-update outcome in force, the report, and the
reload and phase of its legs. -/
def State.brickReload (s : State) (k : Nat) : State :=
  let run := s.rdB BRK.STATUS_RUN k
  let pt := s.startPoint k
  let s := s.startBegin k
  let b := s.brk k
  let num := if run then 2 * s.rd BRK.PCOUNT k + 2 else 0
  let s := (s.wr BRK.PCOUNT (num / 2) k).wr BRK.PERIOD_NOW b.per k
  let s := s.when run (·.report (0x3F80 + 4 * k) (s.realOf pt - b.last) num)
  let inh := b.short
  let s := s.when (inh && !s.rdB BRK.STATUS_DBL_INHIBIT k) (·.post 0x43 [(1, 1, k), (8, 4, b.per)])
  let s := (s.wrB BRK.STATUS_DBL_INHIBIT inh k).wrB BRK.STATUS_DBL_ACTIVE b.dbl k
  let at_ := s.realOf pt
  let s := s.setBrk k { b with start := pt, startAt := at_, last := at_, guard := false, midNext := true }
  s.each (s.brickLegs k) (fun n s => ((s.legReload n).phaseStart (!run) n).conflictStart n)

/-- What follows the supervisors at a START of brick k: period clears before the groups, the ends of
PULSE_BLOCKs, trip holds and gate-link blocks, a halt or a transition that ends the period, and the outputs
(R111, R135, R149, R150, R467). -/
def State.brickHolds (s : State) (k : Nat) : State :=
  let b := s.brk k
  let s := s.when b.finish (·.haltNow k)
  let s := s.when s.mm.ending (·.modBrk k (fun b => { b with ended := true }))
  let s := s.each (s.brickLegs k) (fun n s => s.each (s.periodWindows n) (fun w s => s.winPeriod w))
  let s := s.when (k = 0) (fun s => s.each s.freeWindows (fun w s => s.winPeriod w))
  let s := s.shears
  s.each (legsOf k) (fun n s =>
    let s := if (s.leg n).gblock && !s.gBlocking n then s.modLeg n (fun l => { l with gblock := false }) else s
    (s.when (!s.ownLeg n) (·.tripsStart n)).applyHold n)

/-- The legs of brick k switch from the pairs in force. -/
def State.brickSwitch (s : State) (k : Nat) : State := s.each (s.brickLegs k) (fun n s => s.resync n)

/-- Bricks that wait for a START of brick k take their first START from it (R94); while brick k stands they go on waiting
(DESIGN CHOICE, log 132). -/
def State.brickWaiters (s : State) (k : Nat) : State :=
  let t := (s.brk k).start
  s.each (List.range 8) (fun j s =>
    match (s.brk j).waitRef with
    | some (r, ofs, earliest) =>
      if r = k && earliest ≤ t then
        s.modBrk j (fun b => { b with waitRef := none, first := some (t + ofs) })
      else s
    | none => s)

/-- BRICK_MID (R89, R101): the MID point of the period; a reload where double update is in force, and in any
case the triggers of MID. -/
def execBrickMid (k : Nat) (s : State) : Host.Outcome State Fault Refusal :=
  s.runIf (brickOk k) (fun s =>
    let b := s.brk k
    if !s.rdB BRK.STATUS_RUN k || !b.midNext then s
    else
      let half := s.rd BRK.PERIOD_NOW k / 2
      let pt := b.start + half
      let dbl := s.rdB BRK.STATUS_DBL_ACTIVE k
      let s := if dbl && !b.guard then s.openBrickGuard k else s
      let s := s.toPw (tickOf pt)
      if !dbl then (s.modBrk k (fun b => { b with midNext := false })).fireMid k
      else
        let s := s.each (s.brickLegs k) (fun n s => s.oldEdges n half)
        let s := s.report (0x3F80 + 4 * k) (s.realOf pt - b.last) (2 * s.rd BRK.PCOUNT k + 1)
        let at_ := s.realOf pt
        let s := s.modBrk k (fun b => { b with midNext := false, guard := false, last := at_ })
        (s.each (s.brickLegs k) (fun n s =>
          let s := (s.reloadPair n).midPair n
          if (s.leg n).pos < half then s.modLeg n (fun l => { l with pos := half }) else s)).fireMid k)

/-- RELOAD_GUARD_OPEN (R97, R99 to R101, R104): the guard opens 64 t before the tick edge of the coming
reload of brick i, or of the own-period leg i. -/
def execReloadGuardOpen (own : Bool) (i : Nat) (s : State) : Host.Outcome State Fault Refusal :=
  if own then
    s.runIf (legOk i) (fun s =>
      let l := s.leg i
      if !l.ownRun || l.guard then s
      else
        (s.toPw (tickOf (l.ownStart + l.ownPer) - 2048)).openOwnGuard i)
  else
    s.runIf (brickOk i) (fun s =>
      if !s.rdB BRK.STATUS_RUN i || (s.brk i).guard then s
      else (s.toPw (tickOf (s.reloadPoint i) - 2048)).openBrickGuard i)

/-- The own START of leg n (R97, R106, R112): counter, period, report and reload. The first one has no guard before it, as
that of a brick. -/
def State.ownReload (s : State) (n : Nat) : State :=
  let run := (s.leg n).ownRun
  let l := s.leg n
  let pt := if run then l.ownStart + l.ownPer else l.ownFirst.getD s.pw
  let s := if run && !l.guard then s.openOwnGuard n else s
  let s := s.toPw (tickOf pt)
  let s := if run then s.oldEdges n l.ownPer
    else
      let s := s.modLeg n (fun l => { l with ownFirst := none, ownNext := s.rd LEG.LPERIOD n })
      if l.guard then s else s.openGuard n 0 true (s.brickLoads (n / 12))
  let num := if run then l.ownNum + 1 else 0
  let s := s.when run (·.report (0x3E00 + 4 * n) (s.realOf pt - l.ownLast) (2 * num))
  let at_ := s.realOf pt
  let s := s.modLeg n (fun l =>
    { l with ownRun := true, ownStart := pt, ownLast := at_, ownPer := l.ownNext, ownNum := num, ofs := 0, ofsWas := 0 })
  (s.legReload n).conflictStart n

/-- The holds of the own-period leg n at its START, as those of a brick. -/
def State.ownHolds (s : State) (n : Nat) : State :=
  let s := s.when s.mm.ending (·.modLeg n (fun l => { l with ended := true }))
  let s := (s.each (s.periodWindows n) (fun w s => s.winPeriod w)).shears
  (s.tripsStart n).applyHold n

/-! ### Pairs (R96 to R98) -/

/-- LEG_COMMIT_GO (R96): the staged pair is committed; a stopped bridge holds the write (R108). -/
def execLegCommitGo (n : Nat) (s : State) : Host.Outcome State Fault Refusal :=
  s.runIf (legOk n) (fun s => s.bridgeWrite 77 LEG.COMMIT n 0 1 (fun s =>
    (s.hostPair n (s.rd LEG.CMP_ON n) (s.rd LEG.CMP_OFF n)).1))

/-- PAIR_COMMIT (R96): a 64-bit write stages and commits a pair; a stopped bridge holds it (R108). -/
def execPairCommit (n on off : Nat) (s : State) : Host.Outcome State Fault Refusal :=
  s.runIf (legOk n) (fun s => s.hostWrite (fun s =>
    if s.bridgeHalted 77 then
      s.bridgeHold 77 (LEG.PAIR_COMMIT_ON.addr n 0) 8 (on % 2 ^ 24 + (off % 2 ^ 24) <<< 32)
    else (s.hostPair n on off).1))

/-- LEG_CNT_CLR (R114). -/
def execLegCntClr (n : Nat) (s : State) : Host.Outcome State Fault Refusal :=
  s.runIf (legOk n) (fun s => s.bridgeWrite 77 LEG.CTRL_CNT_CLR n 0 1 (fun s =>
    (s.wr LEG.LATE_CNT 0 n).wr LEG.DEFER_CNT 0 n))

/-- COMPARE_QUEUE_ENTRY (R96, R98, R216): the oldest entry of the compare queue of brick k arrives. -/
def execCompareQueueEntry (k : Nat) (s : State) : Host.Outcome State Fault Refusal :=
  s.runIf (brickOk k) (fun s =>
    match tgetD s.cmpQ k [] with
    | [] => s
    | e :: rest =>
      let s := { s with cmpQ := tput s.cmpQ k rest [] }
      match e with
      | .pwo n on off => (s.arrivePair n ⟨on % 2 ^ 24, off % 2 ^ 24, .esp⟩).1
      | .dc n on off =>
        if (s.leg n).dcOwn then (s.arrivePair n ⟨on % 2 ^ 24, off % 2 ^ 24, .dc⟩).1 else s
      | .target n p => s.wr LEG.PHASE p n
      | .sup n v => s.modLeg n (fun l => { l with supNext := some v }))

end Sys2Proof.Machine
end

