-- ==== Sys2Proof/Machine/Cmd.lean ====
section
/-!
DEFINITION. What every ring opcode shares (R51, R68, R74, R86): the started descriptor of its ring, its
parameter fields with their CLAMP records, and its end.
-/
namespace Sys2Proof.Machine

/-! ### Status codes (Table 3.15) -/

def stOk : Nat := 0x00
def stClamped : Nat := 0x01
def stDeferred : Nat := 0x02
def stStale : Nat := 0x03
def stBadOpcode : Nat := 0x10
def stBadField : Nat := 0x11
def stUnitAbsent : Nat := 0x12
def stNotReady : Nat := 0x13
def stModeForbidden : Nat := 0x14
def stRingFull : Nat := 0x15
def stEcc : Nat := 0x20
def stTimeout : Nat := 0x21
def stOverflow : Nat := 0x22
def stSafetyDenied : Nat := 0x30
def stInternal : Nat := 0x3F

/-- A submission ring of the device. -/
def sqOk (q : Nat) : Bool := q < 32

/-- The completion of a command that has ended waits to be written (R74); with QUIET and status OK there is
none (Table 3.9). -/
def State.complete (s : State) (q status result : Nat) : State :=
  match (s.ring q).started with
  | none => s
  | some x =>
    let s := s.modRing q (fun r => { r with started := none })
    if bit x.d.flags 2 && status = 0 then s
    else
      let c : Cpl :=
        { q := q, cq := (s.ring q).cq, tag := x.d.tag, seq := x.d.seq, status := status, result := result % 2 ^ 32,
          irq := bit x.d.flags 0, dtLo := s.dtLo }
      { s with cplQ := s.cplQ ++ [c] }

/-- The started descriptor of ring q, with this opcode and its payload read, and its payload. -/
def State.cmdOf (s : State) (q op : Nat) : Option (Started × List Nat) :=
  match (s.ring q).started with
  | some x => match x.stage with
    | .ready b => if x.d.opcode = op then some (x, b) else none
    | _ => none
  | none => none

/-- f on the started descriptor of submission ring q when that carries the opcode; with none, nothing happens. -/
def State.onCmdOf (q op : Nat) (f : Started → List Nat → State → State) (s : State) : State :=
  match s.cmdOf q op with
  | some x => f x.1 x.2 s
  | none => s

/-- An opcode's meaning. -/
def State.cmd (q op : Nat) (f : Started → List Nat → State → State) (s : State) :
    Host.Outcome State Fault Refusal := s.runIf (sqOk q) (State.onCmdOf q op f)

/-- The meaning of an opcode that writes host memory. -/
def State.cmdHost (q op : Nat) (f : Started → List Nat → State → State) (s : State) :
    Host.Outcome State Fault Refusal := s.runHostIf (sqOk q) (State.onCmdOf q op f)

/-- The command goes on after its start: its descriptor waits for what it started to end. -/
def State.cmdWaits (s : State) (q : Nat) : State :=
  s.modRing q (fun r => { r with started := r.started.map (fun x => { x with stage := .waiting, at_ := s.now }) })

/-- The opcode is a fabric command, which passes queue 80 (Table 8.12). -/
def fabricOp (op : Nat) : Bool := 0x20 ≤ op && op ≤ 0x29

/-- The descriptor has its payload, if it reads one, and waits to be executed. -/
def Stage.isReady : Stage → Bool
  | .ready _ => true
  | _ => false

/-- The command of ring q stands in queue 80 or waits there for a credit: started with its payload read, not yet executed,
and not the graph load in progress. -/
def State.inFabric (s : State) (q : Nat) : Bool :=
  match (s.ring q).started with
  | some x => fabricOp x.d.opcode && x.stage.isReady && decide (s.esp.loading ≠ some q)
  | none => false

/-- The instant at which the command of ring q became ready. -/
def State.readyAt (s : State) (q : Nat) : Nat := ((s.ring q).started.map (·.at_)).getD 0

/-- The rings whose commands are within the 16 entries of queue 80: those that became ready first. -/
def State.fabricHeld (s : State) : List Nat :=
  let l := (List.range 32).filter s.inFabric
  l.filter (fun q => l.countP (fun p =>
    decide (s.readyAt p < s.readyAt q) || (decide (s.readyAt p = s.readyAt q) && decide (p < q))) < 16)

/-- A graph load or unload of ring q discards what queue 80 holds beside it (R29, Table 2.7). A discarded command ends
NOT_READY: the fabric is being reset (DESIGN CHOICE, log 145). -/
def State.fabricFlush (s : State) (q : Nat) : State :=
  s.each (s.fabricHeld.filter (· ≠ q)) (fun p s => s.complete p stNotReady 0)

/-- A parameter field of a descriptor takes a value (R48, R49): the value applied, whether it was clamped,
and the CLAMP record of SRC 0x02 (Table 2.10). -/
def State.param (s : State) (q : Nat) (x : Started) (ord width : Nat) (c : Chk) (old v : Nat) :
    Nat × Bool × State :=
  let a := c.apply 0 0 width old v
  if a = v then (a, false, s)
  else
    (a, true, s.post 0x02 [(1, 1, 2), (2, 2, ord), (8, 8, x.addr), (16, 4, v), (20, 4, a), (24, 2, x.d.tag),
      (26, 1, q)])

/-- CLAMPED where a field was. -/
def clampedIf (b : Bool) : Nat := if b then stClamped else stOk

end Sys2Proof.Machine
end

