-- ==== Sys2Proof/Machine/Faults.lean ====
section
/-!
DEFINITION. The fault collector (spec 16): what follows the assertion of a source, counting and promotion,
class actions, the first-error latch, injection, and the FATAL hold. The dump is in Machine/Dump.lean.
-/
namespace Sys2Proof.Machine

/-! ### FATAL hold (R373) -/

/-- The FATAL hold: every leg in the OFF coding at row 6, Sieve stopped, and the dump to be made. -/
def State.fatalHold (s : State) (src code : Nat) : State :=
  if s.rdB FLT.STAT_FATAL_HOLD then s
  else
    let s := s.wrB FLT.STAT_FATAL_HOLD true
    let core := src = fsFwWdt || src = fsLockstep
    let c := { s.flt with dumpSrc := some (src, code, s.dtNs), dumpAt := s.now, coreReset := core }
    { s with flt := c }.applyHolds

/-! ### A FAULT event reaches the collector (R361, R363, R365, R366) -/

/-- The window of source i has to be reopened at an event of instant `at_` (R363). -/
def State.winOpens (s : State) (i at_ : Nat) : Bool :=
  match (s.fsrc i).winAt with
  | none => true
  | some t => t + msH * s.rd SRC.WIN i ≤ at_

/-- The FAULT record (Table 16.13), kept by firmware among the last 1,024 (Table 16.8). -/
def State.faultRecord (s : State) (e : FltEv) (cls wcount : Nat) (promoted : Bool) : State :=
  let flags := b2n e.asserts + 2 * b2n e.wire + 4 * b2n promoted + 8 * b2n e.inj
  let s := s.post 0x80 [(1, 1, cls), (2, 2, e.src), (8, 8, e.dt), (16, 1, e.code), (17, 1, e.rep),
    (18, 1, flags), (19, 1, wcount)]
  let r : FltRec := { src := e.src, code := e.code, flags := flags, cls := cls, rep := e.rep, dt := e.dt }
  let h := s.flt.history ++ [r]
  { s with flt := { s.flt with history := h.drop (h.length - 1024) } }

/-- A candidate of the first-error latch (R366). -/
def State.firstCand (s : State) (e : FltEv) (cls : Nat) : State :=
  if cls < s.rd FLT.CFG then s
  else if s.rdB FLT.FIRST_VALID then s.wrB FLT.STAT_OVERFLOW true
  else
    let c : FirstCand := { src := e.src, code := e.code, cls := cls, dt := e.dt, at_ := e.at_ }
    let at_ := if s.flt.first.isEmpty then s.now else s.flt.firstAt
    { s with flt := { s.flt with first := s.flt.first ++ [c], firstAt := at_ } }

/-- An event counts in its source's window; answers the state, the count and whether it promotes. -/
def State.countEvent (s : State) (e : FltEv) : State × Nat × Bool :=
  let i := e.src
  let s := s.count SRC.TOTAL i 0 (1 + e.rep)
  let opens := s.winOpens i e.at_
  let n := if opens then 1 else Nat.min 255 (s.rd SRC.STAT_WCOUNT i + 1 + e.rep)
  let s := s.when opens (fun s => s.setFsrc i { s.fsrc i with winAt := some e.at_ })
  (s.wr SRC.STAT_WCOUNT n i, n, s.rd SRC.CFG_N i ≤ n)

/-- Source i is promoted to its class: FAULT_PROMOTED, the window closes, Shears and, for FATAL, the hold
(R363, R365, R373). -/
def State.promote (s : State) (e : FltEv) (cls : Nat) : State :=
  let i := e.src
  let age := (e.at_ - (s.fsrc i).winAt.getD e.at_) / msH
  let s := (s.wrB SRC.STAT_ACTIVE true i).post 0x81
    [(1, 1, cls), (2, 2, i), (8, 8, e.dt), (16, 1, s.rd SRC.CFG_N i), (20, 4, age)]
  let s := (s.setFsrc i { s.fsrc i with winAt := none }).wr SRC.STAT_WCOUNT 0 i
  let s := s.shears
  s.when (cls = cFatal) (·.fatalHold i e.code)

/-- One event is taken up by the collector. -/
def State.faultEvent (s : State) (e : FltEv) : State :=
  let cls := s.rd SRC.CFG_CLASS e.src
  if e.asserts then
    let r := s.countEvent e
    let s := r.1
    let s := s.when (!s.rdB SRC.CFG_QUIET e.src || r.2.2) (·.faultRecord e cls r.2.1 r.2.2)
    let s := s.firstCand e cls
    s.when r.2.2 (·.promote e cls)
  else
    s.when (!s.rdB SRC.CFG_QUIET e.src) (·.faultRecord e cls (s.rd SRC.STAT_WCOUNT e.src) false)

/-- The lowest source that holds events for want of a credit sends its oldest (R25). -/
def State.fltRelease (s : State) : State :=
  match (s.flt.src.map (·.1)).find? (fun i => !(s.fsrc i).held.isEmpty) with
  | none => s
  | some i =>
    match (s.fsrc i).held with
    | [] => s
    | h :: l => (s.setFsrc i { s.fsrc i with held := l }).fltEnqueue h

/-- The oldest event of queue 76 is taken up; its credit returns to a source that waits. -/
def State.fltNext (s : State) : State :=
  match s.flt.queue with
  | [] => s
  | e :: rest =>
    let s := { s with flt := { s.flt with queue := rest } }
    (s.faultEvent e).fltRelease

/-- FAULT_OCCURRENCE_END (R360): the assertion of an occurrence ends. -/
def execFaultOccurrenceEnd (i : Nat) (s : State) : Host.Outcome State Fault Refusal :=
  s.runIf (i < 256) (fun s =>
    match (s.fsrc i).occEnd with
    | none => s
    | some t =>
      let s := (s.to t).setFsrc i { s.fsrc i with occEnd := none }
      s.wrB SRC.STAT_ASSERTED (s.srcOn i) i)

/-! ### Wires (R362) -/

/-- The rails of source i have stayed equal: WIRE sets, as a cause of its own. -/
def State.wireSet (s : State) (i code : Nat) (inj : Bool) : State :=
  if !s.srcPresent i || s.rdB SRC.STAT_WIRE i then s
  else
    let e : FltEv := { src := i, code := code, dt := s.dtNs, at_ := s.now, asserts := !s.srcOn i, wire := true,
                       inj := inj }
    ((s.wrB SRC.STAT_WIRE true i).wrB SRC.STAT_ASSERTED true i).fltEnqueue e

def State.wireClear (s : State) (i : Nat) : State :=
  let s := s.wrB SRC.STAT_WIRE false i
  s.wrB SRC.STAT_ASSERTED (s.srcOn i) i

/-- RAIL_MISMATCH (R362): the rails of source i have stayed equal, or have differed, for 2 cycles. No rule
states the CODE of a WIRE record: it is a free value. -/
def execRailMismatch (i : Nat) (equal : Bool) (at_ : Nat) (s : State) : Host.Outcome State Fault Refusal :=
  s.runIf (i < 256) (fun s =>
    let s := s.to at_
    if equal then s.useFree.wireSet i (s.freeVal % 256) false else s.wireClear i)

/-! ### First-error latch (R366) -/

/-- The candidate with the earliest DT; among those within one tick of it, the lowest source. -/
def bestCand (l : List FirstCand) : Option (FirstCand × Bool) :=
  match l with
  | [] => none
  | c :: cs =>
    let e := cs.foldl (fun a b => if b.at_ < a.at_ then b else a) c
    let same := l.filter (fun x => x.at_ ≤ e.at_ + 32)
    let b := same.foldl (fun a b => if b.src < a.src then b else a) e
    some (b, same.any (fun x => x.src ≠ b.src))

/-- FIRST_ERROR_LATCH (R366): 1 µs after the first candidate. -/
def execFirstErrorLatch (s : State) : Host.Outcome State Fault Refusal :=
  s.run (fun s =>
    match bestCand s.flt.first with
    | none => s
    | some (c, sim) =>
      let s := s.to (s.flt.firstAt + usH)
      let s := { s with flt := { s.flt with first := [] } }
      let s := (s.wrB FLT.FIRST_VALID true).wrB FLT.FIRST_SIMULTANEOUS sim
      ((((s.wr FLT.FIRST_CLASS c.cls).wr FLT.FIRST_CODE c.code).wr FLT.FIRST_SOURCE c.src).wr
        FLT.FIRST_DT c.dt))

/-- VALID, SIMULTANEOUS and OVERFLOW clear. -/
def State.firstClear (s : State) : State :=
  ((s.wrB FLT.FIRST_VALID false).wrB FLT.FIRST_SIMULTANEOUS false).wrB FLT.STAT_OVERFLOW false

/-- FIRST_VALID_CLEAR (R366): a write of 1 to FLT.FIRST.VALID. -/
def execFirstValidClear (s : State) : Host.Outcome State Fault Refusal :=
  s.run (fun s => s.hostWrite (·.firstClear))

/-! ### ACTIVE and counters (R364) -/

/-- A clear of ACTIVE of source i: refused while the source is asserted. -/
def State.activeClear (s : State) (i : Nat) : State :=
  if !s.rdB SRC.STAT_ACTIVE i then s
  else if s.srcOn i then s.wrB SRC.STAT_CLEAR_REFUSED true i
  else s.wrB SRC.STAT_ACTIVE false i

/-- Entry into STANDBY clears ACTIVE and closes the window of every source not asserted (R364). -/
def State.faultsStandby (s : State) : State :=
  s.each (List.range 203) (fun i s =>
    if s.srcOn i then s
    else
      let s := (s.wrB SRC.STAT_ACTIVE false i).wr SRC.STAT_WCOUNT 0 i
      if (s.fsrc i).winAt.isSome then s.setFsrc i { s.fsrc i with winAt := none } else s)

/-- OCM_CE and every TOTAL clear. -/
def State.fltCounters (s : State) : State :=
  (s.wr FLT.OCM_CE 0).each (List.range 203) (fun i s => s.wr SRC.TOTAL 0 i)

/-- FLT_CNT_CLR (Table 16.10). -/
def execFltCntClr (s : State) : Host.Outcome State Fault Refusal :=
  s.run (fun s => s.hostWrite (·.fltCounters))

/-! ### Injection (R367) -/

/-- The injector drives the rails of a source, or releases them. -/
def State.injDrive (s : State) (j : InjSt) (on : Bool) : State :=
  if 2 ≤ j.kind then (if on then s.wireSet j.src 0xFF true else s.wireClear j.src)
  else if on then s.fltSet j.src 0xFF true else s.fltEnd j.src 0xFF

/-- An injection starts; COUNT 0 injects once. One that still runs is released first. -/
def State.inject (s : State) (src kind count hold : Nat) : State :=
  let s := match s.flt.inj with
    | some j => s.when j.on (·.injDrive j false)
    | none => s
  let j : InjSt :=
    { src := src, kind := kind, left := count - 1, hold := if kind = 0 then 1 else hold, on := true,
      at_ := s.now }
  { s with flt := { s.flt with inj := some j } }.injDrive j true

/-- A write of 1 to FLT.INJ.GO: in FACTORY it starts the injection, else it is refused under R12. Answers
whether it was refused. -/
def State.injGo (s : State) (w : WSrc) : State × Bool :=
  if s.modeIn [.factory] then
    (s.inject (s.rd FLT.INJ_SOURCE) (s.rd FLT.INJ_KIND) (s.rd FLT.INJ_COUNT) (s.rd FLT.INJ_HOLD), false)
  else
    (match w with
      | .bar0 => s.checkRec 3 .bar0 (FLT.INJ_GO.addr 0 0) 31 1 0
      | .batch _ _ _ => s, true)

/-- INJ_GO (R367): a direct BAR0 write of 1 to FLT.INJ.GO. -/
def execInjGo (s : State) : Host.Outcome State Fault Refusal :=
  s.run (fun s => s.hostWrite (fun s => (s.injGo .bar0).1))

/-- FAULT_INJECTION_TIMER (R367): the HOLD of a repetition ends, or the next repetition starts 10 µs after
the previous one ended. -/
def execFaultInjectionTimer (s : State) : Host.Outcome State Fault Refusal :=
  s.run (fun s =>
    match s.flt.inj with
    | none => s
    | some j =>
      if j.on then
        let s := (s.to (j.at_ + usH * j.hold)).injDrive j false
        { s with flt := { s.flt with inj :=
          if j.left = 0 then none else some { j with on := false, at_ := s.now } } }
      else
        let s := s.to (j.at_ + 10 * usH)
        let j' : InjSt := { j with on := true, left := j.left - 1, at_ := s.now }
        { s with flt := { s.flt with inj := some j' } }.injDrive j' true)

end Sys2Proof.Machine
end

