-- ==== Sys2Proof/Machine/Probe.lean ====
section
/-!
DEFINITION. The current of the impedance probe (R250, R251): its code, its tones and the αβ pair it injects.
Sums are formed exactly and rounded once (DEDUCED, log 22).
-/
namespace Sys2Proof.Machine

/-- n bits of a maximal sequence that begins with the window w, oldest bit first; `taps` are the positions
whose exclusive-or is the next bit. -/
def mseq (taps : List Nat) : Nat → List Bool → List Bool
  | 0, _ => []
  | n + 1, w =>
    let x := taps.foldl (fun a i => a != w.getD i false) false
    w.headD false :: mseq taps n (w.drop 1 ++ [x])

def ones7 : List Bool := List.replicate 7 true
def seqA : List Bool := mseq [0, 3] 127 ones7
def seqB : List Bool := mseq [0, 1, 2, 3] 127 ones7

/-- The Gold code bit g(j) of a CODE. -/
def gold (code j : Nat) : Bool := (seqA.getD (j % 127) false) != (seqB.getD ((j + 2 * code) % 127) false)

/-- The chip value of tone k in chip j: +1 or −1. -/
def chipSign (code j k : Nat) : Int := if gold code ((j + 16 * k) % 127) then -1 else 1

/-- A chip and a code period in ns (R251). -/
def chipNs : Nat := 4000000
def codeNs : Nat := 508000000

/-- The angle of a tone at device time dt, in fixed point with 96 fraction bits. -/
def toneAngle (freq dt : Nat) : Int :=
  let p := freq * (dt % 10000000000) % 10000000000
  let a : Int := ((2 * (piQ >>> 160) * p / 10000000000 : Nat) : Int)
  let pi : Int := ((piQ >>> 160 : Nat) : Int)
  if pi < a then a - 2 * pi else a

/-- The probe is enabled in a mode in which it injects (R250). -/
def State.probeLive (s : State) : Bool := s.ready 37 && s.rdB PRB.CFG_EN && s.modeIn runModes

/-- The probe injects at this moment (R250, R252). -/
def State.probeRuns (s : State) : Bool := s.probeLive && s.prb.listen.isNone

/-- The probe injects at device time dt: a listen period omits its own code period and no more (R252). -/
def State.probeRunsAt (s : State) (dt : Nat) : Bool := s.probeLive && !s.prb.listen.any (fun p => dt / codeNs = p)

/-- The αβ pair in force at device time dt. -/
def State.probePair (s : State) (dt : Nat) : Nat × Nat :=
  if !s.probeRunsAt dt then (0, 0)
  else
    let j := dt / chipNs % 127
    let code := s.rd PRB.CFG_CODE
    let amp (k : Nat) : Int := fFloorAt (s.rd TONE.AMP k) 60 * fFloorAt (s.rd PRB.I_BASE) 24 * chipSign code j k
    let ang (k : Nat) : Int := toneAngle (s.rd TONE.FREQ k) dt
    let sum (f : Int → Int) : Int := (List.range 8).foldl (fun a k => a + amp k * f (ang k)) 0
    (fPackI (sum cosQ) (-180), fPackI (sum sinQ) (-180))

/-- E of the latest estimate as a binary32. -/
def State.probeExceed (s : State) : Nat := fOfNat (s.rd PRB.STAT_EXCEED)

end Sys2Proof.Machine
end

