-- ==== Sys2Proof/Machine/Store.lean ====
section
/-!
DEFINITION. The signal space (R181 to R183, R207): reading and writing points, and what every write brings
about: the mailbox copies (R208), the trigger units and POST clocks of Sieve (R327 to R331), the SYNC inputs
and the firing of nodes (R187).
-/
namespace Sys2Proof.Machine

/-! ### Points -/

/-- The calibration points (R170): OFFSET and GAIN of channel ch at 2·ch and 2·ch + 1 from here. -/
def calBase : Nat := 0x2FC00
def isCal (p : Nat) : Bool := calBase ≤ p && p < calBase + 352

/-- What a point reads as that nothing has written: 0; 1.0 for a GAIN (R170) and for the limit of a leg (Table 9.2);
+inf for the age of a DC input's map fold (Table 11.2). -/
def spDef (p : Nat) : Nat :=
  if isCal p && p % 2 = 1 then fOne else if 0x4300 ≤ p && p < 0x43C0 && p % 8 = 7 then fInf false
  else if p = 0x4299 || (0x4100 ≤ p && p < 0x4280 && p % 4 = 2) then fOne else 0

/-- The value of a point; of a coefficient point, in its active bank. -/
def State.sp (s : State) (p : Nat) : Nat := tgetD s.pts p (spDef p)

/-- The store takes a value. -/
def State.spPut (s : State) (p v : Nat) : State :=
  { s with pts := tput s.pts p (v % 2 ^ 32) (spDef p) }

/-- The partitions of Table 8.1. -/
inductive Part where
  | sensor | state | coef | setpoint | output | scratch
  deriving DecidableEq, Repr

def partOf (p : Nat) : Part :=
  if p < 0x4000 then .sensor
  else if p < 0x20000 then .state
  else if p < 0x30000 then .coef
  else if p < 0x34000 then .setpoint
  else if p < 0x38000 then .output
  else .scratch

/-- The sample sequence number of a point (R207), none where it has none. -/
def State.seqOf (s : State) (p : Nat) : Option Nat :=
  if [Part.coef, .setpoint, .scratch].contains (partOf p) then none else
  if p < 0x2C0 then (if (tget s.pts (p / 4 * 4 + 3)).isSome then some (s.sp (p / 4 * 4 + 3)) else none)
  else tget s.seqs p

/-! ### Trigger units (R327 to R330) -/

/-- B as used: a negative B is 0. -/
def trgB (b : Nat) : Int := if fScaled b < 0 then 0 else fScaled b

/-- ⌊256·f⌉ of a fraction f = a / b, clamped to 0–255. -/
def frac256 (a b : Int) : Nat :=
  let (a, b) := if b < 0 then (-a, -b) else (a, b)
  if b = 0 then 0 else (clampI 0 255 (rneDiv (256 * a) b.toNat)).toNat

/-- The Catmull–Rom segment at f = m / 256, times 2 · 256³. -/
def catmull (xm x0 x1 x2 : Int) (m : Int) : Int :=
  2 * x0 * 256 ^ 3 + (x1 - xm) * m * 256 ^ 2 + (2 * xm - 5 * x0 + 4 * x1 - x2) * m ^ 2 * 256
    + (3 * x0 - xm - 3 * x1 + x2) * m ^ 3

/-- Eight bisection steps for the smallest f at which the segment reaches L (R329), in 1/256. -/
def bisect (f : Int → Bool) : Nat → Nat → Nat → Nat
  | 0, _, hi => hi
  | n + 1, lo, hi => let m := (lo + hi) / 2; if f m then bisect f n lo m else bisect f n m hi

/-- The fraction of a cubic crossing once write +2 is known. -/
def cubicFrac (c : CubicSt) (x2 : Nat) : Nat :=
  let x0 := fScaled c.x0
  let x1 := fScaled c.x1
  let l := fScaled c.level
  let p (m : Int) : Int := catmull (fScaled c.xm) x0 x1 (fScaled x2) m
  let up := decide (x0 ≤ x1)
  let reached (m : Int) : Bool := if up then decide (2 * l * 256 ^ 3 ≤ p m) else decide (p m ≤ 2 * l * 256 ^ 3)
  if reached 0 then 0 else Nat.min 255 (bisect reached 8 0 256)

/-- What a write (x, dt) does to an armed unit: whether it fires, the level it crossed, and the arms after
it. -/
def trgJudge (kind dir a b : Nat) (t : TrgSt) (xp dtp x dt : Nat) : Bool × Option Nat × TrgSt :=
  let fa := fScaled a
  let v := fScaled x
  let vp := fScaled xp
  if kind = 1 then
    let h := trgB b
    let up := (dir = 0 || dir = 2) && t.up && vp < fa && fa ≤ v
    let dn := (dir = 1 || dir = 2) && t.down && fa < vp && v ≤ fa
    (up || dn, some a,
      { t with up := if up then decide (v + h ≤ fa) else t.up || decide (v + h ≤ fa)
               down := if dn then decide (fa + h ≤ v) else t.down || decide (fa + h ≤ v) })
  else if kind = 2 then
    ((if dir = 0 then decide (fa ≤ v) else if dir = 1 then decide (v ≤ fa) else decide (fa ≤ v.natAbs)),
      none, t)
  else if kind = 3 then
    let hi := trgB b
    let ins (y : Int) : Bool := decide (fa ≤ y) && decide (y ≤ hi)
    let enter := (dir = 0 || dir = 2) && ins v && !ins vp
    let leave := (dir = 1 || dir = 2) && !ins v && ins vp
    let low := if enter then vp < fa else v < fa
    (enter || leave, some (if low then a else if fScaled b < 0 then 0 else b), t)
  else if kind = 4 then
    let dd : Int := (dt : Int) - dtp
    let num := (v - vp) * 1000000000
    let num := if dd < 0 then -num else num
    let d : Int := dd.natAbs
    let ge := decide (fa * d ≤ num) && !(d = 0 && num = 0)
    let le := decide (num ≤ -(fa * d)) && !(d = 0 && num = 0)
    ((if dir = 0 then ge else if dir = 1 then le
      else decide (fa * d ≤ num.natAbs) && !(d = 0 && num = 0)), none, t)
  else (false, none, t)

/-- The CK_FAB cycle of an instant: cycles are 128/5 h long. -/
def fabCycle (t : Nat) : Nat := 5 * t / 128

/-- A trigger cause reaches engine e, which is ARMED, or in FILL for a force; within one CK_FAB cycle a fire
precedes a force, a force the expiry, and among fires the lowest unit (R333, R334). -/
def State.offerCause (s : State) (e : Nat) (c : CapCause) : State :=
  match s.capOf e with
  | none => s
  | some k =>
    let st := s.rd CAP.STAT_STATE e
    if !(st = 2 || (st = 1 && c.kind = 1)) then s
    else
      let better := match k.cause with
        | none => true
        | some o => o.cyc = c.cyc && (c.kind < o.kind || (c.kind = o.kind && c.unit < o.unit))
      if better then { s with caps := tput s.caps e (some { k with cause := some c }) none } else s

/-- Unit u fires at a write of x with DT dt (R330). -/
def State.trgFire (s : State) (u x dt cross f : Nat) : State :=
  let s := (((s.count TRG.FIRE_CNT u).wrB TRG.STAT_FIRED true u).wr TRG.LAST_DT cross u).wr TRG.STAT_FRAC f u
  let s := s.each (List.range 8) (fun e s => match s.capOf e with
    | some k => if bit k.cfg.mask u then s.offerCause e ⟨0, u, dt, cross, f, fabCycle s.now⟩ else s
    | none => s)
  let t := tgetD s.trgs u {}
  let due := match t.evtAt with
    | some a => decide (a + msH ≤ s.now)
    | none => true
  if s.rdB TRG.CFG_EVT u && due then
    ({ s with trgs := tput s.trgs u { t with evtAt := some s.now } {} }).post 0x51
      [(1, 1, u), (2, 1, f), (8, 8, cross), (16, 4, x)]
  else s

/-- The crossing time at a fraction f / 256 between two writes, the second of which may have the earlier DT where a DT
step lies between (R329, R431). -/
def crossAt (dt0 dt1 f : Nat) : Nat := ((dt0 : Int) + ((dt1 : Int) - dt0) * f / 256).toNat

/-- A cubic crossing of unit u is resolved at write +2: FRAC, LAST_DT and the capture it triggered. -/
def State.trgResolve (s : State) (u x2 : Nat) (c : CubicSt) : State :=
  let f := cubicFrac c x2
  let cross := crossAt c.dt0 c.dt1 f
  let s := (s.wr TRG.LAST_DT cross u).wr TRG.STAT_FRAC f u
  s.each (List.range 8) (fun e s => match s.capOf e with
    | some k => match k.cause with
      | some o =>
        let k' : CapSt := { k with cause := some { o with trigDt := cross, frac := f } }
        if o.kind = 0 && o.unit = u && o.dt = c.dt1 then { s with caps := tput s.caps e (some k') none } else s
      | none => s
    | none => s)

/-- Trigger unit u sees a write of x with DT dt to its point. -/
def State.trgWrite (s : State) (u x dt : Nat) : State :=
  if !fFinite x then s
  else
    let t := tgetD s.trgs u {}
    let s := match t.cubic with
      | some c => s.trgResolve u x c
      | none => s
    match t.prev with
    | none => { s with trgs := tput s.trgs u { t with prev := some (x, dt), cubic := none } {} }
    | some (xp, dtp) =>
      let r := trgJudge (s.rd TRG.CFG_KIND u) (s.rd TRG.CFG_DIR u) (s.rd TRG.A u) (s.rd TRG.B u) t xp dtp x dt
      let cub := match r.2.1, t.prev2 with
        | some l, some xm =>
          if r.1 && s.rdB TRG.CFG_INTERP u then some (⟨xm, xp, x, l, dtp, dt⟩ : CubicSt) else none
        | _, _ => none
      let t' := { r.2.2 with prev := some (x, dt), prev2 := some xp, cubic := cub }
      let s := { s with trgs := tput s.trgs u t' {} }
      if !r.1 then s
      else
        match r.2.1 with
        | none => s.trgFire u x dt dt 0
        | some l =>
          let f := frac256 (fScaled l - fScaled xp) (fScaled x - fScaled xp)
          s.trgFire u x dt (crossAt dtp dt f) f

/-- Sieve sees a write of x, with DT dt, to point p. -/
def State.sieveWrite (s : State) (p x dt : Nat) : State :=
  if !s.ready 40 || s.rdB FLT.STAT_FATAL_HOLD then s
  else
    let hit := (List.range 16).filter (fun u => s.rdB TRG.CFG_EN u && s.rd TRG.SP u = p)
    (s.each hit (fun u s => s.trgWrite u x dt)).fireEngs dt (fun c =>
      c.src = 1 && decide (c.chans.head? = some p))

/-! ### Mailboxes (R208) -/

/-- The mailboxes bound to point p. -/
def State.boxesOf (s : State) (p : Nat) : List Nat :=
  (List.range 64).filter (fun m => s.rdB ESP.MBOX_CFG_EN 0 m && s.rd ESP.MBOX_CFG_SP 0 m = p)

/-- A new value of point p goes to the mailboxes bound to it through queue 81; without a credit the update waits for
one in front of the queue (R25). -/
def State.boxWrite (s : State) (p v n : Nat) : State :=
  s.each (s.boxesOf p) (fun m s =>
    let u : MboxUpd := ⟨m, p, v, n⟩
    if s.esp.mboxHold.isEmpty && decide (s.esp.mboxQ.length < 32) then
      ({ s with esp := { s.esp with mboxQ := s.esp.mboxQ ++ [u] } }).queueHolds 81 (s.esp.mboxQ.length + 1)
    else ({ s with esp := { s.esp with mboxHold := s.esp.mboxHold ++ [u] } }).stalled 81)

/-! ### SYNC inputs and firing (R187) -/

def State.cadSt (s : State) (c : Nat) : CadSt := tgetD s.esp.cads c {}
def State.setCad (s : State) (c : Nat) (v : CadSt) : State :=
  { s with esp := { s.esp with cads := tput s.esp.cads c v {} } }
def State.nodeSt (s : State) (i : Nat) : NodeSt := tgetD s.esp.nodes i {}
def State.setNode (s : State) (i : Nat) (v : NodeSt) : State :=
  { s with esp := { s.esp with nodes := tput s.esp.nodes i v {} } }

/-- The nodes of the loaded graph. -/
def State.nodes (s : State) : List NodeCfg :=
  match s.esp.graph with
  | some g => g.nodes
  | none => []

/-- The nodes of cadence c, by number. -/
def State.nodesOf (s : State) (c : Nat) : List (NodeCfg × Nat) :=
  s.nodes.zipIdx.filter (fun p => p.1.cad = c)

/-- The edge is read as SYNC: set-points are read as SNAP, coefficients as LATEST, whatever the KIND. -/
def EdgeCfg.sync (e : EdgeCfg) : Bool :=
  e.kind = 0 && partOf e.src ≠ .setpoint && partOf e.src ≠ .coef

def EdgeCfg.snap (e : EdgeCfg) : Bool :=
  partOf e.src = .setpoint || (e.kind = 3 && partOf e.src ≠ .coef)

/-- The SYNC input is present in the sample. -/
def Sample.has (m : Sample) (e : EdgeCfg) : Bool :=
  if e.node = 0xFFFF then (tget m.caps e.src).isSome else (tget m.outs e.src).isSome

/-- The initial value of a point of the loaded graph; 0 where the image gives none. -/
def State.initOf (s : State) (p : Nat) : Nat :=
  match s.esp.graph with
  | some g => tgetD g.inits p 0
  | none => 0

/-- The last valid outputs of node i, or the initial values of its output points (R192). -/
def State.heldOuts (s : State) (n : NodeCfg) (i : Nat) : List Nat :=
  match (s.nodeSt i).outs with
  | [] => (List.range n.nOut).map (fun j => s.initOf (n.outBase + j))
  | l => l

/-- The value a PREV edge reads: what its node had written before it fired in this sample, or has last written where it
has not, whatever the host has written over it since (Table 8.3). -/
def State.prevVal (s : State) (m : Sample) (e : EdgeCfg) : Nat :=
  match tget m.prev e.src, s.nodes[e.node]? with
  | some v, _ => v
  | none, some n => (s.heldOuts n e.node).getD (e.src - n.outBase) 0
  | none, none => s.sp e.src

/-- The value an edge reads at firing (Table 8.3). -/
def State.edgeVal (s : State) (m : Sample) (e : EdgeCfg) : Nat :=
  if e.snap then tgetD m.snaps e.src 0
  else if e.sync then (if e.node = 0xFFFF then tgetD m.caps e.src 0 else tgetD m.outs e.src 0)
  else if e.kind = 2 then s.prevVal m e
  else s.sp e.src

/-- TASKS and TASK_HWM follow the task table. -/
def State.taskCount (s : State) : State :=
  let n := s.esp.tasks.length
  let s := s.wr ESP.STAT_TASKS n
  if s.rd ESP.TASK_HWM < n then s.wr ESP.TASK_HWM n else s

/-- The group a leg has by its present ROLE, or where the supervisor has put it as a spare (R214). -/
def State.roleGroup (s : State) (n : Nat) : Option Nat :=
  let r := s.role n
  if 1 ≤ r && r ≤ 3 then some (r - 1) else (tgetD s.phgLegs n {}).group

/-- The group of a leg: that of its ROLE, once a change of it has taken effect (R217). -/
def State.phaseGroup (s : State) (n : Nat) : Option Nat := (tgetD s.phgLegs n {}).stay.getD (s.roleGroup n)

/-- What IMP nodes read at the opening of a sample with this DT (R250): the pair, exceed, island. -/
def State.probeEnv (s : State) (dt : Nat) : List Nat :=
  let p := s.probePair dt
  [p.1, p.2, s.probeExceed, if s.prb.island then fOne else 0]

/-- What the unit behind a node shows it at its firing: weight, state and e_ph to SHR, the mode to THM, the period
to PWO (LPERIOD when OWNPER = 1, R198), the probe at the opening to IMP, points j = 0 and 4 to 7 of its input to MPT. -/
def State.nodeEnv (s : State) (nd : NodeCfg) (m : Sample) : List Nat :=
  let n := bits nd.param 0 7
  match nd.type with
  | 0x0F =>
    let e := match s.phaseGroup n with
      | some g => s.sp (0x4280 + 8 * g + 1)
      | none => 0
    [s.sp (0x4100 + 4 * n), s.sp (0x4101 + 4 * n), e]
  | 0x13 => m.probe
  | 0x14 =>
    let k := 0x4300 + 8 * bits nd.param 0 5
    [s.sp k, s.sp (k + 4), s.sp (k + 5), s.sp (k + 6), s.sp (k + 7)]
  | 0x15 => [b2n (decide (s.mm.cur = .ride))]
  | 0x16 => [if s.ownAsked n then s.rd LEG.LPERIOD n else s.rd BRK.PERIOD_NOW (n / 12)]
  | _ => []

/-- A node that may fire: its cadence, sample, entry and number, and the instant and DT at which it became ready. -/
structure Cand where
  cad : Nat
  m : Sample
  nd : NodeCfg
  i : Nat
  readyAt : Nat
  readyDt : Nat

/-- The candidate is that of a node that waits for a task entry. -/
def Cand.waits (c : Cand) (w : WaitSt) : Bool := w.node = c.i && w.num = c.m.num

/-- The nodes of cadence c that may fire in sample m, behind the older samples of the cadence: all SYNC inputs are
present, the node has completed or been skipped in the older ones, and no task of it is in flight (R186, R187). A node
that already waits for an entry keeps the instant at which it became ready. -/
def State.candsOf (s : State) (c : Nat) (older : List Sample) (m : Sample) : List Cand :=
  (s.nodesOf c).filterMap (fun p =>
    if !m.fired.contains p.2 && p.1.edges.all (fun e => !e.sync || m.has e)
        && older.all (fun o => o.done.contains p.2) && !s.esp.tasks.any (fun t => t.node = p.2) then
      match s.esp.stalled.find? (fun w => w.node = p.2 && w.num = m.num) with
      | some w => some ⟨c, m, p.1, p.2, w.readyAt, w.readyDt⟩
      | none => some ⟨c, m, p.1, p.2, s.now, s.dtNs⟩
    else none)

/-- The candidates of a cadence's samples, oldest first, behind those of `older`. -/
def State.candsIn (s : State) (c : Nat) : List Sample → List Sample → List Cand
  | _, [] => []
  | older, m :: rest => s.candsOf c older m ++ s.candsIn c (older ++ [m]) rest

/-- The class and priority of a cadence, greatest first (R189). -/
def State.cadRank (s : State) (c : Nat) : Nat × Nat :=
  match s.esp.graph with
  | some g => match g.cads[c]? with
    | some k => (b2n k.loop, k.prio)
    | none => (0, 0)
  | none => (0, 0)

/-- Of two ready at an instant each, the first goes before the second (R189). -/
def State.goesBefore (s : State) (c1 at1 c2 at2 : Nat) : Bool :=
  let x := s.cadRank c1
  let y := s.cadRank c2
  y.1 < x.1 || (x.1 = y.1 && (y.2 < x.2 || (x.2 = y.2 && decide (at1 < at2))))

/-- The candidate that goes first. -/
def State.bestCand (s : State) (l : List Cand) : Option Cand :=
  l.foldl (fun b c => match b with
    | none => some c
    | some o => if s.goesBefore c.cad c.readyAt o.cad o.readyAt then some c else b) none

/-- A candidate fires: its task enters the table. -/
def State.fireNode (s : State) (c : Cand) : State :=
  let nd := c.nd
  let x := s.nodeSt c.i
  let t : TaskSt :=
    { node := c.i, cad := c.cad, num := c.m.num, ins := nd.edges.map (s.edgeVal c.m)
      coefs := (List.range nd.nCoef).map (fun j => s.sp (nd.coefBase + j))
      st := (List.range nd.nState).map (fun j => s.sp (nd.stateBase + j))
      env := s.nodeEnv nd c.m, step := c.m.step, gap := c.m.gap, openDt := c.m.dt, era := c.m.era, tag := c.m.tag
      readyAt := c.readyAt, readyDt := c.readyDt, first := c.m.firsts.contains c.i, fresh := !x.ran }
  let k := s.cadSt c.cad
  let s := (s.setNode c.i { x with ran := true }).setCad c.cad { k with samples := k.samples.map (fun m =>
    if m.num = c.m.num then { m with fired := m.fired ++ [c.i] } else m) }
  { s with esp := { s.esp with tasks := s.esp.tasks ++ [t] } }.taskCount

/-- The candidates left over wait for an entry; TASK_STALL counts each once (R189). -/
def State.stallAll (s : State) (l : List Cand) : State :=
  let fresh := l.filter (fun c => !s.esp.stalled.any c.waits)
  let w := l.map (fun c => (⟨c.i, c.cad, c.m.num, c.readyAt, c.readyDt⟩ : WaitSt))
  s.each fresh (fun _ s => s.count ESP.TASK_STALL) |> fun s => { s with esp := { s.esp with stalled := w } }

/-- The candidates enter the task table in their order, as far as it has room. -/
def State.enterAll : Nat → State → List Cand → State
  | 0, s, l => s.stallAll l
  | n + 1, s, l =>
    if 512 ≤ s.esp.tasks.length then s.stallAll l
    else match s.bestCand l with
      | none => s.stallAll []
      | some c => State.enterAll n (s.fireNode c) (l.filter (fun x => !(x.i = c.i && x.m.num = c.m.num)))

/-- Every node that may fire now fires, or waits for an entry of the task table. -/
def State.fire (s : State) : State :=
  let l := s.esp.cads.flatMap (fun p => s.candsIn p.1 [] p.2.samples)
  State.enterAll l.length s l

/-- A sensor point has been posted: the open samples that read it as SYNC and have not captured it do. -/
def State.capture (s : State) (p v : Nat) (tag : Option Nat) : State :=
  s.each (s.esp.cads.map (·.1)) (fun c s =>
    let k := s.cadSt c
    if k.samples.isEmpty then s
    else
      if (s.nodesOf c).any (fun n => n.1.edges.any (fun e => e.sync && e.node = 0xFFFF && e.src = p)) then
        s.setCad c { k with samples := k.samples.map (fun m =>
          if (tget m.caps p).isSome then m
          else { m with caps := tins m.caps p v, tag := match tag with
            | some t => some t
            | none => m.tag }) }
      else s)

/-! ### Writes -/

/-- A node of the graph reads the point as it stands at an opening. -/
def State.snapSrc (s : State) (p : Nat) : Bool := s.nodes.any (fun n => n.edges.any (fun e => e.snap && e.src = p))

/-- Before a write of point p: what stands there is kept for the samples that opened, or open in this cycle, and whose
SAMPLE_OPEN is still to come. -/
def State.keepOld (s : State) (p : Nat) : State :=
  if (s.cadTrigs.isEmpty && partOf p ≠ .setpoint) || !s.snapSrc p then s
  else
    let due (o : OldVal) : Bool :=
      fabCycle o.at_ = fabCycle s.now || s.cadTrigs.any (fun c => decide (fabCycle c.2 ≤ fabCycle o.at_))
    { s with esp := { s.esp with olds := s.esp.olds.filter due ++ [(⟨p, s.sp p, s.now⟩ : OldVal)] } }

/-- What a sample that opens at instant t reads as SNAP: a set-point as it stood before the CK_FAB cycle of t (R204),
another point as it stood at t. -/
def State.snapAt (s : State) (p t : Nat) : Nat :=
  match s.esp.olds.find? (fun o => o.point = p &&
    (if partOf p = .setpoint then decide (fabCycle t ≤ fabCycle o.at_) else decide (t < o.at_))) with
  | some o => o.value
  | none => s.sp p

/-- The host has written scratch point p in this CK_FAB cycle: its value stands (R183). -/
def State.hostStands (s : State) (p : Nat) : Bool := s.esp.hostWr.contains (p, fabCycle s.now)

/-- What every write of a point brings about beside Espalier's firing. `num` is the sample sequence number it
brings; where none is given, the count of posts of the point. -/
def State.writeOne (s : State) (p v dt : Nat) (num : Option Nat) : State :=
  let s := (s.keepOld p).spPut p v
  let n := match num with
    | some n => n
    | none => (tgetD s.seqs p 0 + 1) % 2 ^ 32
  let s := if p < 0x2C0 then s else { s with seqs := tins s.seqs p n }
  (s.boxWrite p v (if p < 0x2C0 then s.sp (p / 4 * 4 + 3) else n)).sieveWrite p v dt

/-- A value reaches point p of the store without a post: its sequence number stays, mailboxes and Sieve take it. -/
def State.storeWrite (s : State) (p v : Nat) : State :=
  let s := (s.keepOld p).spPut p v
  (s.boxWrite p v ((s.seqOf p).getD 0)).sieveWrite p v s.dtNs

/-- The device posts points in one CK_FAB cycle. -/
def State.posts (s : State) (l : List (Nat × Nat)) : State :=
  let dt := s.dtNs
  let s := s.each l (fun p s => s.writeOne p.1 p.2 dt none)
  let s := s.each l (fun p s => if p.1 < 0x4000 then s.capture p.1 p.2 none else s)
  s.fire

/-- The four points of a sensing result, in one cycle; the value point carries the DT tag (R166, R327). -/
def State.postResult (s : State) (base value raw tag seq : Nat) : State :=
  let dt := s.dtNs
  let l := [(base + 3, seq), (base + 2, tag % 2 ^ 32), (base + 1, raw), (base, value)]
  let s := s.each l (fun p s => s.writeOne p.1 p.2 (if p.1 = base then tag else dt) none)
  let s := s.each l (fun p s => s.capture p.1 p.2 (some tag))
  s.fire

/-- The host stores a set-point or scratch value (R183, R204). -/
def State.hostStore (s : State) (p v : Nat) : State :=
  let k := fabCycle s.now
  let s := s.keepOld p
  let s : State := if partOf p = .scratch then
      { s with esp := { s.esp with hostWr := s.esp.hostWr.filter (fun w => w.2 = k) ++ [(p, k)] } }
    else s
  (s.spPut p v).sieveWrite p v s.dtNs

/-- A point the device posts, one at a time. -/
def State.postF (s : State) (p v : Nat) : State := s.posts [(p, v)]

/-- A point that is posted when its value changes. -/
def State.postIf (s : State) (p v : Nat) : State := if s.sp p = v then s else s.postF p v

/-- No THM node names a leg any more: its limit is 1.0 (Table 9.2). -/
def State.limsClear (s : State) : State :=
  let l := (s.phgLegs.filter (fun p => p.2.lim.isSome)).map (·.1)
  let s := s.each l (fun n s =>
    { s with phgLegs := tput s.phgLegs n { tgetD s.phgLegs n {} with lim := none } {} })
  s.posts (l.map (fun n => (0x4102 + 4 * n, fOne)))

end Sys2Proof.Machine
end

