-- ==== Sys2Proof/Machine/Uplink.lean ====
section
/-!
DEFINITION. What the Trellis demodulator sees of its current inputs before queues 0 to 17 (R287): the rate of their
landings, and the frames in them (R293, R294).
-/
namespace Sys2Proof.Machine

def State.seg (s : State) (k : Nat) : TrlSeg := tgetD s.trl.segs k {}
def State.setSeg (s : State) (k : Nat) (v : TrlSeg) : State :=
  { s with trl := { s.trl with segs := tput s.trl.segs k v {} } }
def State.modSeg (s : State) (k : Nat) (f : TrlSeg → TrlSeg) : State := s.setSeg k (f (s.seg k))

/-- A flag of SEG[k].STAT changes: LINK_STATE, and FS184 while either holds. -/
def State.linkState (s : State) (k : Nat) (f : Fld) (v : Bool) : State :=
  if s.rdB f k = v then s
  else
    let s := s.wrB f v k
    let nd := s.rdB SEG.STAT_NO_DL k
    let ur := s.rdB SEG.STAT_UL_RATE k
    (s.post 0x64 [(1, 1, k), (2, 1, b2n nd + 2 * b2n ur)]).fltLevel fsTrellis k (nd || ur)

/-! ### The demodulator (R293, R294) -/

/-- cos(2π·m/100) in units of 2⁻¹⁴, m = 0 to 25. -/
def quarterCos : List Int :=
  [16384, 16352, 16255, 16094, 15869, 15582, 15233, 14825, 14357, 13833, 13255, 12624, 11943, 11216, 10444, 9630, 8779,
    7893, 6976, 6031, 5063, 4075, 3070, 2053, 1029, 0]

def cycleCos (m : Nat) : Int :=
  let m := m % 100
  if m ≤ 25 then quarterCos.getD m 0
  else if m ≤ 50 then -quarterCos.getD (50 - m) 0
  else if m ≤ 75 then -quarterCos.getD (m - 50) 0
  else quarterCos.getD (100 - m) 0

/-- The energy of a tone of `step` hundredths of a cycle per sample in a stretch of samples: the square of the
magnitude of its correlation, in units of 2⁻²⁸. -/
def toneEnergy (step : Nat) (l : List Int) : Nat :=
  let r := l.foldl (fun (a : Nat × Int × Int) x =>
    ((a.1 + step) % 100, a.2.1 + x * cycleCos a.1, a.2.2 + x * cycleCos (a.1 + 75))) (0, 0, 0)
  (r.2.1 * r.2.1 + r.2.2 * r.2.2).toNat

/-- The bits from number b on of a frame whose first sample heads the list: at 500 kS/s a bit has 625/12 samples, bit
0 has 0.23 and bit 1 0.25 of a cycle in each (115 and 125 kHz). Each comes with its winning energy and its number of
samples. -/
def demodBits : Nat → Nat → List Int → List (Bool × Nat × Nat)
  | 0, _, _ => []
  | n + 1, b, l =>
    let m := (b + 1) * 625 / 12 - b * 625 / 12
    let x := l.take m
    let e0 := toneEnergy 23 x
    let e1 := toneEnergy 25 x
    (decide (e0 < e1), Nat.max e0 e1, m) :: demodBits n (b + 1) (l.drop m)

/-- The bits of a reply in the order sent (Table 12.3). -/
def replyBits (payload crc : Nat) : List Bool :=
  ([0x55, 0xB4] ++ leBytes payload 5 ++ [crc]).flatMap (fun b => (List.range 8).map (fun i => bit b i))

/-- The demodulator decodes these 40 payload bits and this CRC in the landings of segment k from t on (R293): PREAMBLE
and SYNC are there, and the amplitude of each bit, twice the correlation over its samples, is at least 8 codes. The
instant of the first bit is what the timing recovery found; that stretch and the threshold per bit are DEDUCED (log
153). -/
def State.hears (s : State) (k payload crc t : Nat) : Bool :=
  let l := (((s.seg k).lands.dropWhile (fun x => x.1 < t)).take 3333).map (·.2)
  let d := demodBits 64 0 l
  l.length = 3333 && decide (payload < 2 ^ 40) && decide (crc < 256) && d.map (·.1) = replyBits payload crc
    && d.all (fun x => decide (4 * x.2.2 * 16384 * (4 * x.2.2 * 16384) ≤ x.2.1))

/-- A result of AIN(096 + k), sampled at t, lands: the mean interval over the last 1,024 differs from 2 µs by more
than 1 %, or does not. -/
def State.ulLanding (s : State) (ch t : Nat) (raw : Int) : State :=
  if ch < 96 || 120 ≤ ch || !s.has 10 then s
  else
    let k := ch - 96
    if !s.rdB SEG.CFG_EN k then s
    else
      let l := (s.seg k).lands ++ [(t, raw)]
      let l := l.drop (l.length - 4096)
      let s := s.modSeg k (fun g => { g with lands := l })
      match (l.drop (l.length - 1024)).head? with
      | none => s
      | some (a, _) =>
        if l.length < 1024 then s
        else s.linkState k SEG.STAT_UL_RATE (decide (1023 * 25600 < 100 * natDist (1023 * 25600) (t - a)))

end Sys2Proof.Machine
end

