-- ==== Sys2Proof/Machine/Adc.lean ====
section
/-!
DEFINITION. The SAR cores and their sequences (R157 to R169), the timers (R164), system calibration (R170 to
R172).
-/
namespace Sys2Proof.Machine

def coreOk (c : Nat) : Bool := c < 18

def State.seq (s : State) (c q : Nat) : SeqSt := tgetD s.seqSt (8 * c + q) {}
def State.setSeq (s : State) (c q : Nat) (v : SeqSt) : State :=
  { s with seqSt := tput s.seqSt (8 * c + q) v {} }
def State.core (s : State) (c : Nat) : CoreSt := tgetD s.cores c {}
def State.setCore (s : State) (c : Nat) (v : CoreSt) : State := { s with cores := tput s.cores c v {} }

/-- The results waiting in queue i of Table 1.6 (0–17 the cores, 18–33 the filters). -/
def State.results (s : State) (i : Nat) : List AdcRes := tgetD s.resQ i []
def State.setResults (s : State) (i : Nat) (l : List AdcRes) : State :=
  { s with resQ := tput s.resQ i l [] }

/-! ### Values (R158, R172) -/

/-- OFFSET and GAIN of a channel. -/
def State.calOffset (s : State) (ch : Nat) : Nat := s.sp (calBase + 2 * ch)
def State.calGain (s : State) (ch : Nat) : Nat := s.sp (calBase + 2 * ch + 1)

/-- BOTTOM and SPAN of a channel. -/
def State.chBottom (s : State) (ch : Nat) : Nat :=
  if ch < 160 then s.rd AIN.BOTTOM ch else s.rd SD.BOTTOM (ch - 160)
def State.chSpan (s : State) (ch : Nat) : Nat :=
  if ch < 160 then s.rd AIN.SPAN ch else s.rd SD.SPAN (ch - 160)

/-- Half of the full scale of a channel, in codes: 2¹⁵ for an AIN, 2²³ for an SDI. -/
def halfScale (ch : Nat) : Nat := if ch < 160 then 32768 else 8388608

/-- The value posted for a raw code (R158), in binary32 in the order shown there. -/
def State.chValue (s : State) (ch : Nat) (raw : Int) : Nat :=
  let x := fMul (s.calGain ch) (fSub (fOfInt raw) (s.calOffset ch))
  let h := halfScale ch
  fAdd (s.chBottom ch) (fDiv (fMul (fAdd x (fOfNat h)) (s.chSpan ch)) (fOfNat (2 * h)))

/-! ### Calibration averages (R171) -/

/-- A result of channel ch counts in the step in progress, up to 4,096. -/
def State.calTake (s : State) (ch : Nat) (raw : Int) : State :=
  let st := s.rd CAL.STAT_STATE
  if (st = 1 || st = 3) && s.rd CAL.STAT_CHAN = ch && s.cal.n < 4096 then
    let c := s.cal
    { s with cal := { c with
      n := c.n + 1
      sum := c.sum + raw
      lo := if c.n = 0 || raw < c.lo then raw else c.lo
      hi := if c.n = 0 || c.hi < raw then raw else c.hi } }
  else s

/-! ### Bursts (R159 to R162, R165) -/

/-- The sequence is overrun (R162). -/
def State.overrun (s : State) (c q : Nat) : State :=
  let first := s.rd CORE.OVR_CNT c = 0
  let s := s.count CORE.OVR_CNT c
  s.when first (fun s =>
    (s.post 0x18 [(1, 1, c), (2, 1, q), (8, 4, s.rd CORE.OVR_CNT c)]).fltOccur fsAdc c)

/-- The sampling instant and the end of a slot (R159). -/
def BurstSt.sampleAt (b : BurstSt) : Nat := b.at_ + 160 * b.dwell
def BurstSt.endAt (b : BurstSt) : Nat := b.sampleAt + 3200

/-- The position a burst goes by: the sequence's own, or, for a burst accepted before the position returned to FIRST,
the one it left there (R163; DEDUCED, log 151). -/
def SeqSt.posOf (v : SeqSt) (epoch : Nat) : Nat := if epoch = v.epoch then v.pos else tgetD v.olds epoch 0

def SeqSt.setPos (v : SeqSt) (epoch p : Nat) : SeqSt :=
  if epoch = v.epoch then { v with pos := p } else { v with olds := tput v.olds epoch p 0 }

/-- The position returns to FIRST (R163). -/
def SeqSt.restart (v : SeqSt) : SeqSt :=
  { v with
    pos := 0
    epoch := v.epoch + 1
    olds := (tput v.olds v.epoch v.pos 0).filter (fun p => p.1 = v.use.epoch || p.1 = v.cfg.epoch) }

/-- The slot at the position of sequence q starts at instant t; the slot is read now, and the position moves on (R163). The
cadences of the sequence open at the sampling instant of slot 0 of a burst (Table 8.2). -/
def State.slotStart (s : State) (c q left t : Nat) (first : Bool) : State :=
  let v := s.seq c q
  let p := v.posOf v.use.epoch
  let k := (v.use.first + p) % 256
  let b : BurstSt :=
    { seq := q, left := left, at_ := t, input := s.rd SLOT.SLOT_INPUT c k, dwell := s.rd SLOT.SLOT_DWELL c k,
      held := false, first := first }
  let s := (s.setSeq c q (v.setPos v.use.epoch ((p + 1) % Nat.max 1 v.use.len))).setCore c
    { s.core c with burst := some b }
  s.when first (·.fireCadsAt b.sampleAt (fun src a => src = 1 && bits a 7 5 = c && bits a 4 3 = q))

/-- The next slot of sequence q starts at t, or is held while the result queue has no credit (R162). -/
def State.slotNext (s : State) (c q left t : Nat) (first : Bool) : State :=
  if (s.results c).length < 32 then s.slotStart c q left t first
  else
    let b : BurstSt := { seq := q, left := left, at_ := t, input := 0, dwell := 0, held := true, first := first }
    (s.stalled c).setCore c { s.core c with burst := some b }

/-- The burst of sequence q starts at t on an idle, powered core. -/
def State.burstStart (s : State) (c q t : Nat) : State :=
  let v := s.seq c q
  let s := s.setSeq c q { v with waiting := false }
  ((s.wrB CORE.STAT_BUSY true c).wr CORE.STAT_RUN_SEQ q c).slotNext c q v.use.burst t true

/-- The lowest sequence that waits on core c. -/
def State.nextWaiting (s : State) (c : Nat) : Option Nat :=
  (List.range 8).find? (fun q => (s.seq c q).waiting)

/-- ADC_TRIGGER (R160 to R163): the oldest trigger that has arrived starts the delay counter of its sequence,
or is dropped while that counter runs. -/
def execAdcTrigger (s : State) : Host.Outcome State Fault Refusal :=
  s.run (fun s =>
    match s.adcTrigs with
    | [] => s
    | (c, q, t) :: rest =>
      let s := { s with adcTrigs := rest }
      if !s.ready (14 + c) || !s.rdB CORE.SEQCTRL_EN c q then s
      else
        let v := s.seq c q
        if v.due.isSome then s.overrun c q
        else
          let len := s.rd CORE.SEQCTRL_LEN c q
          let b := s.rd CORE.SEQCTRL_BURST c q
          s.setSeq c q { v with
            due := some (t + 32 * s.rd CORE.SEQTRIG_DELAY c q)
            cfg := { first := s.rd CORE.SEQCTRL_FIRST c q, len := len, burst := if b = 0 || len < b then len else b, epoch := v.epoch } })

/-- The start-up of core c begins at t (R165). -/
def State.coreWake (s : State) (c t : Nat) : State :=
  (s.wrB CORE.STAT_WAKING true c).setCore c { s.core c with wakeAt := some (t + 19200) }

/-- A Hoe conversion of core c ends, or is abandoned (R169). -/
def State.hoeStop (s : State) (c : Nat) : State :=
  if (s.core c).hoe.isNone then s else (s.wrB CORE.STAT_HOE false c).setCore c { s.core c with hoe := none }

/-- BURST_READY (R161, R162, R165, R169): the delay of sequence q expires; its burst starts, abandoning a Hoe conversion,
waits for the running burst or for the start-up of the core, or is dropped. -/
def execBurstReady (c q : Nat) (s : State) : Host.Outcome State Fault Refusal :=
  s.runIf (coreOk c && q < 8) (fun s =>
    let v := s.seq c q
    match v.due with
    | none => s
    | some t =>
      let at_ := s.realOf t
      let s := (s.toPw t).setSeq c q { v with due := none }
      let k := s.core c
      let mine := match k.burst with
        | some b => b.seq = q
        | none => false
      if v.waiting || mine then s.overrun c q
      else
        let s := s.setSeq c q { s.seq c q with use := v.cfg }
        let wait (s : State) : State := s.setSeq c q { s.seq c q with waiting := true }
        if s.rdB CORE.STAT_WAKING c then wait s
        else if !s.rdB CORE.STAT_POWERED c then (wait s).coreWake c at_
        else if k.burst.isSome then wait (s.count CORE.LATE_CNT c)
        else (s.hoeStop c).burstStart c q at_)

/-- CORE_WAKE_DONE (R162, R165): the start-up ends and the lowest waiting burst starts; the others wait for it, and
LATE_CNT counts them. -/
def execCoreWakeDone (c : Nat) (s : State) : Host.Outcome State Fault Refusal :=
  s.runIf (coreOk c) (fun s =>
    match (s.core c).wakeAt with
    | none => s
    | some t =>
      let s := (s.to t).setCore c { s.core c with wakeAt := none, idleAt := Nat.max s.now t }
      let s := (s.wrB CORE.STAT_WAKING false c).wrB CORE.STAT_POWERED true c
      match s.nextWaiting c with
      | some q =>
        let s := s.burstStart c q s.now
        s.count CORE.LATE_CNT c 0 ((List.range 8).countP (fun r => (s.seq c r).waiting))
      | none => s)

/-- Core c has completed its bring-up: it is powered (R165). -/
def State.coreReady (s : State) (c : Nat) : State :=
  (s.wrB CORE.STAT_POWERED true c).setCore c { s.core c with idleAt := s.now }

/-- A write of CFG.PD of core c: with PD = 0 a core that is powered down starts up and stays powered (R165; the start-up is
that of a burst, DESIGN CHOICE, log 134). -/
def State.pdWrite (s : State) (c : Nat) : State :=
  if s.rdB CORE.CFG c || !s.ready (14 + c) || s.rdB CORE.STAT_POWERED c || s.rdB CORE.STAT_WAKING c then s
  else s.coreWake c s.now

/-- CORE_POWER_DOWN (R165): 2 µs have passed with no burst running or waiting on a core with PD = 1; a Hoe conversion, which
needs a powered core, is abandoned (R169). -/
def execCorePowerDown (c : Nat) (s : State) : Host.Outcome State Fault Refusal :=
  s.runIf (coreOk c) (fun s =>
    let k := s.core c
    if s.rdB CORE.CFG c && k.burst.isNone && (s.nextWaiting c).isNone && s.rdB CORE.STAT_POWERED c then
      ((s.to (k.idleAt + 2 * usH)).hoeStop c).wrB CORE.STAT_POWERED false c
    else s)

/-- Hoe may convert on core c now (R169): it is powered, no burst runs or waits, and with PD = 1 the conversion, a slot
long, ends within the 2 µs hold. -/
def State.hoeMay (s : State) (c : Nat) : Bool :=
  let k := s.core c
  s.rdB CORE.STAT_POWERED c && k.burst.isNone && (s.nextWaiting c).isNone
    && (!s.rdB CORE.CFG c || decide (s.now + 3200 ≤ k.idleAt + 2 * usH))

/-- The channel an INPUT code of core c selects (Table 7.1). -/
def inputChan (c k : Nat) : Nat :=
  if c < 12 then 8 * c + k % 8
  else if c < 16 then 96 + k % 48
  else if c = 16 then 144 + k % 8
  else 152 + k % 8

/-- The return input of a channel (R457): ACM00 to ACM11 serve AIN000 to AIN095 in groups of eight, ACM12 to ACM15
AIN096 to AIN143 in groups of twelve, ACM16 and ACM17 the last sixteen in groups of eight. -/
def acmGroup (ch : Nat) : Nat := if ch < 96 then ch / 8 else if ch < 144 then 12 + (ch - 96) / 12 else 16 + (ch - 144) / 8

/-- The code of a conversion: V(AINi) − V(ACMg) at 24.414 µV a code (1.6 V over 2¹⁶ codes, R457), to the nearest, the
ends held, with a free error within the sum of the worst-case bounds of Table 21.12: offset 8, INL 6, 1 for the
quantization, gain 0.05 % (DEDUCED, log 150). -/
def State.adcCode (s : State) (ch : Nat) (v : AinVolt) : Int :=
  let d := v.ain - v.acm.getD (acmGroup ch) 0
  let ideal : Int := (2 * d * 65536 + 1600000000) / (2 * 1600000000)
  let tol : Int := 16 + (ideal.natAbs / 2000 : Nat)
  clampI (-32768) 32767 (ideal + clampI (-tol) tol (Config.boundedError s.free))

/-- A raw code at an end of the range sets its flag (R168). -/
def State.saturate (s : State) (i : Nat) (raw : Int) : State :=
  let f (fld : Fld) (hi : Nat) (s : State) : State :=
    if s.rdB fld i then s
    else ((s.wrB fld true i).post 0x1C [(1, 1, i), (2, 1, hi)]).fltOccur fsAdc (0x20 + i)
  if raw = -32768 then f AIN.STAT_SAT_LO 0 s else if raw = 32767 then f AIN.STAT_SAT_HI 1 s else s

/-- CONVERSION_END (R159, R162, R166, R168, R457): the slot that runs on core c ends, the input and its return at
these voltages at the sampling instant; its result enters the queue, and the next slot, or the next burst, starts. The
DT tag is good to ±1 ns. -/
def execConversionEnd (c : Nat) (v : AinVolt) (s : State) : Host.Outcome State Fault Refusal :=
  s.runIf (coreOk c) (fun s =>
    match (s.core c).burst with
    | none => s
    | some b =>
      if b.held then s
      else
        let ch := inputChan c b.input
        let raw := s.adcCode ch v
        let s := s.useFree.to b.endAt
        let tag := ((s.dtAt b.sampleAt : Int) + s.tagErr 1).toNat
        let r : AdcRes := { chan := ch, value := s.chValue ch raw, raw := tcode raw 32, tag := tag }
        let s := (s.useFree.setResults c (s.results c ++ [r])).calTake ch raw
        let s := ((s.queueHolds c (s.results c).length).saturate ch raw).ulLanding ch b.sampleAt raw
        if 1 < b.left then s.slotNext c b.seq (b.left - 1) s.now false
        else
          let s := (s.setCore c { s.core c with burst := none, idleAt := s.now }).wrB CORE.STAT_BUSY false c
          let s := s.fireSeqs (fun src a => src = 8 && bits a 7 5 = c && bits a 4 3 = b.seq)
          match s.nextWaiting c with
          | some q => s.burstStart c q s.now
          | none => s)

/-- A credit has returned to core c: the held slot starts (R25, R162). -/
def State.coreRelease (s : State) (c : Nat) : State :=
  match (s.core c).burst with
  | some b => if b.held then s.slotStart c b.seq b.left (Nat.max s.now b.at_) b.first else s
  | none => s

/-- Software triggers at the sequences of core c whose SRC is SOFTWARE. -/
def State.swTrig (s : State) (c mask : Nat) : State :=
  let hit := (onesOf mask 8).filter (fun q => s.rdB CORE.SEQCTRL_EN c q && s.rd CORE.SEQTRIG_SRC c q = 7)
  { s with adcTrigs := s.adcTrigs ++ hit.map (fun q => (c, q, s.pw)) }

/-- ADC_SWTRIG (Table 7.2). -/
def execAdcSwtrig (c mask : Nat) (s : State) : Host.Outcome State Fault Refusal :=
  s.runIf (coreOk c) (fun s => s.bridgeWrite 79 CORE.SWTRIG c 0 mask (·.swTrig c mask))

/-- ADC_CNT_CLR (Table 7.6). -/
def execAdcCntClr (c : Nat) (s : State) : Host.Outcome State Fault Refusal :=
  s.runIf (coreOk c) (fun s => s.bridgeWrite 79 CORE.CNT_CLR c 0 1 (fun s =>
    (s.wr CORE.OVR_CNT 0 c).wr CORE.LATE_CNT 0 c))

/-! ### Timers (R164) -/

def State.tmr (s : State) (t : Nat) : TmrSt := tgetD s.tmrs t {}
def State.setTmr (s : State) (t : Nat) (v : TmrSt) : State := { s with tmrs := tput s.tmrs t v {} }

/-- EN of timer t changes: its first expiry is placed, or it stops. -/
def State.timerEnable (s : State) (t : Nat) (on : Bool) : State :=
  if !on then s.setTmr t {}
  else if s.rd TMR.CFG_SYNC t = 0 then
    s.setTmr t { next := some (s.pw + 32 * s.rd TMR.PERIOD t), wait := false }
  else s.setTmr t { next := none, wait := true }

/-- The timers that wait for a START of brick k expire first at that START. -/
def State.timersStart (s : State) (k : Nat) : State :=
  s.each (s.tmrs.map (·.1)) (fun t s =>
    if (s.tmr t).wait && s.rd TMR.CFG_BRICK t = k then
      s.setTmr t { next := some (s.brk k).start, wait := false }
    else s)

/-- TIMER_EXPIRY (R160, R164, R184, R331): timer t expires; the next expiry follows its present PERIOD. -/
def execTimerExpiry (t : Nat) (s : State) : Host.Outcome State Fault Refusal :=
  s.runIf (t < 16) (fun s =>
    match (s.tmr t).next with
    | none => s
    | some d =>
      let s := (s.toPw d).setTmr t { next := some (d + 32 * s.rd TMR.PERIOD t), wait := false }
      let s := s.fireSeqs (fun src a => src = 6 && bits a 0 4 = t)
      let s := s.fireCads (fun src a => src = 4 && bits a 0 4 = t)
      s.fireEngs s.dtNs (fun c => c.src = 3 && bits c.arg 0 4 = t))

/-! ### System calibration (R170 to R172) -/

/-- The clamp limits of GAIN, and of OFFSET for a channel, in binary32. -/
def gainLo : Nat := 0x3F4CCCCD
def gainHi : Nat := 0x3FA00000
def offsetLim (ch : Nat) : Nat := if ch < 160 then fRatio false 262144 100 else fRatio false 67108864 100

/-- CAL_DONE (Table 7.8). -/
def State.calDone (s : State) (ch flags gc ga oc oa : Nat) : State :=
  s.post 0x1A [(1, 1, ch), (2, 1, flags), (8, 4, gc), (12, 4, ga), (16, 4, oc), (20, 4, oa)]

/-- The pending calibration points of channel ch are applied (R170); a channel of which anything was clamped or kept
posts one CAL_DONE (DESIGN CHOICE, log 149: the spec does not say whether its gain and its offset share one). -/
def State.coefApplyCh (s : State) (ch : Nat) : State :=
  let po := calBase + 2 * ch
  let pg := po + 1
  match tget s.shadow po, tget s.shadow pg with
  | none, none => s
  | o, g =>
    let pick (v : Option Nat) (old lo hi : Nat) : Nat × Bool × Bool := match v with
      | none => (old, false, false)
      | some v => if fFinite v then (fClamp lo hi v, fLt v lo || fLt hi v, false) else (old, false, true)
    let lim := offsetLim ch
    let ro := pick o (s.sp po) (fNeg lim) lim
    let rg := pick g (s.sp pg) gainLo gainHi
    let s' := { s with shadow := tdel (tdel s.shadow po) pg }
    let put (v : Option Nat) (p : Nat) (r : Nat × Bool × Bool) (s : State) : State :=
      s.when (v.isSome && !r.2.2) (·.storeWrite p r.1)
    let s' := put g pg rg (put o po ro s')
    let kept := ro.2.2 || rg.2.2
    if ro.2.1 || rg.2.1 || kept then
      s'.calDone ch (b2n rg.2.1 + 2 * b2n ro.2.1 + 4 * b2n kept + 8) (g.getD (s.sp pg)) rg.1
        (o.getD (s.sp po)) ro.1
    else s'

/-- Every pending calibration point is applied. -/
def State.coefApply (s : State) : State := s.each (List.range 176) (fun ch s => s.coefApplyCh ch)

/-- COEF_APPLY (R170): a write of 1 to ADC.COEF_APPLY.GO. -/
def execCoefApply (s : State) : Host.Outcome State Fault Refusal :=
  s.run (fun s => s.bridgeWrite 79 CAL.COEF_APPLY 0 0 1 (·.coefApply))

/-- A calibration step ends with a result code: STATE, RESULT and the record. -/
def State.calEnd (s : State) (step result state avg : Nat) : State :=
  let s := (s.wr CAL.STAT_RESULT result).wr CAL.STAT_STATE state
  { s with cal := {} }.post 0x19
    [(1, 1, s.rd CAL.STAT_CHAN), (2, 1, step), (3, 1, result), (8, 4, avg)]

/-- The procedure ends with ABORTED; nothing where none runs. Its CAL_STEP has STEP 3 and the average 0 (DESIGN
CHOICE, log 149). -/
def State.calAbort (s : State) : State :=
  if s.rd CAL.STAT_STATE = 0 then s else s.calEnd 3 3 0 0

/-- A step begins to average. -/
def State.calBegin (s : State) (state : Nat) : State :=
  { s with cal := { at_ := s.now } }.wr CAL.STAT_STATE state

/-- CAL_CTRL.GO with a STEP (R171): LO begins a procedure on CHAN, HI continues one that waits for it. LO during a
procedure begins anew without ABORTED; HI where none waits for it, and the CHAN of a HI, are ignored (DESIGN CHOICE,
log 149). -/
def State.calGo (s : State) : State :=
  let step := s.rd CAL.CTRL_STEP
  if step = 1 then (s.wr CAL.STAT_CHAN (s.rd CAL.CTRL_CHAN)).calBegin 1
  else if step = 2 then (if s.rd CAL.STAT_STATE = 2 then s.calBegin 3 else s)
  else if step = 3 then s.calAbort
  else s

/-- The ideal code of a value (R172), in binary32 in the order shown. -/
def State.idealCode (s : State) (ch y : Nat) : Nat :=
  let h := halfScale ch
  fSub (fMul (fDiv (fSub y (s.chBottom ch)) (s.chSpan ch)) (fOfNat (2 * h))) (fOfNat h)

/-- The coefficients of a finished HI step (R172): none when the spread fails. -/
def State.calSolve (s : State) (ch : Nat) : Option (Nat × Nat × Nat × Nat) :=
  let clo := s.idealCode ch (s.rd CAL.YLO)
  let chi := s.idealCode ch (s.rd CAL.YHI)
  let dm := fSub (s.rd CAL.MHI) (s.rd CAL.MLO)
  let dc := fSub chi clo
  let q := fDiv dm dc
  let full := fOfNat (2 * halfScale ch)
  if !fGt q 0 || fLt (fAbs dm) (fMul (fRatio false 1 10) full) then none
  else
    let gc := fDiv dc dm
    let ga := fClamp gainLo gainHi gc
    let oc := fSub (s.rd CAL.MLO) (fDiv clo ga)
    let lim := offsetLim ch
    some (gc, ga, oc, fClamp (fNeg lim) lim oc)

/-- CAL_AVERAGE_DONE (R171, R172): the 4,096 results of the step have arrived; it is judged. -/
def execCalAverageDone (s : State) : Host.Outcome State Fault Refusal :=
  s.run (fun s =>
    let st := s.rd CAL.STAT_STATE
    if !(st = 1 || st = 3) || s.cal.n < 4096 then s
    else
      let ch := s.rd CAL.STAT_CHAN
      let avg := fRatI s.cal.sum 4096
      let step := if st = 1 then 1 else 2
      let noisy := decide ((4 * halfScale ch : Int) < (s.cal.hi - s.cal.lo) * 100)
      let s := s.wr (if st = 1 then CAL.MLO else CAL.MHI) avg
      if noisy then s.calEnd step 1 0 avg
      else if st = 1 then s.calEnd 1 0 2 avg
      else
        match s.calSolve ch with
        | none => s.calEnd 2 4 0 avg
        | some (gc, ga, oc, oa) =>
          let s := (s.storeWrite (calBase + 2 * ch) oa).storeWrite (calBase + 2 * ch + 1) ga
          let s := { s with shadow := tdel (tdel s.shadow (calBase + 2 * ch)) (calBase + 2 * ch + 1) }
          (s.calEnd 2 0 0 avg).calDone ch (b2n (gc != ga) + 2 * b2n (oc != oa)) gc ga oc oa)

/-- CAL_TIMEOUT (R171): a step has not had its 4,096 results after 5 s; its CAL_STEP has the average 0 (DESIGN CHOICE,
log 149). -/
def execCalTimeout (s : State) : Host.Outcome State Fault Refusal :=
  s.run (fun s =>
    let st := s.rd CAL.STAT_STATE
    if (st = 1 || st = 3) && s.cal.n < 4096 then
      (s.to (s.cal.at_ + 5 * secH)).calEnd (if st = 1 then 1 else 2) 2 0 0
    else s)

end Sys2Proof.Machine
end

