-- ==== Sys2Proof/Machine/NodeMath.lean ====
section
/-!
DEFINITION. What the node types of Table 8.4 compute (spec 08 to 11), as functions of a firing's inputs,
coefficients, states and interval. Every operation is a binary32 operation rounded once (R191); where a
formula shows no order, it is taken from left to right.
-/
namespace Sys2Proof.Machine

/-- A firing: PARAM, inputs, coefficients, states, whether it is the node's first since a load or reset, and its
interval in seconds. -/
structure Firing where
  param : Nat
  ins : List Nat
  coefs : List Nat
  st : List Nat
  first : Bool
  dt : Nat
  deriving DecidableEq, Repr

/-- Its result: outputs, new states, and the values on which the NaN rule is judged (R192). -/
structure Fired where
  outs : List Nat
  st : List Nat
  judge : List Nat
  deriving DecidableEq, Repr

def Firing.x (f : Firing) (i : Nat) : Nat := f.ins.getD i 0
def Firing.c (f : Firing) (i : Nat) : Nat := f.coefs.getD i 0
def Firing.s (f : Firing) (i : Nat) : Nat := f.st.getD i 0

/-- A result whose outputs and states are all judged. -/
def Fired.of (outs st : List Nat) : Fired := ⟨outs, st, outs ++ st⟩

/-- A decimal constant a / b rounded to binary32. -/
def fc (a b : Nat) : Nat := fRatio false a b

def fTwo : Nat := 0x40000000
def fHalf : Nat := 0x3F000000
def fTwoPi : Nat := fPack false (2 * piQ) (-256)
def fSq (x : Nat) : Nat := fMul x x

/-! ### R194 -/

/-- One section with coefficients b0, b1, b2, a1, a2: output and new states. -/
def biq (x : Nat) (b0 b1 b2 a1 a2 s1 s2 : Nat) : Nat × Nat × Nat :=
  let y := fFma b0 x s1
  (y, fFma b1 x (fFma (fNeg a1) y s2), fFma b2 x (fNeg (fMul a2 y)))

def nodeBiq (f : Firing) : Fired :=
  let r := biq (f.x 0) (f.c 0) (f.c 1) (f.c 2) (f.c 3) (f.c 4) (f.s 0) (f.s 1)
  .of [r.1] [r.2.1, r.2.2]

/-- The sections of a cascade from number i on. -/
def cascade (f : Firing) : Nat → Nat → Nat → List Nat → Nat × List Nat
  | 0, _, x, st => (x, st)
  | n + 1, i, x, st =>
    let k := 1 + 5 * i
    let r := biq x (f.c k) (f.c (k + 1)) (f.c (k + 2)) (f.c (k + 3)) (f.c (k + 4)) (f.s (2 * i)) (f.s (2 * i + 1))
    cascade f n (i + 1) r.1 (st ++ [r.2.1, r.2.2])

def nodeCas (f : Firing) : Fired :=
  let r := cascade f (bits f.param 0 3 + 1) 0 (fMul (f.c 0) (f.x 0)) []
  .of [r.1] r.2

/-! ### R195 -/

def nodeLim (f : Firing) : Fired :=
  let y := nMin (nMax (f.x 0) (f.c 0)) (f.c 1)
  .of [y, fMul (f.c 2) (fSub y (f.x 0))] []

def nodeSum (f : Firing) : Fired :=
  .of [(List.range f.ins.length).foldl (fun y j => fFma (f.c j) (f.x j) y) (f.c f.ins.length)] []

def nodeMul (f : Firing) : Fired :=
  let k := fMul (f.c 0) (f.x 0)
  .of [if bit f.param 0 then fDiv k (f.x 1) else fMul k (f.x 1)] []

/-- INDEX: an index that is NaN or infinite is a NaN or infinity of the firing (R195, DEDUCED, log 20). -/
def nodeSel (f : Firing) : Fired :=
  let k := f.ins.length
  if bits f.param 0 2 = 0 then
    let ix := f.x (k - 1)
    let i := (clampI 0 ((k : Int) - 2) (fTrunc ix)).toNat
    ⟨[f.x i], [], [f.x i, ix]⟩
  else
    let pick := if bits f.param 0 2 = 1 then nMin else nMax
    .of [(f.ins.drop 1).foldl pick (f.x 0)] []

def nodeTab (f : Firing) : Fired :=
  let n := bits f.param 0 8 + 1
  let u := nClamp 0 (fOfNat (n - 1)) (fMul (fSub (f.x 0) (f.c 0)) (f.c 1))
  let j := Nat.min (fTrunc u).toNat (n - 2)
  let y0 := f.c (2 + j)
  .of [fFma (fSub u (fOfNat j)) (fSub (f.c (3 + j)) y0) y0] []

/-! ### R196 -/

/-- √3 and √3/2, rounded to binary32. -/
def fSqrt3 : Nat := 0x3FDDB3D7
def fSqrt3Half : Nat := 0x3F5DB3D7

/-- The forward Clarke transform, with the divisions by 3 and by the rounded √3 that R196 writes. -/
def clarke (a b c : Nat) : Nat × Nat × Nat :=
  let three := fOfNat 3
  (fDiv (fSub (fFma fTwo a (fNeg b)) c) three, fDiv (fSub b c) fSqrt3, fDiv (fAdd (fAdd a b) c) three)

def nodeClk (f : Firing) : Fired :=
  if bit f.param 0 then
    let h := fMul (fNeg fHalf) (f.x 0)
    .of [f.x 0, fFma fSqrt3Half (f.x 1) h, fFma (fNeg fSqrt3Half) (f.x 1) h] []
  else
    let r := clarke (f.x 0) (f.x 1) (f.x 2)
    .of [r.1, r.2.1, r.2.2] []

/-- a·cos θ + b·sin θ and b·cos θ − a·sin θ: the first product is rounded and the second fused with the sum
(R196, DEDUCED, log 21). -/
def nodePrk (f : Firing) : Fired :=
  let co := fCos (f.x 2)
  let si := fSin (f.x 2)
  let u := f.x 0
  let v := f.x 1
  if bit f.param 0 then .of [fFma (fNeg v) si (fMul u co), fFma v co (fMul u si)] []
  else .of [fFma v si (fMul u co), fFma v co (fMul (fNeg u) si)] []

/-! ### R197 -/

def nodeRmp (f : Firing) : Fired :=
  if f.first then .of [f.x 0] [f.x 0]
  else
    let rise := nMax (f.c 0) 0
    let fall := nMax (f.c 1) 0
    let step := nClamp (fNeg (fMul fall f.dt)) (fMul rise f.dt) (fSub (f.x 0) (f.s 0))
    let y := fAdd (f.s 0) step
    .of [y] [y]

/-- EVT stores x; `evtFires` says whether it posts. -/
def nodeEvt (f : Firing) : Fired := .of [] [f.x 0]
def evtFires (f : Firing) : Bool := !f.first && fGe (f.x 0) (f.c 0) && fLt (f.s 0) (f.c 0)

/-! ### R198 -/

/-- The pair of a PWO for the period p, from its inputs clamped to 0–1. -/
def pwoPair (mode p : Nat) (a b : Nat) : Nat × Nat :=
  let n (x : Nat) : Nat := (fNearest x).toNat
  let pf := fOfNat p
  if mode = 0 then
    let on := n (fMul (fMul (fSub fOne a) pf) fHalf)
    (on, p - on)
  else if mode = 1 then (0, n (fMul a pf))
  else (n (fMul a pf), n (fMul b pf))

/-! ### R220 to R222 -/

/-- The second-order generalised integrator of SOG and SEQ: error, new v and new qv. -/
def sogi (x v qv dt w k : Nat) : Nat × Nat × Nat :=
  let e := fSub x v
  let v' := fAdd v (fMul (fMul dt w) (fSub (fMul k e) qv))
  (e, v', fAdd qv (fMul (fMul dt w) v'))

/-- SOG; ω starts at ω_nom in the first firing after a load. -/
def nodeSog (f : Firing) (loaded : Bool) : Fired :=
  let w := if loaded then f.c 2 else f.s 4
  let a := sogi (f.x 0) (f.s 0) (f.s 1) f.dt w (f.c 0)
  let b := sogi (f.x 1) (f.s 2) (f.s 3) f.dt w (f.c 0)
  let n := nMax (fAdd (fAdd (fAdd (fSq a.2.1) (fSq a.2.2)) (fSq b.2.1)) (fSq b.2.2)) (fc 1 1000000)
  let cross := fAdd (fMul a.1 a.2.2) (fMul b.1 b.2.2)
  let w' := nClamp (f.c 3) (f.c 4)
    (fSub w (fDiv (fMul (fMul (fMul (fMul (f.c 1) (f.c 0)) w) f.dt) cross) n))
  let pa := fDiv (fSub a.2.1 b.2.2) fTwo
  let pb := fDiv (fAdd a.2.2 b.2.1) fTwo
  .of [fMod2pi (fAtan2 pb pa), w', fSqrt (fAdd (fSq pa) (fSq pb))] [a.2.1, a.2.2, b.2.1, b.2.2, w']

def nodeDrp (f : Firing) : Fired :=
  .of [fAdd (f.x 1) (fDiv (fSub (f.c 2) (f.x 0)) (fMul (f.c 2) (f.c 0))),
    fAdd (f.x 4) (fMul (f.c 1) (fSub (f.x 2) (f.x 3)))] []

def nodeVsm (f : Firing) : Fired :=
  let h := nClamp (fc 2 10) (fOfNat 12) (f.c 0)
  let d := nClamp 0 (fOfNat 100) (f.c 1)
  let w :=
    if fGe (f.x 3) fHalf then f.x 2
    else
      let acc := fSub (fSub (f.x 0) (f.x 1)) (fDiv (fMul d (fSub (f.s 0) (f.x 2))) (f.c 2))
      fAdd (f.s 0) (fDiv (fMul (fMul f.dt (f.c 2)) acc) (fMul fTwo h))
  let th := fMod2pi (fAdd (f.s 1) (fMul f.dt w))
  .of [th, w] [w, th]

def nodeVim (f : Firing) : Fired :=
  let z := f.s 0
  let a := fSub (f.x 0) (f.x 1)
  let b := fNeg (f.x 2)
  let zr := fMul z (f.c 0)
  let zx := fMul z (f.c 1)
  let den := fAdd (fSq zr) (fSq zx)
  let id := fDiv (fAdd (fMul a zr) (fMul b zx)) den
  let iq := fDiv (fSub (fMul b zr) (fMul a zx)) den
  let m := fSqrt (fAdd (fSq id) (fSq iq))
  let held := fEq (f.s 1) fOne
  let enter := !held && fGt m (f.c 3)
  let phi := if enter then fAtan2 iq id else f.s 2
  let tl := if enter then 0 else f.s 3
  let z' := if held || enter then f.c 5
    else nClamp fOne (f.c 5) (fAdd fOne (fMul (f.c 4) (nMax 0 (fSub m (f.c 2)))))
  if held || enter then
    let tl' := if fLt m (fDiv (fAdd (f.c 2) (f.c 3)) fTwo) then fAdd tl f.dt else 0
    let hold := !fGe tl' (fc 20 1000)
    let id' := if hold then fMul (f.c 3) (fCos phi) else id
    let iq' := if hold then fMul (f.c 3) (fSin phi) else iq
    let hf := if hold then fOne else 0
    .of [id', iq', hf, z'] [z', hf, phi, tl']
  else .of [id, iq, 0, z'] [z', 0, phi, tl]

/-! ### R223 -/

/-- RPC: its result and the bins it writes, from a table read by bin. -/
def nodeRpc (f : Firing) (t : Nat → Nat) : Fired × List (Nat × Nat) :=
  let kr := nClamp 0 fOne (f.c 0)
  let ff := nClamp (fc 9 10) fOne (f.c 1)
  let q0 := nClamp 0 fOne (f.c 2)
  let q1 := nClamp 0 fHalf (f.c 3)
  let lead := nClamp 0 (fOfNat 64) (f.c 4)
  let u := fDiv (fMul (fMod2pi (f.x 1)) (fOfNat 1024)) fTwoPi
  let j := (fTrunc u).toNat
  let a := fSub u (fOfNat j)
  let g (i : Nat) : Nat := t (i % 1024)
  let q (i : Nat) : Nat := fAdd (fAdd (fMul q1 (g (i + 1023))) (fMul q0 (g i))) (fMul q1 (g (i + 1)))
  let learn (i w : Nat) : Nat := fAdd (fMul ff (q i)) (fMul (fMul kr w) (f.x 0))
  let upd := if fGe (f.x 2) fHalf then
      [(j % 1024, learn j (fSub fOne a)), ((j + 1) % 1024, learn (j + 1) a)] else []
  let t' (i : Nat) : Nat := match upd.find? (fun p => p.1 = i % 1024) with
    | some p => p.2
    | none => g i
  let r0 := fAdd u lead
  let r := if fGe r0 (fOfNat 1024) then fSub r0 (fOfNat 1024) else r0
  let k := (fTrunc r).toNat
  let y := nClamp (fNeg (f.c 5)) (f.c 5) (fAdd (t' k) (fMul (fSub r (fOfNat k)) (fSub (t' (k + 1)) (t' k))))
  let d := fAbs (fSub u (f.s 0))
  let moved := fGt (nMin d (fSub (fOfNat 1024) d)) fOne
  let skips := if moved then fAdd (f.s 2) fOne else f.s 2
  (⟨[y], [u, y, skips, 0], [y, u, skips] ++ upd.map (·.2)⟩, upd)

/-! ### R224, R225 -/

/-- SHR with the leg's weight, whether it is SHADOW, and e_ph. -/
def nodeShr (f : Firing) (w : Nat) (shadow : Bool) (eph : Nat) : Fired :=
  let iref := fMul w (f.x 1)
  let drive := fSub (fSub (fMul (fSub (f.x 2) fHalf) (f.x 3)) (f.x 4)) (fMul (f.c 1) (f.s 0))
  let pred := fAdd (f.s 0) (fMul (fDiv f.dt (f.c 0)) drive)
  let r := fSub (f.x 0) pred
  let rf := fAdd (f.s 1) (fDiv (fSub r (f.s 1)) (fOfNat 64))
  let model := if shadow then fAdd pred (fMul (f.c 3) eph) else fAdd pred (fMul (f.c 2) r)
  .of [iref, if shadow then model else f.x 0, rf] [model, rf]

/-- `low` of R224. -/
def shrLow (f : Firing) (iref : Nat) : Bool :=
  fLt (fAbs (f.x 0)) (fMul (f.c 4) (fAbs iref)) && fGe (fAbs iref) (f.c 5)

/-- X[0..3] and C_1..C_3 of Table 9.6. -/
def thmX (k : Nat) : Nat := [fOne, fc 11 10, fc 125 100, fc 15 10].getD k 0
def thmC (k : Nat) : Nat := [0, fc 126 10, fc 10575 10000, fc 6875 1000000].getD k 0

/-- Tier k: the new budget, its cap and its fill. -/
def thmTier (k q e rho dt : Nat) : Nat × Nat × Nat :=
  let lo := fSq (thmX (k - 1))
  let g := if fGt q lo then fOne else nClamp 0 fOne rho
  let c := thmC k
  let e' := nClamp 0 (fMul (fc 11 10) c) (fAdd e (fMul (fMul dt g) (fSub q lo)))
  let cap := if fLe e' c then fInf false
    else fSub (thmX k) (fDiv (fMul (fSub (thmX k) (thmX (k - 1))) (fSub e' c)) (fMul (fc 1 10) c))
  (e', cap, fDiv e' c)

def nodeThm (f : Firing) (ride : Bool) : Fired :=
  let q := fSq (fDiv (f.x 0) (f.c 0))
  let t1 := thmTier 1 q (f.s 0) (f.c 1) f.dt
  let t2 := thmTier 2 q (f.s 1) (f.c 2) f.dt
  let t3 := thmTier 3 q (f.s 2) (f.c 3) f.dt
  let top := if ride then fc 15 10 else fc 125 100
  .of [nMin (nMin (nMin top t1.2.1) t2.2.1) t3.2.1, t1.2.2, t2.2.2, t3.2.2] [t1.1, t2.1, t3.1]

/-! ### R240 -/

/-- An angle wrapped to (−π, +π]. -/
def fWrap (x : Nat) : Nat := if fFinite x then fPackI (reduceAngle x) (-96) else fNaN

/-- SEQ: its result, the history entries it writes, and what it remembers. -/
def nodeSeq (f : Firing) (t : Nat → Nat) (m : SeqMem) : Fired × List (Nat × Nat) × SeqMem :=
  let ks := nClamp fHalf (fOfNat 4) (f.c 0)
  let w := f.x 3
  let ab := clarke (f.x 0) (f.x 1) (f.x 2)
  let a := sogi ab.1 (f.s 0) (f.s 1) f.dt w ks
  let b := sogi ab.2.1 (f.s 2) (f.s 3) f.dt w ks
  let pa := fDiv (fSub a.2.1 b.2.2) fTwo
  let pb := fDiv (fAdd a.2.2 b.2.1) fTwo
  let na := fDiv (fAdd a.2.1 b.2.2) fTwo
  let nb := fDiv (fSub b.2.1 a.2.2) fTwo
  let mag (x y : Nat) : Nat := fDiv (fSqrt (fAdd (fSq x) (fSq y))) (f.c 1)
  let vp := mag pa pb
  let vn := mag na nb
  let ratio := fDiv (fPack false piQ (-256)) (fMul w f.dt)
  let n := if fIsInf ratio then (if bit ratio 31 then 8 else 341) else clampN 8 341 (fNearest ratio).toNat
  let idx := (fTrunc (f.s 7)).toNat % 341
  let fresh := decide (n ≠ m.n) || (m.count + 1) % 1024 = 0
  let old (p : Nat) : Nat := t (341 * p + (idx + 341 - n) % 341)
  let sum (p : Nat) : Nat :=
    let sq := fSq (f.x p)
    if fresh then
      fAdd ((List.range (n - 1)).foldl (fun acc k => fAdd acc (t (341 * p + (idx + 341 - (n - 1 - k)) % 341))) 0) sq
    else fSub (fAdd (f.s (4 + p)) sq) (old p)
  let sums := [sum 0, sum 1, sum 2]
  let vh := sums.map (fun x => fDiv (fSqrt (fDiv (fMul fTwo (nMax x 0)) (fOfNat n))) (f.c 1))
  let full := decide (n ≤ m.count + 1)
  let vuv := if full then vh.foldl nMin vp else vp
  let vov := if full then vh.foldl nMax vp else vp
  let wp := if f.first then w else f.s 8
  let r := fAdd (f.s 9) (fMul (fSub (fDiv (fSub w wp) (fMul fTwoPi f.dt)) (f.s 9)) (nMin fOne (fDiv f.dt (fc 1 10))))
  let jump := fWrap (fSub (fAtan2 pb pa) (f.x 4))
  (.of [vp, vn, vuv, vov, r, jump]
      ([a.2.1, a.2.2, b.2.1, b.2.2] ++ sums ++ [fOfNat ((idx + 1) % 341), w, r]),
    (List.range 3).map (fun p => (341 * p + idx, fSq (f.x p))),
    { count := m.count + 1, n := n })

/-! ### R276 to R280 -/

/-- What MPT sees of its input: the state code, the map estimates, whether the map is usable, and a latched host
request. -/
structure MptEnv where
  input : Nat
  vmap : Nat
  pmap : Nat
  ok : Bool
  host : Bool

/-- The fourteen states of Table 11.7 by name. -/
structure MptRegs where
  vref : Nat
  eacc : Nat
  tacc : Nat
  pprev : Nat
  dir : Nat
  bucket : Nat
  bv : Nat
  bp : Nat
  ppre : Nat
  vpre : Nat
  tst : Nat
  tsince : Nat
  vw : Nat
  mlast : Nat

def MptRegs.of (f : Firing) : MptRegs :=
  ⟨f.s 0, f.s 1, f.s 2, f.s 3, f.s 4, f.s 5, f.s 6, f.s 7, f.s 8, f.s 9, f.s 10, f.s 11, f.s 12, f.s 13⟩

def MptRegs.list (r : MptRegs) : List Nat :=
  [r.vref, r.eacc, r.tacc, r.pprev, r.dir, r.bucket, r.bv, r.bp, r.ppre, r.vpre, r.tst, r.tsince, r.vw, r.mlast]

/-- The request of R278 at an interval end, 0 none: a host request, a shading change, a map move, a periodic
sweep; a pending one stays. -/
def mptChoose (f : Firing) (e : MptEnv) (m : MptMem) (r : MptRegs) (avg : Nat) : Nat :=
  let shade := nClamp (fc 1 100) fHalf (f.c 4)
  if e.host then 1
  else if m.req ≠ 0 && (m.req = 1 || e.ok) then m.req
  else if fLt avg (fMul (fSub fOne shade) r.pprev) then 1
  else if e.ok && fGe e.pmap (fMul (fAdd fOne shade) avg)
      && fGe (fAbs (fSub e.vmap (f.x 0))) (fMul (fOfNat 4) (f.c 2))
      && fGe (fAbs (fSub e.vmap r.mlast)) (fMul fTwo (f.c 2)) then 2
  else if fGt (f.c 8) 0 && fGe r.tsince (f.c 8) then 1
  else 0

/-- The interval end of TRACK (R277, R279). -/
def mptInterval (f : Firing) (e : MptEnv) (m : MptMem) (r : MptRegs) : MptRegs × MptMem × Bool :=
  let tp := nClamp (fc 2 100) fOne (f.c 3)
  let avg := fDiv r.eacc r.tacc
  let r := { r with eacc := 0, tacc := 0, tsince := fAdd r.tsince tp }
  let cap := fDiv (fMul avg (fSub (f.c 1) (f.c 0))) (f.c 5)
  let req := mptChoose f e m r avg
  let m := { m with cap := cap, avg := avg, req := req }
  if req = 1 && (e.host || fGe r.bucket (fMul fHalf cap)) then
    ({ r with ppre := avg, bp := 0, vref := f.c 1, tsince := 0 }, { m with mode := 4, req := 0 }, e.host)
  else if req = 2 && fGe r.bucket (fMul (fMul fHalf avg) tp) then
    ({ r with ppre := avg, vpre := r.vref, vref := e.vmap, mlast := e.vmap, tst := 0 },
      { m with mode := 5, req := 0, half := false }, false)
  else
    let dir := if fLt avg r.pprev then fNeg r.dir else r.dir
    ({ r with dir := dir, vref := nClamp (f.c 0) (f.c 1) (fAdd r.vref (fMul dir (f.c 2))), pprev := avg }, m, false)

/-- A firing of a sweep or move in progress. -/
def mptGo (f : Firing) (m : MptMem) (r : MptRegs) (p : Nat) : MptRegs × MptMem :=
  let tp := nClamp (fc 2 100) fOne (f.c 3)
  if m.mode = 4 then
    let r := if fGt p r.bp then { r with bp := p, bv := f.x 0 } else r
    let v := fSub r.vref (fMul (f.c 5) f.dt)
    if fLe v (f.c 0) then
      ({ r with vref := r.bv, pprev := r.bp, eacc := 0, tacc := 0 }, { m with mode := 3 })
    else ({ r with vref := v }, m)
  else
    let r := { r with tst := fAdd r.tst f.dt }
    if !m.half && fGe r.tst tp then ({ r with eacc := 0, tacc := 0 }, { m with half := true })
    else if m.half && fGe r.tst (fMul fTwo tp) then
      let back := fLt (fDiv r.eacc r.tacc) r.ppre
      ({ r with vref := if back then r.vpre else r.vref, eacc := 0, tacc := 0 }, { m with mode := 3, half := false })
    else (r, m)

/-- MPT: its result, what it remembers, and whether it has served the host request. -/
def nodeMpt (f : Firing) (e : MptEnv) (m : MptMem) : Fired × MptMem × Bool :=
  let r := MptRegs.of f
  let m := if e.input ≠ m.input then { m with begun := false } else m
  let fin (r : MptRegs) (m : MptMem) (h : Bool) : Fired × MptMem × Bool :=
    (.of [r.vref, m.avg, fOfNat m.mode, r.mlast] r.list, { m with input := e.input }, h)
  if [0, 1, 2, 7, 8].contains e.input then
    fin { r with vref := nClamp (f.c 0) (f.c 1) (f.x 0), eacc := 0, tacc := 0
                 vw := if e.input = 1 then f.x 0 else r.vw } { m with mode := 0 } false
  else if e.input = 5 || e.input = 6 || fLt (f.x 2) fHalf then
    fin { r with eacc := 0, tacc := 0 } { m with mode := 1 } false
  else if e.input = 3 then
    let ks := nClamp fHalf fOne (f.c 7)
    let v := if m.begun then r.vref
      else nClamp (f.c 0) (f.c 1) (if e.ok then e.vmap else fMul ks r.vw)
    fin { r with vref := v } { m with mode := 2, begun := true } false
  else
    let start := !m.begun
    let r := if start then { r with pprev := 0, dir := fNeg fOne } else r
    let m := { m with begun := true, mode := if start || m.mode < 3 then 3 else m.mode }
    let tp := nClamp (fc 2 100) fOne (f.c 3)
    let budget := nClamp 0 (fc 5 100) (f.c 6)
    let p := fMul (f.x 0) (f.x 1)
    let b := nMin (fAdd r.bucket (fMul (fMul budget (nMax p 0)) f.dt)) m.cap
    let r := { r with bucket := b, eacc := fAdd r.eacc (fMul p f.dt), tacc := fAdd r.tacc f.dt }
    if m.mode = 3 then
      if fGe r.tacc tp then
        let x := mptInterval f e m r
        fin x.1 x.2.1 x.2.2
      else fin r m false
    else
      let loss := fMul (nMax (fSub r.ppre p) 0) f.dt
      let x := mptGo f m { r with bucket := nMax (fSub b loss) (fNeg m.cap) } p
      fin x.1 x.2 false

/-- The node types that need nothing but the firing. -/
def nodePlain (type : Nat) (f : Firing) (loaded ride : Bool) : Fired :=
  match type with
  | 0x01 => nodeBiq f
  | 0x02 => nodeCas f
  | 0x04 => nodeLim f
  | 0x05 => nodeSum f
  | 0x06 => nodeMul f
  | 0x07 => nodeSel f
  | 0x08 => nodeTab f
  | 0x09 => nodeClk f
  | 0x0A => nodePrk f
  | 0x0B => nodeSog f loaded
  | 0x0C => nodeVsm f
  | 0x0D => nodeDrp f
  | 0x0E => nodeVim f
  | 0x10 => nodeRmp f
  | 0x15 => nodeThm f ride
  | _ => nodeEvt f

end Sys2Proof.Machine
end

