-- ==== Sys2Proof/Machine/Phg.lean ====
section
/-!
DEFINITION. The phase-group supervisor (spec 09): members, weights and targets, verdicts and retirements,
shadowing, insertion of spares, and the ceiling.
-/
namespace Sys2Proof.Machine

def State.pl (s : State) (n : Nat) : PhgLeg := tgetD s.phgLegs n {}
def State.setPl (s : State) (n : Nat) (v : PhgLeg) : State := { s with phgLegs := tput s.phgLegs n v {} }
def State.modPl (s : State) (n : Nat) (f : PhgLeg → PhgLeg) : State := s.setPl n (f (s.pl n))
def State.phg (s : State) (g : Nat) : PhgSt := tgetD s.phgs g {}
def State.setPhg (s : State) (g : Nat) (v : PhgSt) : State := { s with phgs := tput s.phgs g v {} }
def State.modPhg (s : State) (g : Nat) (f : PhgSt → PhgSt) : State := s.setPhg g (f (s.phg g))

def groupOk (g : Nat) : Bool := g < 3

/-- The first point of leg n, and of group g (Table 9.2). -/
def legPt (n : Nat) : Nat := 0x4100 + 4 * n
def grpPt (g : Nat) : Nat := 0x4280 + 8 * g

/-! ### Members (R214, R215) -/

/-- The members of group g, retired ones and inserted spares included. -/
def State.members (s : State) (g : Nat) : List Nat :=
  (List.range 96).filter (fun n => s.phaseGroup n = some g)

/-- The counted legs of group g, by rank. -/
def State.counted (s : State) (g : Nat) : List Nat :=
  (s.members g).filter (fun n => (s.leg n).sup.counted)

/-- The bit of leg n in SPMASK of group g. -/
def State.mayServe (s : State) (g n : Nat) : Bool := bit (s.rd PHG.SPMASK g (n / 32)) (n % 32)

/-- The brick of the lowest-numbered member. -/
def State.refBrick (s : State) (g : Nat) : Option Nat := (s.members g).head?.map (· / 12)

/-- The time in SHADOW counts in the modes from FOLLOW to CEASE (R229). -/
def State.shadowCounts (s : State) : Bool := s.modeIn (.cease :: runModes)

/-- Leg n takes a supervisor state now; its counts and times begin again. -/
def State.setSup (s : State) (n : Nat) (v : LegSup) : State :=
  if (s.leg n).sup = v then s
  else
    let s := s.modLeg n (fun l => { l with sup := v })
    let s := s.modPl n (fun p =>
      { p with since := s.now, open_ := 0, blocked := 0, okSince := none, shadow := 0
               shadowAt := if v = .shadow && s.shadowCounts then some s.now else none
               group := if v = .spare || v = .none then none else p.group })
    let w := if v = .spare || v = .none then [(legPt n, 0)] else []
    (s.posts (w ++ [(legPt n + 1, v.code), (legPt n + 3, 0)])).applyHold n

/-- The state a leg has by its ROLE and SPMASK alone, keeping what the supervisor has decided for a member, and a retirement
(Table 9.1). -/
def State.supByRole (s : State) (n : Nat) : LegSup :=
  let v := (s.leg n).sup
  let r := s.role n
  if 1 ≤ r && r ≤ 3 then (if v = .none || v = .spare || v = .inserting then .active else v)
  else if r = roleSpare then
    if v = .retired || ((s.pl n).group.isSome && (v.counted || v = .parked)) then v
    else if (List.range 3).any (fun g => s.mayServe g n) then .spare else .none
  else .none

/-! ### Weights, targets, ceiling (R216, R217, R235, R236) -/

/-- The part a of the ramp of an insertion that has passed, binary32. -/
def State.rampPart (s : State) (g : Nat) (i : Insertion) : Nat :=
  match i.rampAt with
  | none => 0
  | some t =>
    let d := s.rd PHG.TIMING_SPARE_RAMP g * msH
    if t + d ≤ s.now then fOne else fRatio false (s.now - t) d

/-- The weights of group g are posted. -/
def State.weights (s : State) (g : Nat) : State :=
  let l := s.counted g
  let n := fOfNat l.length
  let w (leg : Nat) : Nat :=
    match (s.phg g).ins with
    | some i =>
      if l.contains i.spare && i.rampAt.isSome && 1 < l.length then
        let a := fDiv (s.rampPart g i) n
        if leg = i.spare then a else fDiv (fSub fOne a) (fOfNat (l.length - 1))
      else fDiv fOne n
    | none => fDiv fOne n
  let s := s.each l (fun leg s => s.postIf (legPt leg) (w leg))
  let s := s.each ((s.members g).filter (fun m => !l.contains m)) (fun leg s => s.postIf (legPt leg) 0)
  s.postIf (grpPt g) n

/-- An entry for the leg timing unit enters the compare queue of the leg's brick, or waits for a credit. -/
def State.cmpPush (s : State) (n : Nat) (e : CmpEntry) : State :=
  let k := n / 12
  let l := tgetD s.cmpQ k []
  let s := if l.length < 16 then s else s.stallCount (34 + k)
  let s := { s with cmpQ := tput s.cmpQ k (l ++ [e]) [] }
  s.queueHolds (34 + k) (Nat.min 16 (l.length + 1))

/-- round(rank × 4,096 / N), halves up (R216). -/
def rankTarget (rank n : Nat) : Nat := (2 * rank * 4096 + n) / (2 * n) % 4096

/-- The supervisor command for leg n that has not acted yet: the last that waits in the compare queue, else one that has
arrived, else one a guard has locked. -/
def State.supPending (s : State) (n : Nat) : Option LegSup :=
  let q := (tgetD s.cmpQ (n / 12) []).filterMap (fun e => match e with
    | .sup m v => if m = n then some v else none
    | _ => none)
  match q.getLast?, (s.leg n).supNext with
  | some v, _ => some v
  | none, some v => some v
  | none, none => (s.leg n).supLock

/-- The state leg n will have once its commands have acted. -/
def State.supSoon (s : State) (n : Nat) : LegSup := (s.supPending n).getD (s.leg n).sup

/-- The legs of group g that will count once the commands on their way have acted, by rank. -/
def State.planned (s : State) (g : Nat) : List Nat := (s.members g).filter (fun n => (s.supSoon n).counted)

/-- The spares chosen for group g, in the order in which they will be inserted. -/
def State.chosen (s : State) (g : Nat) : List Nat :=
  (s.phg g).waiting.map (·.spare) ++ (s.phg g).verdicts.filterMap (·.spare)

/-- A target goes to the leg timing unit, unless the last one on its way to the leg is the same (DEDUCED, log 137). -/
def State.pushTarget (s : State) (n v : Nat) : State :=
  let q := (tgetD s.cmpQ (n / 12) []).filterMap (fun e => match e with
    | .target m x => if m = n then some x else none
    | _ => none)
  if q.getLast? = some v then s else s.cmpPush n (.target n v)

/-- The supervisor writes the targets of group g (R216): those of the legs that will count, by rank, and of each spare
chosen, for the rank that it will hold at its insertion. -/
def State.phaseTargets (s : State) (g : Nat) : State :=
  if s.rdB PHG.CFG_AUTO_PHASE g then
    let l := s.planned g
    let sp := s.chosen g
    let s := s.each l.zipIdx (fun p s => s.pushTarget p.1 (rankTarget p.2 l.length))
    s.each sp.zipIdx (fun p s =>
      let all := (List.range 96).filter (fun i => l.contains i || (sp.take (p.2 + 1)).contains i)
      s.pushTarget p.1 (rankTarget (all.takeWhile (· ≠ p.1)).length all.length))
  else s

/-- The limit of a leg: from its THM node, 1.0 where none names it. -/
def State.limOf (s : State) (n : Nat) : Nat := (s.pl n).lim.getD fOne

/-- C_g of a group with members, and its leg of smallest limit. -/
def State.groupCeil (s : State) (g : Nat) : Option (Nat × Nat) :=
  if (s.members g).isEmpty then none
  else
    match s.counted g with
    | [] => some (0, 0)
    | x :: xs =>
      let m := xs.foldl (fun b n => if fLt (s.limOf n) (s.limOf b) then n else b) x
      some (fDiv (fMul (fOfNat (xs.length + 1)) (s.limOf m)) (fOfNat (s.rd PHG.NOM g)), m)

/-- ⌊100 · C⌋ + 1: the lowest multiple of 0.01 that C is below. -/
def hundredth (c : Nat) : Nat := ((fScaled c * 100).toNat >>> 149) + 1

/-- The ceilings are recomputed and posted (R235: whether they have changed or not), with FS179 and one CEILING for
each multiple of 0.01 that C has crossed downwards since its last value, 1.00 among them, or for the return to 1.00
(R236). -/
def State.ceilings (s : State) : State :=
  let l := (List.range 3).filterMap (fun g => (s.groupCeil g).map (fun c => (g, c.1, c.2)))
  let s := s.each l (fun c s => (s.wr PHG.CEIL c.2.1 c.1).postF (grpPt c.1 + 2) c.2.1)
  match l with
  | [] => s
  | x :: xs =>
    let m := xs.foldl (fun b c => if fLt c.2.1 b.2.1 then c else b) x
    let c := m.2.1
    let s := s.postF 0x4298 c
    let low := fLt c fOne
    let h := hundredth c
    let n := if low then s.ceilMark.getD 101 - h else b2n s.ceilMark.isSome
    let s := { s with ceilMark := if low then some h else none }
    let s := s.each (List.range n) (fun _ s => s.post 0x15 [(8, 4, c), (12, 1, m.1), (13, 1, m.2.2)])
    s.fltLevel fsCeiling 0 low

/-! ### Events (Table 9.11) -/

def State.phgEvent (s : State) (ty g : Nat) (parts : List (Nat × Nat × Nat)) (fault : Bool) : State :=
  (s.post ty ((3, 1, g) :: parts)).when fault (·.fltOccur (fsPhg g) (ty - 0x10))

/-- What follows a change of membership of group g. -/
def State.regroup (s : State) (g : Nat) : State := ((s.weights g).phaseTargets g).ceilings

/-- The reference brick of group g runs: a change of its membership waits for the next START of it (R217). -/
def State.groupRuns (s : State) (g : Nat) : Bool :=
  match s.refBrick g with
  | some k => s.rdB BRK.STATUS_RUN k
  | none => false

/-- LEG_RESTORED of leg n, where a command had it return (Table 9.11). -/
def State.restored (s : State) (g n : Nat) (cause : Option Nat) : State :=
  match cause with
  | some c => s.phgEvent 0x12 g [(1, 1, n), (2, 1, c)] false
  | none => s

/-- Leg n of group g takes a state that software asks for: at the next START of the reference brick, or at once while that
does not run (R217; DEDUCED, log 137). -/
def State.supChange (s : State) (g n : Nat) (v : LegSup) (cause : Option Nat) : State :=
  if s.groupRuns g then s.modPl n (fun p => { p with next := some (v, cause) })
  else ((s.setSup n v).regroup g).restored g n cause

/-- At a START of the reference brick of group g, the changes that waited for it take effect together (R217), those of a leg
that moves between groups in both. -/
def State.takeNext (s : State) (g : Nat) : State :=
  let l := (s.phgLegs.filter (fun p => p.2.next.isSome && (s.phaseGroup p.1 = some g || s.roleGroup p.1 = some g))).map
    (fun p => (p.1, p.2.next, p.2.stay.isSome))
  let go := !l.isEmpty || (s.phg g).due
  let s := s.each l (fun x s => match x.2.1 with
    | some (v, c) =>
      ((s.modPl x.1 (fun p => { p with next := none, stay := none })).setSup x.1 v).restored g x.1 c
    | none => s)
  let s := s.when go (fun s => (s.modPhg g (fun p => { p with due := false })).regroup g)
  s.when (l.any (·.2.2)) (fun s => s.each ((List.range 3).filter (· ≠ g)) (fun h s => s.regroup h))

/-- Legs take the state that ROLE and SPMASK give them, the groups following at the next START of their reference bricks
(R214, R217). -/
def State.phgSync (s : State) (l : List Nat) : State :=
  let l := l.filter (fun n => s.supByRole n ≠ (s.leg n).sup)
  if l.isEmpty then s
  else
    let s := s.each l (fun n s => match s.phaseGroup n with
      | some g =>
        if s.groupRuns g then s.modPl n (fun p => { p with next := some (s.supByRole n, none) })
        else s.setSup n (s.supByRole n)
      | none => s.setSup n (s.supByRole n))
    s.each (List.range 3) (fun g s =>
      if s.groupRuns g then s.modPhg g (fun p => { p with due := true }) else s.regroup g)

/-- The ROLE of leg n has been written, `old` having stood there: an inserted spare leaves its group, and the change of
membership takes effect at a START of the reference brick of its old or its new group while one of them runs (R217; DEDUCED,
log 137). -/
def State.phgRole (s : State) (n old : Nat) : State :=
  let was := (s.pl n).stay.getD (if 1 ≤ old && old ≤ 3 then some (old - 1) else (s.pl n).group)
  let s := s.modPl n (fun p => { p with group := none, stay := some was })
  let s := s.each (List.range 3) (fun g s => s.modPhg g (fun p =>
    { p with waiting := p.waiting.filter (·.spare ≠ n), ins := p.ins.filter (·.spare ≠ n) }))
  let runs (g : Option Nat) : Bool := match g with
    | some g => s.groupRuns g
    | none => false
  if runs was || runs (s.roleGroup n) then s.modPl n (fun p => { p with next := some (s.supByRole n, none) })
  else
    let s := (s.modPl n (fun p => { p with stay := none, next := none })).setSup n (s.supByRole n)
    s.each (was.toList ++ (s.roleGroup n).toList) (fun g s => s.regroup g)

/-! ### Reload numbers -/

/-- The reload number of the present reload of leg n's brick, low 32 bits. -/
def State.reloadNow (s : State) (n : Nat) : Nat := 2 * s.rd BRK.PCOUNT (n / 12) % 2 ^ 32

/-! ### Verdicts (R226 to R231) -/

/-- The verdicts count (R233). -/
def State.verdictsCount (s : State) : Bool := s.modeIn runModes

/-- A verdict of leg n waits for its START already. -/
def State.judgedLeg (s : State) (g n : Nat) : Bool := (s.phg g).verdicts.any (fun v => v.leg = n)

/-- The lowest-numbered spare that qualifies for group g (R230). -/
def State.spareFor (s : State) (g : Nat) : Option Nat :=
  let taken := (List.range 3).flatMap (fun h =>
    ((s.phg h).verdicts.filterMap (·.spare)) ++ ((s.phg h).waiting.map (·.spare)))
  (List.range 96).find? (fun n => (s.leg n).sup = .spare && s.mayServe g n && s.gstat n = 0
    && s.liveCode n .high = 0 && s.liveCode n .low = 0 && !taken.contains n)

/-- A retirement that leaves `after` legs in group g calls for a spare (R230). -/
def State.wantsSpare (s : State) (g after : Nat) : Bool :=
  s.rdB PHG.CFG_SPARE_EN g && decide (after < s.rd PHG.NOM g)

/-- A verdict retires leg n at the next START whose guard has not opened: entries for the leg, for the targets
of those that remain and for the spares. In DAWN a parked leg of the group is taken first (R232). -/
def State.retireVerdict (s : State) (g n cause : Nat) : State :=
  let want := s.wantsSpare g ((s.planned g).filter (· ≠ n)).length
  let parked := if s.mm.cur = .dawn then (s.members g).find? (fun m => s.supSoon m = .parked) else none
  let spare := if want && parked.isNone then s.spareFor g else none
  let s := s.modPhg g (fun p => { p with verdicts := p.verdicts ++ [(⟨n, some cause, spare⟩ : Verdict)] })
  let s := s.cmpPush n (.sup n .retired)
  let s := match parked with
    | some m => s.cmpPush m (.sup m .active)
    | none => s
  s.phaseTargets g

/-- Leg n is switching now (R226). -/
def State.switching (s : State) (n : Nat) : Bool :=
  s.holdRow n = 0 && (s.leg n).trips.isEmpty && s.pairSwitches n

/-- The judgement of leg n at the START that ends its period; a period without an SHR firing neither counts nor clears
(DEDUCED, log 75). -/
def State.judgeLeg (s : State) (g n : Nat) : State :=
  let p := s.pl n
  if !s.verdictsCount || s.judgedLeg g n then s
  else
    let high := tgetD (s.phg g).judged (n / 12) false
    let sus := p.switched && s.switching n && p.lows = some true && !high
    let o := if sus then p.open_ + 1
      else if p.switched && s.switching n && p.lows = none && !high then p.open_ else 0
    let b := if (s.leg n).gblock then p.blocked + 1 else 0
    let s := if p.open_ = o && p.blocked = b then s else s.modPl n (fun p => { p with open_ := o, blocked := b })
    if s.rdB PHG.CFG_OPEN_EN g && (s.leg n).sup = .active && s.rd PHG.CFG_OPEN_PER g ≤ o then
      s.retireVerdict g n 0
    else if s.rdB PHG.CFG_BLK_RETIRE g && s.rd PHG.TIMING_BLK_PER g ≤ b then s.retireVerdict g n 2
    else s

/-- The ACTIVE legs of a group, the largest |r_f| first: the leg and the two largest figures. -/
def State.worst (s : State) (g : Nat) : Option (Nat × Nat × Nat) :=
  let l := (s.counted g).filter (fun n => (s.leg n).sup = .active)
  let r (n : Nat) : Nat := fAbs (s.pl n).rF
  match l with
  | [] => none
  | x :: xs =>
    let m := xs.foldl (fun b n => if fLt (r b) (r n) then n else b) x
    let rest := (l.filter (· ≠ m)).map r
    some (m, r m, rest.foldl fMax 0)

/-- The judgement of group g at a START of its reference brick (R228). -/
def State.judgeGroup (s : State) (g : Nat) : State :=
  let p := s.phg g
  let quiet := !s.verdictsCount || s.mm.cur = .ride || s.now < p.quietTo
  let sus := p.evals.1 && !p.evals.2
  let n := if quiet || !sus then 0 else p.sens + 1
  let s := s.setPhg g { p with evals := (false, false), sens := n }
  if !s.rdB PHG.CFG_SENS_EN g || n < s.rd PHG.CFG_SENS_PER g || n = 0 then s
  else
    let s := s.modPhg g (fun p => { p with sens := 0 })
    let e := s.rd PHG.RESID g
    let unres (a b : Nat) : State :=
      (s.wrB PHG.STAT_UNRESOLVED true g).phgEvent 0x14 g [(8, 4, e), (12, 4, a), (16, 4, b)] true
    match s.worst g with
    | none => unres 0 0
    | some (m, r1, r2) =>
      if !(fGe r1 (s.rd PHG.RES_THR g) && fGe r1 (fMul 0x40000000 r2)) then unres r1 r2
      else if s.judgedLeg g m then s
      else if (s.members g).any (fun n => (s.leg n).sup = .shadow || s.supPending n = some .shadow) then
        s.retireVerdict g m 3
      else
        (s.modPhg g (fun p => { p with verdicts := p.verdicts ++ [(⟨m, none, none⟩ : Verdict)] })).cmpPush m
          (.sup m .shadow)

/-- Before the reload of a START of brick k: the judgements of the period that ends (R226, R228, R231). -/
def State.phgBefore (s : State) (k : Nat) : State :=
  let s := s.each (List.range 3) (fun g s =>
    let l := (s.counted g).filter (fun n => n / 12 = k)
    if l.isEmpty then s
    else
      let s := s.each l (fun n s => s.judgeLeg g n)
      s.modPhg g (fun p => { p with judged := tdel p.judged k }))
  s.each (List.range 3) (fun g s => if s.refBrick g = some k then s.judgeGroup g else s)

/-! ### At a START -/

/-- Leg n of group g is retired now (R227): its state, and the spare that is to replace it. -/
def State.retireNow (s : State) (g n : Nat) (spare : Option Nat) : State :=
  (s.modPhg g (fun p =>
    { p with verdicts := p.verdicts.filter (fun x => x.leg ≠ n)
             waiting := match spare with
               | some m => p.waiting ++ [({ spare := m, replaced := n, rampAt := none } : Insertion)]
               | none => p.waiting
             ins := match p.ins with
               | some i => if i.spare = n then none else some i
               | none => none })).setSup n .retired

/-- LEG_RETIRED of leg n of group g, once the retirements of one START have been applied together (R227, R233). -/
def State.retireTold (s : State) (g n cause : Nat) (spare : Option Nat) : State :=
  let after := (s.counted g).length
  let s := s.phgEvent 0x10 g
    [(1, 1, n), (2, 1, cause), (8, 4, s.reloadNow n), (12, 1, after), (13, 1, spare.getD 0xFF)] true
  s.when (after = 0 && (s.phg g).members && s.modeIn (.cease :: runModes)) (·.trigger .protection)

/-- The supervisor command locked for leg n takes effect on the leg. -/
def State.supTake (s : State) (n g : Nat) (v : LegSup) : State :=
  let s := s.modLeg n (fun l => { l with supLock := none })
  match v with
  | .retired =>
    let x := (s.phg g).verdicts.find? (fun x => x.leg = n)
    s.retireNow g n (x.bind (·.spare))
  | .shadow =>
    (s.modPhg g (fun p => { p with verdicts := p.verdicts.filter (fun x => x.leg ≠ n) })).setSup n .shadow
  | v =>
    if (s.leg n).sup = .retired then s
    else (s.modPhg g (fun p =>
      { p with verdicts := p.verdicts.filter (fun x => x.leg ≠ n || x.cause.isSome)
               ins := p.ins.filter (fun i => !(v = .parked && i.spare = n)) })).setSup n v

/-- What a command that has taken effect on leg n is told by, its verdict having stood in the state `old`. -/
def State.supTold (s old : State) (n g : Nat) (v : LegSup) : State :=
  match v with
  | .retired =>
    let x := (old.phg g).verdicts.find? (fun x => x.leg = n)
    s.retireTold g n ((x.bind (·.cause)).getD 0) (x.bind (·.spare))
  | .shadow => s.phgEvent 0x11 g [(1, 1, n), (8, 4, s.rd PHG.RESID g), (12, 4, (s.pl n).rF)] true
  | _ => s

/-- The supervisor commands locked for the legs of brick k take effect together, the weights, targets and ceilings of their
groups follow, and their records are posted in leg order (R227, R233). -/
def State.supStart (s : State) (k : Nat) : State :=
  let l := (legsOf k).filterMap (fun n => (s.leg n).supLock.map (fun v => (n, v)))
  let m := l.filterMap (fun x => (s.phaseGroup x.1).map (fun g => (x.1, g, x.2)))
  let old := s
  let s := s.each (l.map (·.1)) (fun n s => s.modLeg n (fun l => { l with supLock := none }))
  let s := s.each m (fun x s => s.supTake x.1 x.2.1 x.2.2)
  let gs := ((m.filter (fun x => x.2.2 ≠ .shadow)).map (·.2.1)).eraseDups
  let s := s.each gs (fun g s => s.regroup g)
  s.each m (fun x s => s.supTold old x.1 x.2.1 x.2.2)

/-- The insertion that may begin at this START of brick k in group g: its spare's phase walk was clear when the
guard opened, after the retirement START (R230). -/
def State.insertReady (s : State) (g k : Nat) : Option Insertion :=
  match (s.phg g).ins, (s.phg g).waiting with
  | none, i :: _ =>
    if i.spare / 12 = k && (s.leg i.spare).sup = .spare && i.clear then some i else none
  | _, _ => none

/-- An insertion begins (R230). -/
def State.insertNow (s : State) (g : Nat) (i : Insertion) : State :=
  let s := s.modPhg g (fun p =>
    { p with waiting := p.waiting.drop 1, ins := some { i with rampAt := some s.now } })
  let s := s.modPl i.spare (fun p => { p with group := some g })
  let s := (s.setSup i.spare .inserting).regroup g
  s.phgEvent 0x13 g [(1, 1, i.spare), (2, 1, i.replaced), (8, 4, s.reloadNow i.spare), (12, 1, (s.counted g).length)]
    false

/-- The time leg n has been in its state, in ms, is posted when it has changed. -/
def State.postTime (s : State) (n : Nat) : State :=
  s.postIf (legPt n + 3) (Nat.min max32 ((s.now - Nat.max (s.pl n).since s.mm.goodAt) / msH))

/-- The times of all legs, whose bricks may stand (DEDUCED, log 76: at each evaluation of the mode manager). -/
def State.phgTimes (s : State) : State := s.each (List.range 96) (fun n s => s.postTime n)

/-- After the reload of a START of brick k: commands take effect, insertions begin, targets and weights are
written, and the time in the present state is posted. `ins` are the insertions that were ready before it. -/
def State.phgStart (s : State) (k : Nat) (ins : List (Nat × Insertion)) : State :=
  let s := s.supStart k
  let s := s.each ins (fun p s => s.insertNow p.1 p.2)
  let s := s.each (List.range 3) (fun g s =>
    if s.refBrick g = some k then
      let s := (s.takeNext g).when (s.phg g).ins.isSome (·.weights g)
      s.phaseTargets g
    else s)
  s.each (legsOf k) (fun n s =>
    let s := if (s.leg n).sup = .spare && s.rd LEG.PHASE n ≠ 0
        && (List.range 3).any (fun g => s.mayServe g n && s.rdB PHG.CFG_AUTO_PHASE g)
        && !(List.range 3).any (fun g => (s.chosen g).contains n) then
        s.pushTarget n 0 else s
    s.postTime n)

/-- The new period of brick k: what its legs report is counted afresh. -/
def State.phgArm (s : State) (k : Nat) : State :=
  s.each ((legsOf k).filter (fun n => (s.leg n).sup.counted)) (fun n s =>
    let w := s.switching n
    let p := s.pl n
    if p.lows = none && p.switched = w then s else s.setPl n { p with lows := none, switched := w })

/-- SPARE_RAMP_END (R230): the ramp of the insertion of group g ends and its spare becomes ACTIVE. -/
def execSpareRampEnd (g : Nat) (s : State) : Host.Outcome State Fault Refusal :=
  s.runIf (groupOk g) (fun s =>
    match (s.phg g).ins with
    | some i => match i.rampAt with
      | some t =>
        let s := s.to (t + s.rd PHG.TIMING_SPARE_RAMP g * msH)
        let s := s.modPhg g (fun p => { p with ins := none })
        (if (s.leg i.spare).sup = .inserting then s.setSup i.spare .active else s).weights g
      | none => s
    | none => s)

/-! ### SHADOW (R229) -/

/-- SHADOW_TIMEOUT (R229): leg n has been SHADOW for SHADOW_TMO and gets its verdict. -/
def execShadowTimeout (n : Nat) (s : State) : Host.Outcome State Fault Refusal :=
  s.runIf (legOk n) (fun s =>
    match s.phaseGroup n, (s.pl n).shadowAt with
    | some g, some t =>
      if (s.leg n).sup ≠ .shadow || s.judgedLeg g n then s
      else
        let need := s.rd PHG.TIMING_SHADOW_TMO g * msH
        (s.to (t + (need - (s.pl n).shadow))).retireVerdict g n 1
    | _, _ => s)

/-- SHADOW_RESTORE (R229): |r_f| of leg n has stayed below RES_THR/2 for 100 ms, and it returns to ACTIVE. -/
def execShadowRestore (n : Nat) (s : State) : Host.Outcome State Fault Refusal :=
  s.runIf (legOk n) (fun s =>
    match s.phaseGroup n, (s.pl n).okSince with
    | some g, some t =>
      if (s.leg n).sup ≠ .shadow || s.judgedLeg g n then s
      else
        ((s.to (t + 100 * msH)).setSup n .active).phgEvent 0x12 g [(1, 1, n), (2, 1, 0)] false
    | _, _ => s)

/-! ### What the nodes and the sensors tell (R224, R225, R228) -/

/-- SHR of leg n has fired. -/
def State.shrFired (s : State) (n iFb rF : Nat) (low : Bool) : State :=
  let g := (s.phaseGroup n).getD 0
  let small := fLt (fAbs rF) (fMul 0x3F000000 (s.rd PHG.RES_THR g))
  s.modPl n (fun p =>
    { p with iFb := iFb, rF := rF
             lows := some (low && p.lows.getD true)
             okSince := if (s.leg n).sup = .shadow && small then some (p.okSince.getD s.now) else none })

/-- THM of leg n has fired: point j = 2 and the ceilings follow. -/
def State.thmFired (s : State) (n lim : Nat) : State :=
  ((s.modPl n (fun p => { p with lim := some lim })).postF (legPt n + 2) lim).ceilings

/-- PHASE_RESIDUAL (R228): the phase-total current of group g has landed. -/
def State.phaseResidual (s : State) (g itot : Nat) : State :=
  let l := s.counted g
  let e := fSub itot (l.foldl (fun a n => fAdd a (s.pl n).iFb) 0)
  let high := fGt (fAbs e) (s.rd PHG.SENS_THR g)
  let s := (s.wr PHG.RESID e g).postF (grpPt g + 1) e
  s.modPhg g (fun p =>
    { p with evals := (p.evals.1 || high, p.evals.2 || !high)
             judged := if high then (List.range 8).foldl (fun t k => tput t k true false) p.judged else p.judged })

/-! ### Modes (R232 to R234) -/

/-- Entry into DAWN parks the highest-ranked counted legs. -/
def State.phgDawn (s : State) : State :=
  s.each (List.range 3) (fun g s =>
    let l := s.planned g
    let d := s.rd PHG.DAWN g
    let keep := if d = 0 then (l.length + 1) / 2 else d
    let s := s.each (l.drop keep) (fun n s => s.cmpPush n (.sup n .parked))
    if keep < l.length then s.phaseTargets g else s)

/-- Leaving DAWN returns the parked legs to ACTIVE, those whose parking has not acted yet among them. -/
def State.phgUndawn (s : State) : State :=
  s.each ((List.range 96).filter (fun n => s.supSoon n = .parked)) (fun n s => s.cmpPush n (.sup n .active))

/-- Legs that are still PARKED outside DAWN, their commands having lapsed, return to ACTIVE at a START of their brick
while it runs, or at once (R232; DEDUCED, log 137). -/
def State.unpark (s : State) : State :=
  s.each ((List.range 96).filter (fun n => (s.leg n).sup = .parked)) (fun n s =>
    if s.rdB BRK.STATUS_RUN (n / 12) then s.cmpPush n (.sup n .active)
    else match s.phaseGroup n with
      | some g => (s.setSup n .active).regroup g
      | none => s)

/-- Counts return to 0 on leaving the running modes; the suspension after RIDE and the SHADOW time follow the
mode. -/
def State.phgMode (s : State) (was : Mode) : State :=
  let s := if s.verdictsCount then s
    else
      let s := s.each (List.range 3) (fun g s => s.modPhg g (fun p => { p with sens := 0, evals := (false, false) }))
      s.each (s.phgLegs.map (·.1)) (fun n s => s.modPl n (fun p => { p with open_ := 0, blocked := 0 }))
  let s := s.when (was = .ride) (fun s => s.each (List.range 3) (fun g s =>
    s.modPhg g (fun p => { p with quietTo := s.now + 100 * msH, sens := 0 })))
  s.each ((List.range 96).filter (fun n => (s.leg n).sup = .shadow)) (fun n s => s.modPl n (fun p =>
    if s.shadowCounts then { p with shadowAt := some (p.shadowAt.getD s.now) }
    else match p.shadowAt with
      | some t => { p with shadow := p.shadow + (s.now - t), shadowAt := none }
      | none => p))

/-- Entry into STANDBY (R234), at once; commands on their way lapse with their verdicts (DEDUCED, log 137), but for
the return of parked legs (R232). A retirement here calls for a spare like any other (R230). -/
def State.phgStandby (s : State) : State :=
  let s := s.each (s.cmpQ.map (·.1)) (fun k s =>
    let l := (tgetD s.cmpQ k []).filter (fun e => match e with
      | .sup _ _ => false
      | _ => true)
    { s with cmpQ := tput s.cmpQ k l [] })
  let s := s.each (s.legs.map (·.1)) (fun n s => s.modLeg n (fun l => { l with supNext := none, supLock := none }))
  let s := s.each (List.range 3) (fun g s => s.modPhg g (fun p =>
    { p with verdicts := [], waiting := [], ins := none }))
  let s := s.each (List.range 96) (fun n s =>
    match s.phaseGroup n, (s.leg n).sup with
    | some g, .shadow =>
      let spare := if s.wantsSpare g ((s.counted g).filter (· ≠ n)).length then s.spareFor g else none
      ((s.retireNow g n spare).regroup g).retireTold g n 4 spare
    | some g, .inserting => (s.setSup n .active).regroup g
    | _, _ => s)
  s.unpark

/-- Entry into PRESTART: each group is filled up to NOM at once; insertions that wait are overtaken. -/
def State.phgPrestart (s : State) : State :=
  s.each (List.range 3) (fun g s =>
    let have_ := (s.counted g).length
    let cand := (List.range 96).filter (fun n => (s.leg n).sup = .spare && s.mayServe g n)
    let take := cand.take (s.rd PHG.NOM g - have_)
    let s := s.each take (fun n s => (s.modPl n (fun p => { p with group := some g })).setSup n .active)
    let s := s.when (!take.isEmpty) (·.regroup g)
    s.modPhg g (fun p => { p with members := !(s.members g).isEmpty, waiting := [] }))

/-! ### Commands (R234) -/

/-- UNRETIRE of leg n in group g. -/
def State.unretire (s : State) (g n : Nat) : State :=
  if s.phaseGroup n = some g && (s.leg n).sup = .retired then
    s.supChange g n .active (some 1)
  else s

/-- RELEASE of the inserted spare n of group g. -/
def State.release (s : State) (g n : Nat) : State :=
  if s.role n = roleSpare && (s.pl n).group = some g && (s.leg n).sup.counted then
    s.supChange g n .spare (some 2)
  else s

end Sys2Proof.Machine
end

