-- ==== Sys2Proof/Machine/Dcs.lean ====
section
/-!
DEFINITION. The DC stage (spec 11): the state machine of each input, the start into a charged link, short
detection, burst mode, the means and automatic DAWN, and the shorted-switch check of one leg. The array-map fold
is in Machine/Trellis.lean.
-/
namespace Sys2Proof.Machine

def State.dci (s : State) (k : Nat) : DciSt := tgetD s.dcis k {}
def State.setDci (s : State) (k : Nat) (v : DciSt) : State := { s with dcis := tput s.dcis k v {} }
def State.modDci (s : State) (k : Nat) (f : DciSt → DciSt) : State := s.setDci k (f (s.dci k))

def dcOk (k : Nat) : Bool := k < 24

/-- The states of Table 11.1. -/
def dcOff : Nat := 0
def dcWait : Nat := 1
def dcStart : Nat := 2
def dcSoft : Nat := 3
def dcRun : Nat := 4
def dcBurstOn : Nat := 5
def dcSleep : Nat := 6
def dcHiccup : Nat := 7
def dcBlocked : Nat := 8

def State.dcState (s : State) (k : Nat) : Nat := s.rd DCI.STAT_STATE k

/-- The first point of input k (Table 11.2). -/
def dcPt (k : Nat) : Nat := 0x4300 + 8 * k

/-- The latest current, voltage and link voltage (R261). -/
def State.dcI (s : State) (k : Nat) : Nat := s.sp (4 * (96 + k))
def State.dcV (s : State) (k : Nat) : Nat := s.sp (4 * (120 + k))
def State.vLink (s : State) : Nat := fAdd (s.sp 576) (s.sp 580)

/-- p tenths of a percent of I_RATE. -/
def State.ofRate (s : State) (k p : Nat) : Nat := fDiv (fMul (fOfNat p) (s.rd DCI.I_RATE k)) (fOfNat 1000)

/-! ### Who serves what (R261) -/

/-- Input k serves its leg: it is enabled, the leg is in role DC_BOOST, and no lower enabled input names it. -/
def State.dcRoleErr (s : State) (k : Nat) : Bool :=
  s.rdB DCI.CFG_EN k && (s.role (s.rd DCI.CFG_LEG k) ≠ roleDc ||
    (List.range k).any (fun j => s.rdB DCI.CFG_EN j && s.rd DCI.CFG_LEG j = s.rd DCI.CFG_LEG k))

def State.dcCfgErr (s : State) (k : Nat) : Bool := s.rdB DCI.CFG_EN k && !fGt (s.rd DCI.I_RATE k) 0

/-- The input whose leg is n. -/
def State.inputOf (s : State) (n : Nat) : Option Nat :=
  (List.range 24).find? (fun k => s.rdB DCI.CFG_EN k && s.rd DCI.CFG_LEG k = n && !s.dcRoleErr k)

/-- The input whose CFG.LEG names leg n, enabled or not: the one it serves, else the lowest (R261, R273). -/
def State.namedInput (s : State) (n : Nat) : Option Nat :=
  (s.inputOf n).or ((List.range 24).find? (fun k => s.rd DCI.CFG_LEG k = n))

/-! ### Holds and points (R262, R264) -/

/-- i_lim (R268). -/
def State.dcLim (s : State) (k : Nat) : Nat :=
  let r := s.rd DCI.I_RATE k
  if s.dcState k = dcSoft then
    let d := s.rd DCI.START_SS_MS k * msH
    let x := Nat.min d (s.now - (s.dci k).since)
    fMul (fAdd (fc 1 10) (fMul (fc 9 10) (fRatio false x d))) r
  else r

/-- The rectifier is released. -/
def State.dcReleased (s : State) (k : Nat) : Bool :=
  let v := s.dcState k
  let d := s.dci k
  (v = dcSoft || v = dcRun || (v = dcBurstOn && d.confirmed)) && !d.held

/-- What the DC stage holds of leg n follows the state of its input. -/
def State.dcHolds (s : State) (n : Nat) : State :=
  let (both, gh) := match s.inputOf n with
    | none => (false, false)
    | some k =>
      let v := s.dcState k
      let own := v = dcStart || (v = dcBurstOn && !(s.dci k).confirmed)
      ([dcOff, dcWait, dcSleep, dcHiccup, dcBlocked].contains v || (own && !(s.leg n).dcLive), !s.dcReleased k)
  let l := s.leg n
  if l.dcHold = both && l.ghHold = gh then s
  else
    let s := s.modLeg n (fun l => { l with dcHold := both, ghHold := gh })
    let s := s.applyHold n
    s.when (gh && (s.side n .high).on) (fun s => s.offCmd n .high 0 true)

/-- The points j = 0, 2 and 3 of input k, and SR_HOLD; without a Trellis unit j = 4 to 7 as well, as of an input without a
map (R443). -/
def State.dcPosts (s : State) (k : Nat) : State :=
  let s := s.wrB DCI.STAT_SR_HOLD (s.dci k).held k
  let p := dcPt k
  let s := s.when (!s.has 10) (·.posts [(p + 4, 0), (p + 5, 0), (p + 6, 0), (p + 7, fInf false)])
  ((s.postIf (dcPt k) (fOfNat (s.dcState k))).postIf (dcPt k + 2) (s.dcLim k)).postIf (dcPt k + 3)
    (if s.dcReleased k then fOne else 0)

/-- Other pairs of leg n wait while the DC stage's are in force; the latest comes back at the end (R266,
R267). -/
def State.dcTake (s : State) (n : Nat) : State :=
  let p : Pair :=
    if s.rdB LEG.PENDING_VALID n then ⟨s.rd LEG.PENDING_ON n, s.rd LEG.PENDING_OFF n, (s.leg n).pendSrc⟩
    else ⟨s.rd LEG.ACTIVE_ON n, s.rd LEG.ACTIVE_OFF n, if s.rdB LEG.STATUS_SRC n then .esp else .host⟩
  (s.modLeg n (fun l => { l with dcOwn := true, dcLive := false, graphPair := some p })).wrB LEG.PENDING_VALID
    false n

def State.dcGive (s : State) (n : Nat) : State :=
  match (s.leg n).graphPair with
  | some p => ((s.modLeg n (fun l => { l with dcOwn := false, graphPair := none })).arrivePair n p).1
  | none => if (s.leg n).dcOwn then s.modLeg n (fun l => { l with dcOwn := false }) else s

/-- Input k takes a state now. `keep` says that what R269 holds goes on without a change. A frame that is due already ends
a sleep as one that falls due in it does (R284). -/
def State.dcGo (s : State) (k v : Nat) (keep : Bool := false) : State :=
  let n := s.rd DCI.CFG_LEG k
  let was := s.dcState k
  let good (x : Nat) : Bool := x = dcRun || x = dcBurstOn || x = dcSleep
  let scOn := v = dcStart || (v = dcSoft && was = dcStart)
  let low := fLt s.vLink (s.rd DCI.V_SC k)
  let vin := fGe (s.dcV k) (s.rd DCI.VIN_START k)
  let s := (s.wr DCI.STAT_STATE v k).modDci k (fun d =>
    { d with
      since := s.now, toStart := false, frame := d.frame || (decide (v = dcSleep) && d.due)
      fwd := if keep then d.fwd else 0, held := keep && d.held, holdNext := keep && d.holdNext
      relNext := keep && d.relNext, restart := keep && d.restart
      hand := false, confirmed := false, slow := false
      vinAt := if v = dcWait && vin then some s.now else none
      scAt := if !scOn then none else if v = dcSoft then d.scAt else if low then some s.now else none
      goodAt := if good v then (if good was then d.goodAt else some s.now) else none })
  let serves := s.inputOf n = some k
  let s := if serves then (if v = dcStart || v = dcBurstOn then s.dcTake n else s.dcGive n) else s
  (s.when serves (·.dcHolds n)).dcPosts k

/-- What CFG, I_RATE and the roles ask of input k: an error holds it in OFF and raises its fault source, and so
does EN = 0 without the fault (R261, R262). -/
def State.dcCheck (s : State) (k : Nat) : State :=
  let r := s.dcRoleErr k
  let c := s.dcCfgErr k
  let s := ((s.wrB DCI.STAT_ROLE_ERR r k).fltLevel (fsDc k) 4 r)
  let s := ((s.wrB DCI.STAT_CFG_ERR c k).fltLevel (fsDc k) 5 c)
  let bad := r || c || !s.rdB DCI.CFG_EN k
  if bad && s.dcState k ≠ dcOff && !(s.dcState k = dcBlocked && s.rdB DCI.CFG_EN k) then
    (s.dcGo k dcOff).fltLevel (fsDc k) 3 false
  else s.dcPosts k

/-- Every input and DC leg is judged afresh, after a write of CFG, I_RATE or a role; i_lim follows I_RATE in OFF too
(R264, R268). -/
def State.dcSync (s : State) : State :=
  let s := s.each (List.range 24) (fun k s =>
    if s.rdB DCI.CFG_EN k || s.dcState k ≠ dcOff || s.rdB DCI.STAT_ROLE_ERR k || s.rdB DCI.STAT_CFG_ERR k
        || decide (s.sp (dcPt k + 2) ≠ s.dcLim k) then
      s.dcCheck k else s)
  s.each (List.range 96) (fun n s =>
    let s := if (s.inputOf n).isNone && (s.leg n).dcOwn then s.dcGive n else s
    s.dcHolds n)

/-! ### At a START (R265 to R269, R283) -/

/-- The mean of the landings of the period that ends, none without one. -/
def DciSt.mean? (d : DciSt) : Option Nat := if d.landN = 0 then none else some (fDiv d.landSum (fOfNat d.landN))

/-- d_start. -/
def State.dStart (s : State) (k : Nat) : Nat :=
  let vin := s.dcV k
  let vl := s.vLink
  if fLe vl vin then fOne else nClamp 0 fOne (fDiv vin vl)

/-- The DC stage commits the pair for d_start. -/
def State.dcCommit (s : State) (k n : Nat) : State :=
  let d := s.dStart k
  let p := pwoPair 0 (if s.ownLeg n then s.rd LEG.LPERIOD n else s.rd BRK.PERIOD_NOW (n / 12)) d 0
  (s.cmpPush n (.dc n p.1 p.2)).postIf (dcPt k + 1) d

/-- The count of R267 after a period with this mean. -/
def State.fwdCount (s : State) (k : Nat) (m : Option Nat) : Nat :=
  match m with
  | some x => if fGe x (s.ofRate k (s.rd DCI.START_FWD_PCT k)) then (s.dci k).fwd + 1 else 0
  | none => 0

/-- The ON phase of a burst ends (R283). -/
def State.burstEnd (s : State) (k : Nat) : State :=
  let d := s.dci k
  let high := d.cycN ≠ 0 && fGe (fDiv d.cycSum (fOfNat d.cycN)) (s.ofRate k (s.rd DCI.BURST_EXIT_PCT k))
  let c := if high then d.cycles + 1 else 0
  let s := s.modDci k (fun d => { d with cycN := 0, cycSum := 0, cycles := if c ≥ 3 then 0 else c })
  if c ≥ 3 then s.dcGo k dcRun true else s.dcGo k dcSleep

/-- The change that input k makes at this START, if one is due: the state it goes to. -/
def State.dcMove (s : State) (k : Nat) : Option Nat :=
  let d := s.dci k
  let v := s.dcState k
  let dawn := decide (s.mm.cur = .dawn)
  let free := s.holdRow (s.rd DCI.CFG_LEG k) = 0
  if v = dcWait && d.toStart then some dcStart
  else if v = dcStart && d.hand then some dcSoft
  else if (v = dcSoft || v = dcRun || v = dcBurstOn) && d.restart && free then some dcStart
  else if (v = dcSleep || v = dcBurstOn) && !dawn then some dcStart
  else if v = dcSleep && (d.toStart || (d.due && d.frame)) then some dcBurstOn
  else if v = dcRun && dawn && s.rdB DCI.CFG_BURST_EN k && (match d.mean with
      | some m => fLt m (s.ofRate k (s.rd DCI.BURST_ENTER_PCT k))
      | none => false) then some dcSleep
  else none

/-- A period of input k that ends in its present state (R267, R269). -/
def State.dcPeriod (s : State) (k : Nat) (m : Option Nat) : State :=
  let d := s.dci k
  let v := s.dcState k
  let f := s.fwdCount k m
  let full := s.rd DCI.START_FWD_N k ≤ f
  if v = dcStart || (v = dcBurstOn && !d.confirmed) then
    let s := s.modDci k (fun d => { d with fwd := f, hand := full })
    s.when full (·.dcGive (s.rd DCI.CFG_LEG k))
  else if v = dcSoft || v = dcRun || v = dcBurstOn then
    if d.held then s.modDci k (fun d => { d with fwd := f, relNext := full })
    else
      let rev := match m with
        | some x => fLt x (fNeg (s.ofRate k (s.rd DCI.START_REV_PCT k)))
        | none => false
      if rev then s.modDci k (fun d => { d with holdNext := true, fwd := 0 }) else s
  else s

/-- What was fixed at the last START for this one: the end of a burst's start, and the rectifier (R267,
R269). -/
def State.dcFixed (s : State) (k : Nat) : State :=
  let d := s.dci k
  if s.dcState k = dcBurstOn && d.hand then
    s.modDci k (fun d => { d with hand := false, confirmed := true, fwd := 0 })
  else if d.holdNext then s.modDci k (fun d => { d with holdNext := false, held := true, fwd := 0 })
  else if d.relNext then s.modDci k (fun d => { d with relNext := false, held := false, fwd := 0 })
  else s

/-- The DC stage at a START of leg n, after its reload. -/
def State.dcsStart (s : State) (n : Nat) : State :=
  match s.inputOf n with
  | none => s
  | some k =>
    let m := (s.dci k).mean?
    let s := s.modDci k (fun d => { d with landN := 0, landSum := 0 })
    let s := match s.dcMove k with
      | some v =>
        let s := if v = dcSleep then s.modDci k (fun d => { d with cycN := 0, cycSum := 0, cycles := 0 })
          else s
        let s := s.dcGo k v
        if v = dcBurstOn then s.modDci k (fun d => { d with onLeft := s.rd DCI.BURST_ON k }) else s
      | none =>
        let s := (s.dcFixed k).dcPeriod k m
        if s.dcState k = dcBurstOn then
          let left := (s.dci k).onLeft - 1
          let s := s.modDci k (fun d => { d with onLeft := left })
          if left = 0 && !(s.dci k).frame then s.burstEnd k else s
        else s
    let s := s.dcHolds n
    let s := s.when ((s.leg n).dcOwn) (·.dcCommit k n)
    s.dcPosts k

/-- Before the ends of actions and blocks at a START: one that stands on leg n, or has acted on it since the last START,
makes its input start afresh (R263). -/
def State.dcsBefore (s : State) (n : Nat) : State :=
  match s.inputOf n with
  | none => s
  | some k =>
    let v := s.dcState k
    let hit := (v = dcSoft || v = dcRun || v = dcBurstOn) && ((s.leg n).hit || s.actedOn n)
    let s := if (s.leg n).hit then s.modLeg n (fun l => { l with hit := false }) else s
    if hit && !(s.dci k).restart then s.modDci k (fun d => { d with restart := true }) else s

/-! ### Landings (R261, R267, R270, R282, R470) -/

/-- The instant from which a condition has held. -/
def heldFrom (t : Option Nat) (c : Bool) (now : Nat) : Option Nat := if c then some (t.getD now) else none

/-- V_link is in the precharge window (R470). -/
def State.inPrecharge (s : State) : Bool :=
  fGe s.vLink (s.rd DCS.PRE_VLO) && fLe s.vLink (s.rd DCS.PRE_VHI)

/-- V_link or its limits may have changed. -/
def State.linkCheck (s : State) : State :=
  let s := { s with dcs := { s.dcs with preAt := heldFrom s.dcs.preAt s.inPrecharge s.now } }
  s.each (s.dcis.map (·.1)) (fun k s =>
    let v := s.dcState k
    if v = dcStart || v = dcSoft then
      s.modDci k (fun d => { d with scAt := heldFrom d.scAt (fLt s.vLink (s.rd DCI.V_SC k)) s.now })
    else s)

def State.vinCheck (s : State) (k : Nat) : State :=
  if s.dcState k = dcWait then
    s.modDci k (fun d => { d with vinAt := heldFrom d.vinAt (fGe (s.dcV k) (s.rd DCI.VIN_START k)) s.now })
  else s

/-- A current of input k has landed, with its tag. -/
def State.dcCurrent (s : State) (k v tag : Nat) : State :=
  if !s.rdB DCI.CFG_EN k then s
  else
    let n := s.rd DCI.CFG_LEG k
    let since := s.dtAt (s.legStartAt n) % 2 ^ 32
    let inPer := decide ((tag + 2 ^ 32 - since) % 2 ^ 32 < 2 ^ 31)
    let p := fMul (s.dcV k) v
    s.modDci k (fun d =>
      { d with
        landN := if inPer then d.landN + 1 else d.landN
        landSum := if inPer then fAdd d.landSum v else d.landSum
        cycN := d.cycN + 1, cycSum := fAdd d.cycSum v
        curN := d.curN + 1, curSum := fAdd d.curSum v, powSum := fAdd d.powSum p })

/-- A sensor result of channel ch has landed. -/
def State.dcsLanding (s : State) (ch v tag : Nat) : State :=
  if 96 ≤ ch && ch < 120 then s.dcCurrent (ch - 96) v tag
  else if 120 ≤ ch && ch < 144 then s.vinCheck (ch - 120)
  else if ch = 144 || ch = 145 then s.linkCheck
  else s

/-! ### The timed rows -/

/-- VIN_START_HOLD (R265): Vin has stayed at or above VIN_START for 1 s; the input starts at the next START of
its leg. -/
def execVinStartHold (k : Nat) (s : State) : Host.Outcome State Fault Refusal :=
  s.runIf (dcOk k) (fun s =>
    match (s.dci k).vinAt with
    | some t =>
      if s.dcState k = dcWait then (s.to (t + secH)).modDci k (fun d => { d with toStart := true }) else s
    | none => s)

/-- START_SLOW (R267): forward current has not been confirmed within 500 ms. -/
def execStartSlow (k : Nat) (s : State) : Host.Outcome State Fault Refusal :=
  s.runIf (dcOk k) (fun s =>
    let d := s.dci k
    if s.dcState k ≠ dcStart || d.hand || d.slow then s
    else
      (((s.to (d.since + 500 * msH)).modDci k (fun d => { d with slow := true })).wrB DCI.STAT_START_SLOW true
        k).fltOccur (fsDc k) 1)

/-- SOFT_START_END (R268). -/
def execSoftStartEnd (k : Nat) (s : State) : Host.Outcome State Fault Refusal :=
  s.runIf (dcOk k) (fun s =>
    if s.dcState k = dcSoft then
      (s.to ((s.dci k).since + s.rd DCI.START_SS_MS k * msH)).dcGo k dcRun true
    else s)

/-- SHORT_DETECTION (R270, R271): V_link has stayed below V_SC for T_SC in START or SOFT. -/
def execShortDetection (k : Nat) (s : State) : Host.Outcome State Fault Refusal :=
  s.runIf (dcOk k) (fun s =>
    match (s.dci k).scAt with
    | some t =>
      if s.dcState k = dcStart || s.dcState k = dcSoft then
        let s := (s.to (t + s.rd DCI.SC k * usH)).wrB DCI.STAT_SC_SEEN true k
        let r := Nat.min 4 (s.rd DCI.STAT_RETRY k + 1)
        let s := (s.wr DCI.STAT_RETRY r k).fltOccur (fsDc k) 2
        if r = 4 then (s.dcGo k dcBlocked).fltLevel (fsDc k) 3 true else s.dcGo k dcHiccup
      else s
    | none => s)

/-- HICCUP_END (R271). -/
def execHiccupEnd (k : Nat) (s : State) : Host.Outcome State Fault Refusal :=
  s.runIf (dcOk k) (fun s =>
    if s.dcState k = dcHiccup then (s.to ((s.dci k).since + 100 * msH)).dcGo k dcStart else s)

/-- RETRY_COUNT_RESET (R271). -/
def execRetryCountReset (k : Nat) (s : State) : Host.Outcome State Fault Refusal :=
  s.runIf (dcOk k) (fun s =>
    match (s.dci k).goodAt with
    | some t => (s.to (t + 10 * secH)).wr DCI.STAT_RETRY 0 k
    | none => s)

/-- BURST_SLEEP_END (R283): SLEEP_MS has passed; the ON phase starts at the next START. -/
def execBurstSleepEnd (k : Nat) (s : State) : Host.Outcome State Fault Refusal :=
  s.runIf (dcOk k) (fun s =>
    if s.dcState k = dcSleep then
      (s.to ((s.dci k).since + s.rd DCI.BURST_SLEEP_MS k * msH)).modDci k (fun d => { d with toStart := true })
    else s)

/-- A downlink frame is due for segment k, or no longer: a sleep ends at a START at which one still is, and the ON
phase lasts until the frame ends (R284, R297). -/
def State.dcFrame (s : State) (k : Nat) (due : Bool) : State :=
  let wake := due && decide (s.dcState k = dcSleep)
  let d := s.dci k
  if d.due = due && !wake && (due || !d.frame) then s
  else s.setDci k { d with due := due, frame := wake || (due && d.frame) }

/-- The 100 ms in hand of input k ends: its current mean, and P_AVG over the last ten. -/
def State.dcBlock (s : State) (k : Nat) : State :=
  let d := s.dci k
  let b := ((d.curN, d.powSum) :: d.blocks).take 10
  let n := b.foldl (fun a x => a + x.1) 0
  let p := if n = 0 then 0 else fDiv (b.foldl (fun a x => fAdd a x.2) 0) (fOfNat n)
  (s.setDci k { d with
    blocks := b, curN := 0, curSum := 0, powSum := 0
    mean := if d.curN = 0 then none else some (fDiv d.curSum (fOfNat d.curN)) }).wr DCI.P_AVG p k

/-- DAWN_P_POST (R282): P_dc is posted, and the timers of automatic DAWN are judged. -/
def execDawnPPost (s : State) : Host.Outcome State Fault Refusal :=
  s.run (fun s =>
    let t := s.dcs.dawnAt + 100 * msH
    let s := s.to t
    let en := (List.range 24).filter (fun k => s.rdB DCI.CFG_EN k)
    let s := s.each en (fun k s => s.dcBlock k)
    let p := fDiv (en.foldl (fun a k => fAdd a (s.rd DCI.P_AVG k)) 0) (s.rd DCS.P_RATED)
    let s := s.wr DCS.DAWN_P p
    let s := s.each (List.range 24) (fun k s => match (s.dci k).foldAt with
      | some f => s.postIf (dcPt k + 7) (fRatio false (s.dtNs - f) 1000000000)
      | none => s)
    let up := s.modeIn [.follow, .form]
    let dawn := decide (s.mm.cur = .dawn)
    let low := heldFrom s.dcs.dawnLow (up && fLt p (fc (s.rd DCS.DAWN_LVL_ENTER) 1000)) s.now
    let high := heldFrom s.dcs.dawnHigh (dawn && fGt p (fc (s.rd DCS.DAWN_LVL_EXIT) 1000)) s.now
    let s := { s with dcs := { s.dcs with dawnAt := t, dawnLow := low, dawnHigh := high } }
    let passed (a : Option Nat) (sec : Nat) : Bool := match a with
      | some a => s.rdB GLB.MODECFG_AUTO_DAWN && decide (a + sec * secH ≤ s.now)
      | none => false
    if passed low (s.rd DCS.DAWN_TIME_ENTER_S) then s.trigger .dawnIn
    else if passed high (s.rd DCS.DAWN_TIME_EXIT_S) then s.trigger .dawnOut
    else s)

/-! ### Commands and modes (R263, R271, R278) -/

/-- DCI.CMD.UNBLOCK (R271): outside STANDBY, SERVICE and FACTORY it does nothing. -/
def State.dcUnblock (s : State) (k : Nat) : State :=
  if s.modeAdmits .ssf && s.dcState k = dcBlocked then
    ((s.wr DCI.STAT_RETRY 0 k).dcGo k dcOff).fltLevel (fsDc k) 3 false
  else s

/-- UNBLOCK (R271). -/
def execUnblock (k : Nat) (s : State) : Host.Outcome State Fault Refusal :=
  s.runIf (dcOk k) (fun s => s.hostWrite (·.dcUnblock k))

/-- DCI.CMD.SWEEP (R278): latched until MPT serves it. -/
def State.dcSweep (s : State) (k : Nat) : State := s.modDci k (fun d => { d with sweep := true })

/-- SWEEP (R278). -/
def execSweep (k : Nat) (s : State) : Host.Outcome State Fault Refusal :=
  s.runIf (dcOk k) (fun s => s.hostWrite (·.dcSweep k))

/-- A mode change (R263, R271, R282). -/
def State.dcsMode (s : State) (was : Mode) : State :=
  let s := { s with dcs := { s.dcs with dawnLow := none, dawnHigh := none } }
  let en := (List.range 24).filter (fun k => s.rdB DCI.CFG_EN k)
  if s.modeIn runModes then
    if was = .prestart || was = .cease then
      s.each en (fun k s =>
        if s.dcState k = dcOff && !s.dcRoleErr k && !s.dcCfgErr k then s.dcGo k dcWait else s)
    else s
  else
    let s := s.each en (fun k s => if s.dcState k = dcOff || s.dcState k = dcBlocked then s else s.dcGo k dcOff)
    if s.mm.cur = .standby && [Mode.safestop, .cease, .prestart].contains was then
      s.each en (fun k s =>
        if s.dcState k = dcBlocked then ((s.wr DCI.STAT_RETRY 0 k).dcGo k dcOff).fltLevel (fsDc k) 3 false
        else s)
    else s

/-! ### The shorted-switch check (R272 to R274) -/

/-- The legs that are checked, in order. -/
def State.chkLegs (s : State) : List Nat :=
  (List.range 96).filter (fun n => s.role n ≠ 0 && (s.leg n).sup ≠ .retired)

/-- The cause of the static check of a DC_BOOST leg, 0 when it passes. -/
def State.staticCheck (s : State) (n : Nat) : Nat :=
  match s.namedInput n with
  | none => 0
  | some k =>
    if fLt (fAbs (fSub s.vLink (s.dcV k))) (s.rd DCS.SHORT_CHK) && fLe (s.dcI k) (fNeg (s.rd DCS.CHK_IREV)) then 3
    else if fGe (s.dcI k) (s.rd DCS.CHK_IFWD) then 4
    else 0

/-- One test pulse of 300 ns on a side of leg n at instant t, and what its status input shows: the cause it
gives, 0 for none. A pulse that rows 1 to 5 of Table 5.5 hold is not issued and gives no cause (R131; DEDUCED, log
139). -/
def State.testPulse (s : State) (n t : Nat) (d : Side) (r : PulseResp) : State × Nat :=
  let s := s.toPw t
  let row := s.holdRow n
  if 1 ≤ row && row ≤ 5 then (s, 0)
  else if !s.oppOff n d then
    (((s.toPw (t + s.rd LEG.ICFG n)).wrB LEG.GSTAT_INTLK_TMO true n).blockLeg n 16, 5)
  else
    let s := (s.onCmd n d 0).toPw (t + 3840)
    let s := (s.offCmd n d 0 true).modSide n d (fun v => { v with stuckBy := none, confirmBy := none })
    if !r.confirmed then ((s.toPw (t + 19200)).gateFault n d gLink, 6)
    else if !r.offSeen then ((s.toPw (t + 3840 + usH)).gateFault n d gStuck, 7)
    else if r.desat then
      let u := s.toPw (t + 3840 + 256000)
      ((u.modSide n d (fun v => { v with lastDesat := some u.now })).gateFault n d gDesat, 8)
    else (s, 0)

/-- Checks in the order of Table 11.6: the first cause that applies. -/
def firstCause (l : List Nat) : Nat := (l.filter (· ≠ 0)).foldl (fun a c => if a = 0 || c < a then c else a) 0

/-- The hard window of leg n sees a crossing during the check, of its HIGH threshold (true) or of its LOW one: one that is
enabled latches, with the threshold seen (R143, R144). Answers whether the window is latched by it. -/
def State.hardCross (s : State) (n : Nat) (r : Option Bool) : State × Bool :=
  let w := 96 + n
  match r with
  | none => (s, false)
  | some hi =>
    if !s.rdB (if hi then CW.CFG_EN_HI else CW.CFG_EN_LO) w then (s, false)
    else if s.rdB CW.STAT_LATCH w then (s, true)
    else
      let c := s.cw w
      let s := ((s.setCw w { c with rawHi := hi, rawLo := !hi }).winLatch w).shears (some w)
      (s.setCw w { s.cw w with rawHi := c.rawHi, rawLo := c.rawLo }, true)

/-- The check of leg n from its start t (Table 11.5), with the responses of its status inputs and whether its hard
window latches between 30 and 100 µs. -/
def State.legCheck (s : State) (n : Nat) (r : ChkResp) : State × Nat :=
  let t := s.pw
  let role := s.role n
  let l := s.leg n
  let c1 := if s.rd BRK.GCFG_DRV (n / 12) = 0 then 1 else 0
  let c2 := if l.gblock || s.rdB LEG.CTRL_HBLOCK n then 2 else 0
  let c3 := if role = roleDc then s.staticCheck n else 0
  let silent := c1 ≠ 0 || c2 ≠ 0 || c3 ≠ 0
  let a : State × Nat := if silent then (s, 0)
    else s.testPulse n (t + 30 * usH) (if role = roleChopper then .high else .low) r.first
  let s := a.1
  let b : State × Nat := if silent || role = roleChopper || role = roleDc || (s.leg n).gblock then (s, 0)
    else s.testPulse n (t + 60 * usH) .high r.second
  let s := b.1
  let h := s.hardCross n r.hard
  let s := h.1
  let c9 := if h.2 then 9 else 0
  (s.toPw (t + 125 * usH), firstCause [c1, c2, c3, a.2, b.2, c9])

/-- The verdict is kept (R274). -/
def State.chkVerdict (s : State) (n cause : Nat) : State :=
  let s := s.wr DCS.CHK_STAT_COUNT (s.rd DCS.CHK_STAT_COUNT + 1)
  if cause = 0 then s
  else
    let first := !s.rdB DCS.CHK_STAT_FAIL
    let s := if first then
        ((s.wrB DCS.CHK_STAT_FAIL true).wr DCS.CHK_STAT_LEG n).wr DCS.CHK_STAT_CAUSE cause else s
    let v := s.rd DCS.CHK_FAIL 0 (n / 32)
    (s.wr DCS.CHK_FAIL (putBits v (n % 32) 1 1) 0 (n / 32)).fltOccur fsPrestartChk n

/-- A new prestart: what the last one kept goes. -/
def State.chkReset (s : State) : State :=
  let s := s.each [DCS.CHK_STAT_FAIL, DCS.CHK_STAT_LEG, DCS.CHK_STAT_CAUSE, DCS.CHK_STAT_COUNT] (fun f s => s.wr f 0)
  s.each (List.range 3) (fun i s => s.wr DCS.CHK_FAIL 0 0 i)

end Sys2Proof.Machine
end

