-- ==== Sys2Proof/Machine/Grid.lean ====
section
/-!
DEFINITION. The grid supervisor (R242 to R249, R257, R469): curves and their timers, must-trips, enter-service
qualification, the passive checks and the synchronisation check.
-/
namespace Sys2Proof.Machine

def State.setGrd (s : State) (f : GrdSt → GrdSt) : State := { s with grd := f s.grd }
def State.kind (s : State) (k : Nat) : KindSt := tgetD s.grd.kinds k {}
def State.setKind (s : State) (k : Nat) (v : KindSt) : State :=
  s.setGrd (fun g => { g with kinds := tput g.kinds k v {} })

/-- The CRV nodes of the loaded graph, as a mask of kinds. -/
def State.kindsPresent (s : State) : Nat :=
  maskOf ((s.nodes.filter (fun n => n.type = 0x11)).map (fun n => bits n.param 0 2))

/-- UV and UF: a low value is in condition. -/
def lowKind (k : Nat) : Bool := k % 2 = 0

/-- The points of kind k in the set in force that x meets, with their timers run on by gap ns (R243). -/
def State.inCondition (s : State) (k x : Nat) : List Nat :=
  let c := 4 * k + s.rd GRD.STAT_SET
  (List.range 16).filter (fun i => s.rdB CRV.PT_VALID c i
    && (if lowKind k then fLt x (s.rd CRV.PT_LEVEL c i) else fLt (s.rd CRV.PT_LEVEL c i) x))

/-- The point that gives the region: the most extreme LEVEL, and there the highest REGION. -/
def State.regionPoint (s : State) (k : Nat) (l : List Nat) : Option Nat :=
  let c := 4 * k + s.rd GRD.STAT_SET
  match l with
  | [] => none
  | p :: ps => some (ps.foldl (fun b i =>
      let x := s.rd CRV.PT_LEVEL c i
      let y := s.rd CRV.PT_LEVEL c b
      let more := if lowKind k then fLt x y else fLt y x
      if more || (fEq x y && s.rd CRV.PT_REGION c b < s.rd CRV.PT_REGION c i) then i else b) p)

/-- The device region: the highest over the kinds that have a node. -/
def State.deviceRegion (s : State) : Nat :=
  (onesOf s.kindsPresent 4).foldl (fun a k => Nat.max a (s.kind k).region) 0

/-- 65,535 ms, the t_left without a timer. -/
def leftMax : Nat := 0x477FFF00

/-- The smallest t_left of the kinds. -/
def State.leastLeft (s : State) : Nat :=
  (onesOf s.kindsPresent 4).foldl (fun a k => fMin a (s.kind k).left) leftMax

/-- The supervisor acts (R245). -/
def State.grdActs (s : State) : Bool := s.rdB GRD.CFG_EN

/-- GRID_TRIP (Table 10.12) with its fault sources. -/
def State.gridTrip (s : State) (cause item point value : Nat) (acts : Bool) : State :=
  s.post 0x17 [(1, 1, cause), (2, 1, item), (3, 1, point), (8, 4, value), (12, 1, b2n acts)]

/-- The supervisor acts on a must-trip in this mode (Table 10.3). -/
def State.tripActs (s : State) : Bool := s.grdActs && s.modeIn (.cease :: runModes)

/-- A timer that has run for t ns is that of a must-trip (R243); `j` is 16 · kind + point. -/
def State.tripDue (s : State) (j t : Nat) : Bool :=
  let trip := s.rd CRV.PT_TRIP_MS (4 * (j / 16) + s.rd GRD.STAT_SET) (j % 16)
  trip ≠ 0xFFFF && decide (trip * 1000000 ≤ t)

/-- A must-trip is present. -/
def State.mustNow (s : State) : Bool := s.grd.timers.any (fun p => s.tripDue p.1 p.2)

/-- A must-trip of point i of kind k (R243, R245). -/
def State.mustTrip (s : State) (k i x : Nat) : State :=
  let acts := s.tripActs
  let s := s.when acts (·.setGrd (fun g => { g with acted := g.acted ++ [16 * k + i] }))
  let s := ((s.wrB GRD.STAT_MUST_TRIP true).gridTrip 0 k i x acts).fltOccur fsGridTrip k
  s.when acts (·.trigger .protection)

/-! ### Enter service (R247) -/

/-- The conditions are met at this firing. -/
def State.esMet (s : State) : Bool :=
  let x (k : Nat) : Nat := (s.kind k).x
  let f (k : Nat) : Bool := fGe (x k) (s.rd GRD.ES_FLO) && fLe (x k) (s.rd GRD.ES_FHI)
  s.kindsPresent = 15 && s.deviceRegion = 0 && s.grd.timers.isEmpty && fGe (x 0) (s.rd GRD.ES_VLO)
    && fLe (x 1) (s.rd GRD.ES_VHI) && f 2 && f 3

/-- ENTER_SERVICE (Table 10.12). -/
def State.esEvent (s : State) (broken : Bool) (ns : Nat) : State :=
  s.post 0x1E [(1, 1, b2n broken), (8, 4, Nat.min max32 (ns / 1000000))]

/-- The qualified run at a CRV firing whose sample opened at DT dt, after `era` steps of DT, and whose nominal
interval is nom ns: it counts DT from its first firing, over firings of every cadence; across a step it counts the
nominal interval, and a sample from before a step that it has counted already leaves it (R431). -/
def State.esFiring (s : State) (dt era nom : Nat) : State :=
  let g := s.grd
  let was := g.esRun
  let t := if s.esMet then
      match was with
      | some t =>
        some (if g.esEra < era then t + nom else if era < g.esEra then t else Nat.max t ((dt : Int) - g.esFrom).toNat)
      | none => some 0
    else none
  let ns := t.getD 0
  let anew := was.isNone || decide (g.esEra < era)
  let full := t.isSome && decide (s.rd GRD.ES_DELAY * 100000000 ≤ ns)
  let s := s.when (full && !g.esDone) (·.esEvent false ns)
  let s := s.when (t.isNone && g.esDone) (·.esEvent true (was.getD 0))
  let s := s.setGrd (fun g =>
    { g with esRun := t, esFrom := if anew then (dt : Int) - ns else g.esFrom, esEra := if anew then era else g.esEra
             esDone := full })
  ((s.wr GRD.ES_TIME (Nat.min max32 (ns / 1000000))).wrB GRD.STAT_ES_MET full).postF 0x42A3
    (fRatio false ns 1000000000)

/-- The run restarts, at entry into CEASE and with the graph. -/
def State.esRestart (s : State) : State :=
  (((s.setGrd (fun g => { g with esRun := none, esDone := false })).wr GRD.ES_TIME 0).wrB GRD.STAT_ES_MET false).postIf
    0x42A3 0

/-! ### Curves (R243 to R245) -/

/-- A new set takes effect at the first CRV firing with no timer running (R244). -/
def State.takeSet (s : State) : State :=
  let p := s.rd GRD.PROFILE
  if s.grd.timers.isEmpty && s.rd GRD.STAT_SET ≠ p then
    (s.wr GRD.STAT_SET p).wrB GRD.STAT_PENDING_SET false
  else s

/-- V_pre (Table 10.7): the mean of the UV inputs of the last second with device region 0. -/
def State.vPre (s : State) (x : Nat) : State :=
  if s.deviceRegion ≠ 0 then s
  else
    let l := (s.grd.vpre ++ [(s.now, x)]).filter (fun p => s.now < p.1 + secH)
    let sum := l.foldl (fun a p => a + fScaled p.2) 0
    (s.setGrd (fun g => { g with vpre := l })).postF 0x42A1 (fDiv (fPackI sum (-149)) (fOfNat l.length))

/-- The runs of EXIT_MS and RESTORE_MS follow the device region, as far as they have begun or it lets them. -/
def State.regionRuns (s : State) : State :=
  let r := s.deviceRegion
  let keep (b : Bool) (o : Option Nat) : Option Nat := if b then some (o.getD s.now) else none
  (s.setGrd (fun g => { g with exitAt := keep (r = 0) g.exitAt, restoreAt := keep (r ≤ 1) g.restoreAt })).wr
    GRD.STAT_REGION r

/-- The device region has been formed anew: what it asks of the mode manager (Table 10.3); in CEASE, region 2 adds its
return condition (R38). -/
def State.regionActs (s : State) : State :=
  let r := s.deviceRegion
  let s := s.regionRuns.posts [(0x42A0, fOfNat r), (0x42A2, s.leastLeft)]
  if !s.grdActs then s
  else if r = 1 && s.modeIn [.follow, .form] then s.trigger .ride
  else if r = 2 && s.modeIn (.cease :: runModes) then s.trigger .momentary
  else s

/-- A CRV node of kind k fires with input x, in a sample opened at DT dt after `era` steps of DT; nom is the nominal
interval of its cadence in ns, which stands for an interval that spans a DT step (R431). It answers region and t_left.
A must-trip is reported when its timer reaches TRIP_MS, and again when the supervisor can first act on it (R245). -/
def State.crvFire (s : State) (k x dt era nom : Nat) : State × Nat × Nat :=
  let s := s.takeSet
  let kd := s.kind k
  let gap := match kd.dt with
    | some d => if kd.era ≠ era then nom else dt - d
    | none => nom
  let c := 4 * k + s.rd GRD.STAT_SET
  let l := s.inCondition k x
  let old := s.grd.timers
  let timer (i : Nat) : Nat := match tget old (16 * k + i) with
    | some t => t + gap
    | none => 0
  let trip (i : Nat) : Nat := s.rd CRV.PT_TRIP_MS c i
  let acted := s.grd.acted
  let must := l.filter (fun i => s.tripDue (16 * k + i) (timer i) && (match tget old (16 * k + i) with
    | some t => !s.tripDue (16 * k + i) t || (s.tripActs && !acted.contains (16 * k + i))
    | none => true))
  let rest := tkeep old (fun j => j / 16 ≠ k)
  let timers := l.foldl (fun t i => tins t (16 * k + i) (timer i)) rest
  let pt := s.regionPoint k l
  let region := match pt with
    | some i => s.rd CRV.PT_REGION c i
    | none => 0
  let left := (l.filter (fun i => trip i ≠ 0xFFFF)).foldl (fun a i =>
    fMin a (fRatI ((trip i * 1000000 : Nat) - (timer i : Int)) 1000000)) leftMax
  let changed := (s.kind k).region ≠ region
  let s := s.setGrd (fun g => { g with
    timers := timers, acted := g.acted.filter (fun j => (tget timers j).isSome) })
  let s := s.setKind k { region := region, point := pt, x := x, left := left, dt := some dt, era := era }
  let s := s.when changed (·.post 0x16
    [(1, 1, k), (2, 1, s.deviceRegion), (3, 1, pt.getD 0xFF), (8, 4, x), (12, 4, left)])
  let s := s.regionActs
  let s := s.each must (fun i s => s.mustTrip k i x)
  let s := s.when (k = 0) (·.vPre x)
  (s.esFiring dt era nom, fOfNat region, left)

/-- A graph begins or has stopped: kinds, timers, region and the qualified run begin afresh (DEDUCED, log 138), a run that
had reached ES_DELAY being broken (R247). CRV_MISSING names the kinds that a loaded graph lacks (R243). -/
def State.grdGraph (s : State) : State :=
  let s := s.when s.grd.esDone (·.esEvent true (s.grd.esRun.getD 0))
  let s := (s.setGrd (fun g => { g with timers := [], kinds := [], acted := [] })).esRestart.regionRuns
  let s := (s.postIf 0x42A0 0).postIf 0x42A2 leftMax
  s.wr GRD.STAT_CRV_MISSING (if s.esp.graph.isSome then 15 - s.kindsPresent else 0)

/-- EXIT_MS_EXPIRY (R245): region 0 has held for EXIT_MS in RIDE. -/
def execExitMsExpiry (s : State) : Host.Outcome State Fault Refusal :=
  s.run (fun s =>
    match s.grd.exitAt with
    | some t =>
      if s.grdActs && s.mm.cur = .ride then
        (s.to (t + s.rd GRD.SETCFG_EXIT_MS 0 (s.rd GRD.STAT_SET) * msH)).trigger .rideReturn
      else s
    | none => s)

/-- RESTORE_MS_EXPIRY (R245, R246): the region has been at most 1 for RESTORE_MS in CEASE. -/
def execRestoreMsExpiry (s : State) : Host.Outcome State Fault Refusal :=
  s.run (fun s =>
    match s.grd.restoreAt with
    | some t =>
      if s.grdActs && s.mm.cur = .cease && s.mm.causes.contains .momentaryCessation then
        (s.to (t + s.rd GRD.SETCFG_RESTORE_MS 0 (s.rd GRD.STAT_SET) * msH)).trigger .restored
      else s
    | none => s)

/-- GRD.CTRL.RETURN (R246): latched in CEASE, ignored elsewhere. -/
def State.grdReturn (s : State) : State := s.when (s.mm.cur = .cease) (·.wrB GRD.STAT_RETURN_REQ true)

/-- GRD_RETURN (R246). -/
def execGrdReturn (s : State) : Host.Outcome State Fault Refusal :=
  s.run (fun s => s.hostWrite (·.grdReturn))

/-- A write of GRD.PROFILE: pending until R244 lets it act. -/
def State.profileSet (s : State) : State :=
  s.wrB GRD.STAT_PENDING_SET (s.rd GRD.PROFILE ≠ s.rd GRD.STAT_SET)

/-! ### Passive detection (R248) -/

/-- The passive checks are evaluated now. -/
def State.passiveNow (s : State) : Bool := s.modeIn [.follow, .form, .dawn] && s.grd.passiveAt ≤ s.now

def State.passiveShow (s : State) : State :=
  let p := s.passiveNow
  if s.rdB GRD.STAT_PASSIVE = p then s
  else (s.wrB GRD.STAT_PASSIVE p).postF 0x42A5 (if p then fOne else 0)

/-- PASSIVE_HOLD_EXPIRY (R248). -/
def execPassiveHoldExpiry (s : State) : Host.Outcome State Fault Refusal :=
  s.run (fun s =>
    if s.modeIn [.follow, .form, .dawn] then (s.to s.grd.passiveAt).passiveShow else s)

/-- An island declaration by the supervisor. -/
def State.island (s : State) (cause item value : Nat) : State :=
  let acts := s.grdActs
  let s := (s.gridTrip cause item 0xFF value acts).fltOccur fsIsland cause
  s.when acts (·.trigger .island)

/-- 180/π. -/
def degPerRad : Nat := 0x42652EE1

/-- The reporting SEQ node has fired. -/
def State.seqReport (s : State) (rocof jump : Nat) : State :=
  let s := s.passiveShow
  if !s.passiveNow then s
  else
    let deg := fMul jump degPerRad
    let s := if s.rdB GRD.CFG_ROCOF_EN && fGe (fAbs rocof) (s.rd GRD.ROCOF_THR) then s.island 1 0 rocof else s
    if s.rdB GRD.CFG_VS_EN && fGe (fAbs deg) (s.rd GRD.VS_THR) then s.island 2 0 deg else s

/-! ### Synchronisation check (R469) -/

/-- The mean of the squares of the window is at most the square of the limit. -/
def rmsWithin (l : List SyncDiff) (tol : Nat) : Bool :=
  let sum := l.foldl (fun a d => a + fScaled d.diff * fScaled d.diff) 0
  !l.isEmpty && l.all (fun d => fFinite d.diff) && decide (sum ≤ fScaled tol * fScaled tol * l.length)

/-- The RMS of the differences of the last 20 ms of each line is within SYNC_TOL now; a line without a landing has none. -/
def State.syncHolds (s : State) : Bool :=
  (List.range 3).all (fun j =>
    rmsWithin ((tgetD s.grd.sync j []).filter (fun d => s.now < d.at_ + 20 * msH)) (s.rd GRD.SYNC_TOL))

/-- AIN146 + i has landed with a value: line i of VAB, VBC, VCA. A line that had no landing for 20 ms breaks the run. -/
def State.syncLanding (s : State) (i v : Nat) : State :=
  let grid := fSub (s.sp (s.rd PRB.SRC 0 i)) (s.sp (s.rd PRB.SRC 0 ((i + 1) % 3)))
  let window (l : List SyncDiff) : List SyncDiff := l.filter (fun d => s.now < d.at_ + 20 * msH)
  let l (j : Nat) : List SyncDiff :=
    window (tgetD s.grd.sync j [] ++ if j = i then [(⟨s.now, fSub v grid⟩ : SyncDiff)] else [])
  let s := s.setGrd (fun g => { g with sync := (List.range 3).foldl (fun t j => tput t j (l j) []) g.sync })
  let at_ := if (l i).length ≤ 1 then s.now else s.grd.syncAt.getD s.now
  let run := if s.syncHolds then some at_ else none
  s.setGrd (fun g => { g with syncAt := run })

/-- The check no longer holds where landings have stayed away, or those that are left exceed the tolerance (R469). -/
def State.syncCheck (s : State) : State :=
  s.when (s.grd.syncAt.isSome && !s.syncHolds) (·.setGrd (fun g => { g with syncAt := none }))

/-! ### Modes -/

/-- A mode change: the passive window, the run of enter service, the return request, MUST_TRIP and the probe's island
declaration (R247, R248, R250). -/
def State.grdMode (s : State) (was : Mode) : State :=
  let hold := s.now + s.rd GRD.PASSIVE_HOLD * msH
  let s := s.setGrd (fun g => { g with passiveAt := hold })
  let s := s.when (s.mm.cur = .cease) (·.esRestart)
  let s := s.when (was = .cease) (fun s =>
    let s := ((s.wrB GRD.STAT_RETURN_REQ false).wrB GRD.STAT_MUST_TRIP false).setGrd (fun g => { g with acted := [] })
    { s with prb := { s.prb with island := false } })
  s.passiveShow

end Sys2Proof.Machine
end

