-- ==== Sys2Proof/Machine/Sdi.lean ====
section
/-!
DEFINITION. The sigma-delta inputs (R173 to R177): how the line is read as bits, the link checks, the sinc filters and
their results.
-/
namespace Sys2Proof.Machine

def sdOk (i : Nat) : Bool := i < 16

def State.sd (s : State) (i : Nat) : SdSt := tgetD s.sds i {}
def State.setSd (s : State) (i : Nat) (v : SdSt) : State := { s with sds := tput s.sds i v {} }

/-- N of the filter. -/
def State.sdN (s : State) (i : Nat) : Nat := 3 + s.rd SD.CFG_ORDER i

/-- STUCK or LOST holds at input i. -/
def State.sdBad (s : State) (i : Nat) : Bool := s.rdB SD.STAT_STUCK i || s.rdB SD.STAT_LOST i

/-- A filter of order n before its first bit: its first n − 1 results will be discarded (R175). -/
def SdSt.fresh (v : SdSt) (n : Nat) : SdSt :=
  { v with ints := List.replicate n 0, combs := List.replicate n 0, cnt := 0, skip := n - 1, synced := none }

/-- The filter restarts (R175): SETTLING is set until the first result from here on posts. -/
def State.sdRestart (s : State) (i : Nat) : State :=
  let v := s.sd i
  ((s.setSd i { v.fresh (s.sdN i) with old := (s.results (18 + i)).length + v.held.length }).wrB
    SD.STAT_SETTLING true i).wrB SD.STAT_RUN true i

/-- STUCK and LOST of input i are now these; a change is reported (R176). -/
def State.sdLink (s : State) (i : Nat) (stuck lost : Bool) : State :=
  if s.rdB SD.STAT_STUCK i = stuck && s.rdB SD.STAT_LOST i = lost then s
  else
    let s := ((s.wrB SD.STAT_STUCK stuck i).wrB SD.STAT_LOST lost i).wrB SD.STAT_LINK_EV true i
    let s := s.post 0x1B [(1, 1, i), (2, 1, if lost then 1 else if stuck then 2 else 0)]
    s.fltLevel fsSdiLink i ((stuck || lost) && s.rdB SD.CFG_EN i)

/-- Filter i starts as at an enable: the line is read afresh, and a check of the other coding no longer holds (DESIGN
CHOICE, log 135). -/
def State.sdStart (s : State) (i : Nat) : State :=
  let man := s.rd SD.CFG_CODING i = 2
  let v := s.sd i
  let s := (s.setSd i { held := v.held }).sdRestart i
  s.sdLink i (s.rdB SD.STAT_STUCK i && !man) (s.rdB SD.STAT_LOST i && man)

/-- EN of filter i changes. -/
def State.sdEnable (s : State) (i : Nat) (on : Bool) : State :=
  if on then s.sdStart i
  else
    ((s.setSd i { held := (s.sd i).held }).wrB SD.STAT_RUN false i).wrB SD.STAT_SETTLING false i

/-! ### The line (R173) -/

/-- One 2.5 ns sample x through the Manchester decoder at mbit kbit/s: the decoder after it, with a bit, a bit error, or
nothing. Times are in 2.5 ns · kbit/s, of which a nominal bit has 400,000. A transition between 3/4 and 5/4 of a bit after
the last mid-bit one is a mid-bit transition; an earlier one lies at the edge of a bit; where none has come by 5/4 it is
missing. Two transitions a bit apart give the phase (DESIGN CHOICE, log 135). -/
def SdSt.sample (v : SdSt) (mbit : Nat) (x : Bool) : SdSt × Option (Option Bool) :=
  let t := v.since + mbit
  if x = v.level then
    let v := { v with quiet := v.quiet + mbit }
    if 500000 < t then ({ v with since := t - 400000 }, some none) else ({ v with since := t }, none)
  else
    let gap := v.quiet + mbit
    let mid := if v.found then decide (300000 ≤ t) else decide (300000 ≤ gap) && decide (gap ≤ 500000)
    let v := { v with level := x, quiet := 0 }
    if mid then ({ v with since := 0, found := true }, some (some x))
    else ({ v with since := if v.found then t else 0 }, none)

/-- A stretch of line whose last level then stands for n further bits or samples. -/
def SdLine.hold (n : Nat) : SdLine → SdLine
  | .clocked l => .clocked (l ++ l.getLast?.toList.flatMap (fun e => List.replicate n (e.2, e.2)))
  | .sampled l => .sampled (l ++ l.getLast?.toList.flatMap (List.replicate n))

/-- The bits, and bit errors, that a stretch of line brings, each with the instant at which it is known; the last level
stands at `at_`, and an MCLK period lasts p/q h. A clock-and-data stream is sampled at the edge that CODING names. -/
def SdSt.read (v : SdSt) (coding mbit p q at_ : Nat) : SdLine → SdSt × List (Option Bool × Nat)
  | .clocked l =>
    if coding = 2 then (v, [])
    else
      (v, l.mapIdx (fun j e => (some (if coding = 0 then e.1 else e.2), at_ - (l.length - 1 - j) * p / q)))
  | .sampled l =>
    if coding ≠ 2 then (v, [])
    else
      let r := l.foldl (fun (a : SdSt × Nat × List (Option Bool × Nat)) x =>
        let w := a.1.sample mbit x
        (w.1, a.2.1 + 1, match w.2 with
          | some b => (b, at_ - (l.length - 1 - a.2.1) * 32) :: a.2.2
          | none => a.2.2)) (v, 0, [])
      (r.1, r.2.2.reverse)

/-! ### The link checks (R176) -/

/-- A bit or bit error through the checks, with STUCK and LOST before and after it. After STUCK the stream is judged in
blocks of 256 bits (DEDUCED, log 135). -/
def SdSt.check (v : SdSt) (man stuck lost : Bool) (b : Option Bool) : SdSt × Bool × Bool :=
  match man, b with
  | true, some _ =>
    let good := v.good + 1
    ({ v with errs := 0, good := good }, false, lost && decide (good < 64))
  | true, none =>
    let errs := v.errs + 1
    let bad := decide (8 ≤ errs) || decide (64 * 400000 ≤ v.quiet)
    ({ v with errs := errs, good := 0, found := v.found && !bad }, false, lost || bad)
  | false, none => (v, stuck, false)
  | false, some x =>
    let run := if x = v.last && v.run ≠ 0 then v.run + 1 else 1
    let w := { v with last := x, run := run }
    if stuck then
      let mixed := v.mixed || (v.blk ≠ 0 && x ≠ v.last)
      if v.blk + 1 = 256 then ({ w with blk := 0, mixed := false }, !mixed, false)
      else ({ w with blk := v.blk + 1, mixed := mixed }, true, false)
    else ({ w with blk := 0, mixed := false }, decide (256 ≤ run), false)

/-! ### Sinc filters (R174) -/

/-- One bit through the integrators. -/
def sdBit : List Int → Int → List Int
  | [], _ => []
  | a :: l, x => (a + x) :: sdBit l (a + x)

/-- The combs at a decimation instant: the output and what they remember. -/
def sdComb : List Int → Int → Int × List Int
  | [], y => (y, [])
  | p :: l, y => let r := sdComb l (y - p); (r.1, y :: r.2)

/-- The raw result of R174 at a decimation instant of a filter of order n, and the combs after it. -/
def sdRaw (n osr : Nat) (combs ints : List Int) : Int × List Int :=
  let r := sdComb combs (ints.getLastD 0)
  (clampI (-8388608) 8388607 (rneDiv (r.1 * 8388608) (osr ^ n)), r.2)

/-- A bit through the filter, with the result where it ends a decimation interval, none where that is discarded. -/
def SdSt.bit (v : SdSt) (n osr : Nat) (b : Bool) : SdSt × Option (Option Int) :=
  let ints := sdBit v.ints (if b then 1 else -1)
  if v.cnt + 1 < osr then ({ v with ints := ints, cnt := v.cnt + 1 }, none)
  else
    let r := sdRaw n osr v.combs ints
    ({ v with ints := ints, combs := r.2, cnt := 0, skip := v.skip - 1 }, some (if v.skip = 0 then some r.1 else none))

/-- What a stretch of line brings beside the filter's own state: bit errors, changes of STUCK and LOST, restarts, and
results with the instant of their last bit, or decimation instants whose result is discarded. -/
inductive SdEv where
  | error
  | discarded
  | link (stuck lost : Bool)
  | restart
  | result (raw : Int) (at_ : Nat)
  deriving DecidableEq, Repr

/-- An input while it takes a stretch of line: STUCK and LOST, what has come, newest first, and the free values used. -/
structure SdRun where
  v : SdSt
  stuck : Bool
  lost : Bool
  evs : List SdEv := []
  used : Nat := 0

/-- One bit or bit error: the checks judge it, a regained lock restarts the filter (R175), and the filter takes it; the
value of a bit in error is a free value, from number `free` on. -/
def SdRun.step (r : SdRun) (man : Bool) (n osr free : Nat) (b : Option Bool × Nat) : SdRun :=
  let c := r.v.check man r.stuck r.lost b.1
  let evs := if b.1.isNone then SdEv.error :: r.evs else r.evs
  let evs := if c.2.1 = r.stuck && c.2.2 = r.lost then evs else .link c.2.1 c.2.2 :: evs
  if r.lost && !c.2.2 then { r with v := c.1.fresh n, stuck := c.2.1, lost := c.2.2, evs := .restart :: evs }
  else
    let x := b.1.getD (Config.freeValue (free + r.used) % 2 = 1)
    let f := c.1.bit n osr x
    { v := f.1, stuck := c.2.1, lost := c.2.2, used := r.used + b2n b.1.isNone
      evs := match f.2 with
        | some (some y) => .result y b.2 :: evs
        | some none => .discarded :: evs
        | none => evs }

/-! ### Results -/

/-- The DT tag of a result whose last bit came at t (R174), good to 2 ns, or to one bit period with Manchester coding. -/
def State.sdTag (s : State) (i t : Nat) : Nat :=
  let k := s.sdN i * (s.rd SD.CFG_OSR i - 1)
  let man := s.rd SD.CFG_CODING i = 2
  let back := if man then k * 12800000 / (2 * s.rd SD.CFG_MBIT i)
    else k * 2560 * s.rd CLK.OUT_DIV 0 (i / 2) / (2 * s.auxMult)
  ((s.dtAt (t - back) : Int) + s.tagErr (if man then 1000000 / s.rd SD.CFG_MBIT i else 2)).toNat

/-- A decimation instant of filter i: the results that its output stage holds, the new one behind them, leave for the queue
while it has credits; those without one stay held, in their order, and nothing is lost (R25, Table 1.6). A result counts as
stalled once, when it is first held. -/
def State.sdSend (s : State) (i : Nat) (new : List AdcRes) : State :=
  let l := (s.sd i).held ++ new
  let k := Nat.min l.length (16 - (s.results (18 + i)).length)
  let s := s.setSd i { s.sd i with held := l.drop k }
  let s := s.setResults (18 + i) (s.results (18 + i) ++ l.take k)
  let s := s.queueHolds (18 + i) (s.results (18 + i)).length
  s.each (new.drop (new.length - (l.length - k))) (fun _ s => s.stalled (18 + i))

/-- A result of filter i whose last bit came at t: it counts in a calibration step, goes to the queue, and opens the
cadences of kind SDI (Table 8.2). While STUCK or LOST holds it is NaN with raw code 0 (R176). -/
def State.sdResult (s : State) (i : Nat) (raw : Int) (tag : Nat) : State :=
  let s := s.useFree.calTake (160 + i) raw
  let bad := s.sdBad i
  let v : AdcRes :=
    { chan := 160 + i, value := if bad then fNaN else s.chValue (160 + i) raw
      raw := if bad then 0 else tcode raw 32, tag := tag }
  (s.sdSend i [v]).fireCads (fun src a => src = 5 && bits a 0 4 = i)

/-- One of the things that a stretch of line brings; the answer collects the results with their tags, for metering. -/
def State.sdEvent (s : State) (i : Nat) (e : SdEv) : State × List (Int × Nat) :=
  match e with
  | .error => (s.count SD.BITERR_CNT i, [])
  | .discarded => (s.sdSend i [], [])
  | .link stuck lost => (s.sdLink i stuck lost, [])
  | .restart =>
    let v := s.sd i
    ((s.setSd i { v with old := (s.results (18 + i)).length + v.held.length }).wrB SD.STAT_SETTLING true i, [])
  | .result raw t => let tag := s.sdTag i t; (s.sdResult i raw tag, [(raw, tag)])

/-- Input i takes a stretch of its line, the last level at `at_`: bits, link checks, filter and results, in their order
(R173 to R176). Answers the raw results with their tags. -/
def State.sdTake (s : State) (i : Nat) (line : SdLine) (at_ : Nat) : State × List (Int × Nat) :=
  let s := s.to at_
  if !s.rdB SD.STAT_RUN i || !s.ready 32 then (s, [])
  else
    let coding := s.rd SD.CFG_CODING i
    let man := decide (coding = 2)
    let l := (s.sd i).read coding (s.rd SD.CFG_MBIT i) (2560 * s.rd CLK.OUT_DIV 0 (i / 2)) s.auxMult s.now line
    let r := l.2.foldl (fun r b => r.step man (s.sdN i) (s.rd SD.CFG_OSR i) s.free b)
      { v := l.1, stuck := s.rdB SD.STAT_STUCK i, lost := s.rdB SD.STAT_LOST i : SdRun }
    let s : State := { s.setSd i r.v with free := s.free + r.used }
    r.evs.reverse.foldl (fun a e => let b := a.1.sdEvent i e; (b.1, a.2 ++ b.2)) (s, [])

/-- A result of filter i lands: SETTLING ends with the first one from after the restart (R175). -/
def State.sdLanded (s : State) (i : Nat) : State :=
  let v := s.sd i
  if v.old = 0 then s.wrB SD.STAT_SETTLING false i else s.setSd i { v with old := v.old - 1 }

/-- The clock-and-data filters restart together. -/
def State.sdmSync (s : State) : State :=
  s.each (List.range 16) (fun i s =>
    if s.rdB SD.CFG_EN i && s.rd SD.CFG_CODING i ≠ 2 then
      let s := s.sdRestart i
      s.setSd i { s.sd i with synced := some s.now }
    else s)

/-- SDM_SYNC (R175): a write of 1 to SDM.CTRL.SYNC. -/
def execSdmSync (s : State) : Host.Outcome State Fault Refusal :=
  s.run (fun s => s.bridgeWrite 79 SDM.CTRL_SYNC 0 0 1 (·.sdmSync))

def State.sdmCntClr (s : State) : State := s.each (List.range 16) (fun i s => s.wr SD.BITERR_CNT 0 i)

/-- SDM_CNT_CLR (Table 7.7). -/
def execSdmCntClr (s : State) : Host.Outcome State Fault Refusal :=
  s.run (fun s => s.bridgeWrite 79 SDM.CTRL_CNT_CLR 0 0 1 (·.sdmCntClr))

end Sys2Proof.Machine
end

