-- ==== Sys2Proof/Machine/Landing.lean ====
section
/-!
DEFINITION. A sensing result lands (R24, R166, R167): it leaves its queue, its four points are written in one cycle, and
the units that watch its channel take it.
-/
namespace Sys2Proof.Machine

/-- The result r of its channel is posted with the next sequence number, and the supervisors take it. -/
def State.land (s : State) (r : AdcRes) : State :=
  let base := 4 * r.chan
  let s := s.postResult base r.value r.raw r.tag ((s.sp (base + 3) + 1) % 2 ^ 32)
  let s := s.when (146 ≤ r.chan && r.chan ≤ 148) (·.syncLanding (r.chan - 146) r.value)
  let s := s.when (149 ≤ r.chan && r.chan ≤ 151) (·.phaseResidual (r.chan - 149) r.value)
  s.dcsLanding r.chan r.value r.tag

/-- SENSOR_RESULT_POST (R166, R167): the oldest result of queue i of Table 1.6, 0 to 17 of the cores and 18 to 33 of the
sigma-delta filters, lands and its credit returns. -/
def execSensorResultPost (i : Nat) (s : State) : Host.Outcome State Fault Refusal :=
  s.runIf (i < 34) (fun s =>
    match s.results i with
    | [] => s
    | r :: rest =>
      let s := s.setResults i rest
      let s := if i < 18 then s.coreRelease i else s.sdLanded (i - 18)
      s.land r)

end Sys2Proof.Machine
end

