-- ==== Sys2Proof/Machine/Cloche.lean ====
section
/-!
DEFINITION. Cloche, the keep-alive die (spec 18): retention updates, the commit guard and the FRAM commits, the
stages of the store, the log and the RTC.
-/
namespace Sys2Proof.Machine

def State.setClo (s : State) (f : CloSt → CloSt) : State := { s with clo := f s.clo }

/-! ### RTC (R412) -/

/-- RTC time in ns: ±5 ppm with a crystal and the temperature compensation of stage 0 (Table 18.3), ±3 % with the internal
RC, and with a crystal alone (DEDUCED, log 155); the error within those is free. -/
def State.rtcNow (s : State) : Nat :=
  let d := (s.now - s.clo.rtcAt) * 5 / 64
  let e := if s.rdB CLO.STAT_XTAL && s.rd CLO.STAT_STAGE = 0 then d * 5 / 1000000 + 1 else d * 3 / 100 + 1
  ((s.clo.rtcNs : Int) + d + s.freeErr e).toNat % 2 ^ 64

/-- The RTC goes on from the time it has reached: its source or its compensation is about to change. -/
def State.rtcHold (s : State) : State :=
  let t := s.rtcNow
  s.useFree.setClo (fun c => { c with rtcNs := t, rtcAt := s.now })

/-- The RTC takes a time. -/
def State.rtcSet (s : State) (ns : Nat) : State :=
  (s.setClo (fun c => { c with rtcNs := ns, rtcAt := s.now })).wrB CLO.STAT_RTC_VALID true

/-- XTAL32K_OSCILLATION_CHANGE (R412). -/
def execXtal32kOscillationChange (on : Bool) (s : State) : Host.Outcome State Fault Refusal :=
  s.run (fun s => if s.rdB CLO.STAT_XTAL = on then s else s.rtcHold.wrB CLO.STAT_XTAL on)

/-! ### Log (Table 18.7) -/

/-- A log entry, the newest first. -/
def State.cloLogPut (s : State) (kind item : Nat) : State :=
  let sec := s.rtcNow / 1000000000 % 2 ^ 32
  let s := s.each [5, 4, 3, 2, 1] (fun i s =>
    s.each [CLO.LOG_SEC, CLO.LOG_KIND, CLO.LOG_ITEM, CLO.LOG_MV] (fun f s => s.wr f (s.rd f 0 (i - 1)) 0 i))
  (((s.useFree.wr CLO.LOG_SEC sec 0 0).wr CLO.LOG_KIND kind 0 0).wr CLO.LOG_ITEM item 0 0).wr CLO.LOG_MV
    (s.rd CLO.VOLT_VSTORE) 0 0

/-- A log entry; none is made outside stage 0 (Table 18.3). -/
def State.cloLog (s : State) (kind item : Nat) : State :=
  if s.rd CLO.STAT_STAGE ≠ 0 then s else s.cloLogPut kind item

def State.logClr (s : State) : State :=
  s.each (List.range 6) (fun i s =>
    s.each [CLO.LOG_SEC, CLO.LOG_KIND, CLO.LOG_ITEM, CLO.LOG_MV] (fun f s => s.wr f 0 0 i))

/-- LOG_CLR (R420). -/
def execLogClr (s : State) : Host.Outcome State Fault Refusal :=
  s.run (fun s => s.hostWrite (·.logClr))

def State.cloCntClr (s : State) : State := (s.wr CLO.COMMIT_CNT 0).wr CLO.DEFER_CNT 0

/-- CLO_CNT_CLR (R420). -/
def execCloCntClr (s : State) : Host.Outcome State Fault Refusal :=
  s.run (fun s => s.hostWrite (·.cloCntClr))

/-! ### Commits (R320, R416 to R418) -/

/-- The guard: what is available and what is needed, in units of 10⁻⁸ µJ, and whether a commit may start. -/
def State.guardOf (s : State) : Nat × Nat × Bool :=
  let v := s.rd CLO.VOLT_VSTORE
  let est := v - 20
  let av := 50 * s.rd CLO.STORE * (est * est - 1900 * 1900)
  let ic := s.rd CLO.NVM_I_FRAM + 4
  let tc := s.rd CLO.NVM_T_PU + 106
  let need := (100 + s.rd CLO.NVM_MARGIN) * v * ic * tc
  (av, need, decide (need ≤ av) && decide (1900 * 10000 + ic * s.rd CLO.ESR ≤ est * 10000))

/-- a is ahead of b in serial comparison modulo 2³². -/
def seqAhead (a b : Nat) : Bool := let d := (a + 2 ^ 32 - b % 2 ^ 32) % 2 ^ 32; decide (0 < d) && decide (d < 2 ^ 31)

/-- The bytes of a slot before its CRC (Table 13.6). -/
def FramSlot.body (f : FramSlot) : List Nat :=
  [0x4D, 0x54, 0x52, 0x43] ++ leBytes f.seq 4 ++ leBytes f.dt 8 ++
    (List.range 32).flatMap (fun i => leBytes (tgetD f.acc i 0) 12) ++
    leBytes f.lost.start 8 ++ leBytes f.lost.ns 8 ++ leBytes f.lost.unc 8 ++ leBytes f.lost.case_ 8 ++
    (List.range 4).flatMap (fun i => leBytes (tgetD f.s0 i 0) 4) ++ leBytes f.rated 4 ++ List.replicate 56 0

/-- The 512 B of a slot. -/
def FramSlot.bytes (f : FramSlot) : List Nat := f.body ++ leBytes (crc32 f.body) 4

/-- What a slot holds, where its MAGIC and CRC are correct (R320). -/
def slotOf (l : List Nat) : Option FramSlot :=
  if l.length ≠ 512 || l.take 4 ≠ [0x4D, 0x54, 0x52, 0x43] || leAt l 508 4 ≠ crc32 (l.take 508) then none
  else some
    { seq := leAt l 4 4
      dt := leAt l 8 8
      acc := (List.range 32).foldl (fun t i => tput t i (leAt l (16 + 12 * i) 12) 0) []
      lost := { start := leAt l 400 8, ns := leAt l 408 8, unc := leAt l 416 8, case_ := leAt l 424 1 }
      s0 := (List.range 4).foldl (fun t i => tput t i (leAt l (432 + 4 * i) 4) 0) []
      rated := leAt l 448 4 }

/-- The slot that the next commit writes: B where A holds the newer SEQ. -/
def CloSt.nextB (c : CloSt) : Bool :=
  match slotOf c.slotA, slotOf c.slotB with
  | none, _ => false
  | some _, none => true
  | some a, some b => seqAhead a.seq b.seq

/-- The newest valid slot. -/
def CloSt.newest (c : CloSt) : Option FramSlot :=
  match slotOf c.slotA, slotOf c.slotB with
  | none, b => b
  | some a, none => some a
  | some a, some b => if seqAhead b.seq a.seq then some b else some a

/-- METER_COMMIT, while the main domain is powered and has a metering unit (R325). A deferred one names the slot and
SEQ it would have written (DEDUCED, log 32). -/
def State.commitRec (s : State) (deferred : Bool) (b : Bool) (seq : Nat) : State :=
  s.when (s.mainOn && s.has 11) (·.post 0x73 [(1, 1, b2n deferred), (2, 1, b2n b), (8, 4, seq)])

/-- The commands of rings that wait for the next commit end. -/
def State.commitRings (s : State) (result : Nat) : State :=
  let l := s.clo.rings
  let s := s.setClo (fun c => { c with rings := [] })
  s.each l (fun q s => s.complete q stOk result)

/-- What a commit that starts now copies (R320, R416). -/
def CloSt.copy (c : CloSt) (seq : Nat) : FramSlot :=
  { seq := seq, dt := c.dt, acc := c.acc, lost := c.lost, s0 := c.s0, rated := c.rated }

/-- The guard is applied to the commit that is due (R417). One that may start waits for a firmware access in progress
while the main domain runs, at most 1 ms (R416): how long is free (log 156). -/
def State.tryCommit (s : State) : State :=
  let g := s.guardOf
  let b := s.clo.nextB
  let seq := (s.clo.seq + 1) % 2 ^ 32
  let s := (s.wr CLO.E_AVAIL (Nat.min max32 (g.1 / 100000000))).wr CLO.E_NEED (Nat.min max32 (g.2.1 / 100000000))
  let s := s.setClo (fun c => { c with samples := 0 })
  if !g.2.2 then
    let s := ((s.wrB CLO.STAT_DUE true).wrB CLO.STAT_DEFERRED true).count CLO.DEFER_CNT
    let s := ((s.fltOccur fsFram 2).cloLog 3 (b2n b)).commitRec true b seq
    s.commitRings 0
  else
    let wait := if s.mainOn then s.freeVal % (msH + 1) else 0
    let s := s.when s.mainOn (·.useFree)
    ((s.setClo (fun c => { c with
      stage_ := some (c.copy seq, b, s.now + wait), again := false, ringsNow := c.rings, rings := [] })).wrB
      CLO.STAT_BUSY true).wrB CLO.STAT_DEFERRED false

/-- A commit falls due: it replaces one that was deferred, and waits for one in progress. In stages 2 and 3 none
starts (R418), and none of lost contents (DESIGN CHOICE, log 154). -/
def State.commitDue (s : State) : State :=
  if s.rdB CLO.STAT_LOST || !s.clo.live then s.commitRings 0 else
  let s := s.wrB CLO.STAT_DUE true
  if s.rdB CLO.STAT_BUSY then s.setClo (fun c => { c with again := true })
  else if s.rd CLO.STAT_STAGE < 2 then s.tryCommit
  else s.commitRings 0

/-- COMMIT_DUE (R320): the periodic commit at the next DT multiple of COMMIT.MIN minutes, or the power-fail commit
once PF_DONE is set. -/
def execCommitDue (pf : Bool) (s : State) : Host.Outcome State Fault Refusal :=
  s.run (fun s =>
    if pf then (if s.rdB CLO.STAT_PF_DONE && !s.mainOn then s.commitDue else s)
    else if !s.dtOn || !s.has 11 || !s.ready 43 then s
    else
      let m := s.rd MTR.COMMIT * 60000000000
      (s.toDt ((s.dtNs / m + 1) * m)).commitDue)

/-- The commit in progress ends with these bytes in its slot. -/
def CloSt.slotPut (c : CloSt) (v : List Nat) : CloSt :=
  match c.stage_ with
  | some (_, true, _) => { c with slotB := v, stage_ := none }
  | some (_, false, _) => { c with slotA := v, stage_ := none }
  | none => c

/-- The guard is applied to what is still due after a commit has ended (R418): at once to one that fell due meanwhile, and
once in stage 2, where that evaluation is owed. -/
def State.commitNext (s : State) (again : Bool) : State :=
  let g := s.rd CLO.STAT_STAGE
  let owed := g = 2 && s.clo.final && s.rdB CLO.STAT_DUE
  let s := s.setClo (fun c => { c with final := false })
  if (again && g < 2) || owed then s.tryCommit else s.when (2 ≤ g) (·.commitRings 0)

/-- FRAM_COMMIT_DONE (R416): the commit in progress has been written and read back; `good` is the outcome of the
check. COMMIT_DT is the time of the commit where DT runs, and else that of its copy (DESIGN CHOICE, log 141). -/
def execFramCommitDone (good : Bool) (s : State) : Host.Outcome State Fault Refusal :=
  s.run (fun s =>
    match s.clo.stage_ with
    | none => s
    | some (f, b, t) =>
      let s := (s.to (t + (10 * s.rd CLO.NVM_T_PU + 1060) * usH)).wrB CLO.STAT_BUSY false
      let again := s.clo.again
      let s := if good then
          let dt := if s.dtOn then s.dtNs else f.dt
          let s := s.setClo (fun c => { c.slotPut f.bytes with seq := f.seq, commitDt := dt })
          let s := ((s.count CLO.COMMIT_CNT).wrB CLO.STAT_DUE again).cloLog 2 (b2n b)
          let l := s.clo.ringsNow
          let s := (s.commitRec false b f.seq).setClo (fun c => { c with ringsNow := [] })
          s.each l (fun q s => s.complete q stOk f.seq)
        else
          (s.setClo (fun c => { c.slotPut [] with rings := c.ringsNow ++ c.rings, ringsNow := [] })).fltOccur fsFram 1
      s.commitNext again)

/-! ### Retention updates (R319, R409, R411) -/

/-- The copy of a commit that still waits for its start is the one of then (R320). -/
def CloSt.restage (c : CloSt) (now : Nat) : CloSt :=
  match c.stage_ with
  | some (f, b, t) => if now < t then { c with stage_ := some (c.copy f.seq, b, t) } else c
  | none => c

/-- RETENTION_UPDATE_APPLY (R411): the oldest update has been received whole and is applied; that of a power fail
sets PF_DONE. A die that does not run applies none. -/
def execRetentionUpdateApply (s : State) : Host.Outcome State Fault Refusal :=
  s.run (fun s =>
    match s.clo.queue with
    | [] => s
    | u :: rest =>
      if !s.clo.live then s else
      let s := s.setClo (fun c =>
        { c with
          queue := rest
          acc := u.acc.foldl (fun a p => tput a p.1 ((tgetD a p.1 0 + p.2) % 2 ^ 96) 0) c.acc
          s0 := u.s0.foldl (fun a p => tput a p.1 ((tgetD a p.1 0 + p.2) % 2 ^ 32) 0) c.s0
          dt := u.dt, rated := u.rated.getD c.rated, lost := u.lost })
      let s := s.setClo (·.restage s.now)
      if u.pf then (s.wrB CLO.STAT_PF_DONE true).cloLog 4 0 else s)

/-- RAILS_LOST_EARLY (R409): the rails fail before PF_DONE is set: what has not been applied whole is discarded. -/
def execRailsLostEarly (s : State) : Host.Outcome State Fault Refusal :=
  s.run (fun s => if s.rdB CLO.STAT_PF_DONE then s else s.setClo (fun c => { c with queue := [] }))

/-! ### The store (R413 to R415) -/

/-- The stage a sample of v mV leads to from stage g: entered below a threshold, left 100 mV above it. -/
def stageOf (g v : Nat) : Nat :=
  let down := if v < 1900 then 3 else if v < 2100 then 2 else if v < 2400 then 1 else 0
  let up := if v < 2000 then 3 else if v < 2200 then 2 else if v < 2500 then 1 else 0
  if g < down then down else Nat.min g up

/-- Every field of the CLO block that software configures (R410). -/
def cloCfg : List Fld :=
  [CLO.STORE, CLO.ESR, CLO.NVM_ADDR3, CLO.NVM_I_FRAM, CLO.NVM_T_PU, CLO.NVM_MARGIN, CLO.CHG_EN, CLO.CHG_VMAX,
   CLO.CHG_I_MAIN]

/-- The retained contents are lost (R414), and with them what they held of a commit that is due (log 154); a commit in
progress writes from its staging register (R416) and goes on. -/
def State.cloLost (s : State) : State :=
  let c := s.clo
  let c := { c with acc := [], s0 := [], dt := 0, rated := ({} : CloSt).rated, lost := {}, queue := [], again := false }
  let s := { s with clo := { c with rtcNs := 0, rtcAt := s.now } }
  let s := (s.wrB CLO.STAT_DUE false).wrB CLO.STAT_DEFERRED false
  let s := (((s.wrB CLO.STAT_LOST true).wrB CLO.STAT_RTC_VALID false).wrB CLO.STAT_PF_DONE false).logClr
  s.commitRings 0

/-- What the die shows of commits. -/
def cloStat : List Fld :=
  [CLO.STAT_BUSY, CLO.STAT_DUE, CLO.STAT_DEFERRED, CLO.E_AVAIL, CLO.E_NEED, CLO.COMMIT_CNT, CLO.DEFER_CNT]

/-- The commit in progress is cut off: the commit port stops, and its slot is partly written, so not valid (R320, R413). -/
def State.commitCut (s : State) : State :=
  s.when s.clo.stage_.isSome (fun s =>
    ((s.setClo (fun c => { c.slotPut [] with again := false, rings := c.ringsNow ++ c.rings, ringsNow := [] })).wrB
      CLO.STAT_BUSY false).commitRings 0)

/-- VSTORE is below 1.8 V and the die stops, with everything it holds (Table 18.3). -/
def State.cloStop (s : State) : State :=
  let s := s.commitCut.setClo (fun c => { c with again := false, final := false, samples := 0, live := false })
  (s.each (cloCfg ++ cloStat) (fun f s => s.wr f (f.reset 0 0))).cloLost

/-- The main charger charges the store: from VDD_33 within its ±5 %, up to VMAX (R415); stage 3 keeps it off
(Table 18.3; log 154). -/
def State.charging (s : State) : Bool :=
  let v33 := s.rd PWR.VMON 0 5
  s.rdB CLO.CHG_EN && decide (3135 ≤ v33) && decide (v33 ≤ 3465) && decide (s.clo.vStore < 10 * s.rd CLO.CHG_VMAX) &&
    !(s.clo.live && s.rd CLO.STAT_STAGE = 3)

/-- The stage changes (R413, Table 16.1): with stage 0 goes the compensation of the RTC, and in stage 3 the commit port. A
commit that is due has its final evaluation on entry into stage 2, or once the one in progress there has ended (R418). -/
def State.stageGo (s : State) (g : Nat) : State :=
  let was := s.rd CLO.STAT_STAGE
  if was = g then s
  else
    let s := s.when (was = 0 || g = 0) (·.rtcHold)
    let s := if was = 0 then (s.cloLog 1 g).wr CLO.STAT_STAGE g else (s.wr CLO.STAT_STAGE g).cloLog 1 g
    let s := s.wr CLO.STAT_MIN_STAGE (Nat.max g (s.rd CLO.STAT_MIN_STAGE))
    let s := s.when s.mainOn (·.fltOccur fsCloche g)
    let s := s.when (g = 3) (·.commitCut)
    let final := decide (was < 2) && g = 2 && s.rdB CLO.STAT_DUE
    let s := s.setClo (fun c => { c with final := final && s.rdB CLO.STAT_BUSY })
    s.when (final && !s.rdB CLO.STAT_BUSY) (·.tryCommit)

/-- STORE_SAMPLE (R413, R414, R418): the 250 ms sample of VSTORE, with VHARV, both in mV; `parity` that a parity
check of the retained SRAM has failed. A die that does not run takes no sample; the balls have these voltages. -/
def execStoreSample (v h : Nat) (parity : Bool) (at_ : Nat) (s : State) : Host.Outcome State Fault Refusal :=
  s.run (fun s =>
    let s := (s.to at_).setClo (fun c => { c with vStore := v, vHarv := h })
    if !s.clo.live then s
    else
      let s := (s.wr CLO.VOLT_VSTORE (Nat.min v 65535)).wr CLO.VOLT_VHARV (Nat.min h 65535)
      if v < 1800 then
        s.cloStop.stageGo 3
      else
        let s := s.when parity (·.cloLost)
        let s := s.stageGo (stageOf (s.rd CLO.STAT_STAGE) v)
        let n := s.clo.samples + 1
        let s := s.setClo (fun c => { c with samples := n })
        if s.rdB CLO.STAT_DUE && !s.rdB CLO.STAT_BUSY && s.rd CLO.STAT_STAGE < 2 && 4 ≤ n then s.tryCommit else s)

/-- KEEPALIVE_DIE_START (R415): VSTORE has risen to 1.9 V and the keep-alive die starts: charged by the cold-start
oscillator from a VHARV of 0.33 V or more, or by the main charger. -/
def execKeepaliveDieStart (at_ : Nat) (s : State) : Host.Outcome State Fault Refusal :=
  s.run (fun s =>
    let s := s.to at_
    let cold := decide (330 ≤ s.clo.vHarv)
    if s.clo.live || !(cold || s.charging) then s
    else
      let s := s.setClo (fun c => { c with live := true, vStore := 1900 })
      let s := (s.wr CLO.STAT_STAGE 2).wr CLO.VOLT_VSTORE 1900
      s.when cold (fun s => (s.wrB CLO.STAT_COLD true).cloLogPut 5 2))

/-- READY.CLO sets at WAKE: FS200 is raised with the lowest stage since the last WAKE (R414). -/
def State.cloWake (s : State) : State :=
  let s := s.fltOccur fsCloche (s.rd CLO.STAT_MIN_STAGE)
  (s.wr CLO.STAT_MIN_STAGE (s.rd CLO.STAT_STAGE)).wrB CLO.STAT_COLD false

end Sys2Proof.Machine
end

