-- ==== Sys2Proof/Machine/Saf.lean ====
section
/-!
DEFINITION. The safety island (spec 17): demands and their latch, safe inputs with their test pulses, safe outputs and
contactors, safety resets, the inhibit rails and the configuration. Island time runs at the nominal CK_SAFE.
-/
namespace Sys2Proof.Machine

/-! ### Status codes (Table 17.1) -/

def sInput : Nat := 0x01
def sFrameDemand : Nat := 0x02
def sFrameTimeout : Nat := 0x03
def sFrameCompare : Nat := 0x04
def sPinh : Nat := 0x05
def sTestPulse : Nat := 0x10
def sCrossShort : Nat := 0x11
def sDiscrepancy : Nat := 0x12
def sReadback : Nat := 0x13
def sContactor : Nat := 0x14
def sInhibitPath : Nat := 0x15
def sLockstep : Nat := 0x16
def sSupply : Nat := 0x17
def sConfig : Nat := 0x18

def State.setSaf (s : State) (f : SafSt → SafSt) : State := { s with saf := f s.saf }

/-- The island is present and out of its own reset. -/
def State.safUp (s : State) : Bool := s.has 16 && s.saf.up

/-- A field of the active configuration (R401). -/
def State.sa (s : State) (f : Fld) (j : Nat := 0) : Nat := tgetD s.saf.act (f.key 0 j) (f.reset 0 j)
def State.saB (s : State) (f : Fld) (j : Nat := 0) : Bool := s.sa f j != 0

/-! ### Inhibit and demand (R380, R381, R391) -/

/-- The pulse inhibit comes into force, or ends. -/
def State.setInhibit (s : State) (b : Bool) : State :=
  let s := s.wrB SAF.STAT_INHIBIT b
  if b then s.applyHolds else s.each (List.range 96) (fun n s => s.aliveAgain n)

/-- A demand of the island is latched. -/
def State.demand (s : State) : Bool := s.rdB SAF.STAT_DEMAND

/-- The demand level at the mode manager (R37, R381, R382). -/
def State.demandLevel (s : State) : Bool := s.pinhLow || (s.has 16 && (!s.saf.up || s.demand))

/-- A code of Table 17.1 is latched: `item` the pair, network or output, `ch` the channel it concerns. -/
def State.safLatch (s : State) (code item : Nat) (ch : Nat := 0) : State :=
  if !s.safUp then s
  else
    let first := !s.demand
    let s := s.setSaf (fun v => { v with
      fresh := v.fresh ++ [code]
      demAt := if first then s.now else v.demAt })
    let s := s.when first (fun s => ((s.wrB SAF.STAT_DEMAND true).wr SAF.STAT_CODE code).fltSet fsSafety code)
    let s := s.when (16 ≤ code) (·.wrB SAF.STAT_FAULT true)
    let s := if code < 16 then s.safPost 0x78 [(1, 1, code), (2, 1, item), (8, 8, s.dtNs)]
      else s.safPost 0x79 [(1, 1, code), (2, 1, item), (3, 1, ch), (8, 8, s.dtNs)]
    if s.rdB SAF.STAT_INHIBIT then s else s.setInhibit true

/-- An island fault that persists until its cause goes. -/
def State.safBad (s : State) (code item : Nat) (ch : Nat) (b : Bool) : State :=
  let l := s.saf.bad
  if !b then (if l.contains (code, item) then s.setSaf (fun v => { v with bad := l.filter (· != (code, item)) }) else s)
  else if l.contains (code, item) then s
  else (s.setSaf (fun v => { v with bad := l ++ [(code, item)] })).safLatch code item ch

/-! ### PINH_N (R37, R393, R456) -/

/-- PINH: PINH_N falls. -/
def execPinh (at_ : Nat) (s : State) : Host.Outcome State Fault Refusal :=
  s.run (fun s =>
    let s := s.to at_
    if s.pinhLow then s
    else
      let s := ({ s with pinhLow := true }).applyHolds
      if s.safUp then (s.wrB SAF.STAT_PINH true).safLatch sPinh 0 else s)

/-- PINH_N_RISE: PINH_N is high again; the hardwired inhibit of an AX9600-S ends, and its 10 ms begin (R37, R456). -/
def execPinhNRise (at_ : Nat) (s : State) : Host.Outcome State Fault Refusal :=
  s.run (fun s =>
    let s := s.to at_
    if !s.pinhLow then s
    else
      let s := ({ s with pinhLow := false }).setSaf (fun v => { v with pinhAt := s.now })
      let s := s.when s.safUp (·.wrB SAF.STAT_PINH false)
      if s.inhibited then s else s.each (List.range 96) (fun n s => s.aliveAgain n))

/-! ### Safe inputs (R383, R384) -/

def State.sin (s : State) (c : Nat) : SinSt := tgetD s.saf.chans c {}
def State.setSin (s : State) (c : Nat) (v : SinSt) : State :=
  s.setSaf (fun x => { x with chans := tput x.chans c v {} })
def State.sinPair (s : State) (i : Nat) : SinPairSt := tgetD s.saf.pairs i {}
def State.setSinPair (s : State) (i : Nat) (v : SinPairSt) : State :=
  s.setSaf (fun x => { x with pairs := tput x.pairs i v {} })

/-- The test-pulse output of channel ch (0 A, 1 B) of pair i. -/
def State.tpOf (s : State) (i ch : Nat) : Option Nat :=
  if ch = 0 then (if s.saB SAF.IN_TPA_EN i then some (s.sa SAF.IN_TPA i) else none)
  else if s.saB SAF.IN_TPB_EN i then some (s.sa SAF.IN_TPB i) else none

/-- At instant t the pulse of output m, with the settling of pair i, makes a test window. -/
def State.inTest (s : State) (i m t : Nat) : Bool :=
  match tgetD s.saf.tpAt m none with
  | some f => decide (f ≤ t) && decide (t < f + (300 + 10 * s.sa SAF.IN_SETTLE i) * usH)
  | none => false

/-- Pair i reads on: both channels, each as it reads outside its own test window. -/
def State.pairOn (s : State) (i : Nat) : Bool := (s.sin (2 * i)).held && (s.sin (2 * i + 1)).held

/-- A check of channel ch of pair i fails, or passes again; `k` tells apart the other outputs that a cross-short may
concern. -/
def State.sinCheck (s : State) (i ch code : Nat) (fails : Bool) (k : Nat := 0) : State :=
  let v := s.sinPair i
  let c := (code, ch + 2 * k)
  if fails then
    let s := if v.bad.contains c then s else s.setSinPair i { v with bad := v.bad ++ [c] }
    (s.wrB SAF.INSTAT_FAULT true 0 i).safLatch code i ch
  else if v.bad.contains c then
    let l := v.bad.filter (· != c)
    (s.setSinPair i { v with bad := l }).wrB SAF.INSTAT_FAULT (!l.isEmpty) 0 i
  else s

/-- A sample of channel ch of pair i outside its own window: the cross-short check (Table 17.2). `other` is the other
output whose window holds the sample. A window that ends without a cross-short passes the check for its output. -/
def State.crossSample (s : State) (i ch : Nat) (other : Option Nat) (x : Bool) : State :=
  let c := 2 * i + ch
  let v := s.sin c
  let ended := v.other.filter (fun _ => v.other ≠ other)
  let s := match ended with
    | some k => s.when (!v.short) (·.sinCheck i ch sCrossShort false (k + 1))
    | none => s
  let hit := x && other.isSome && v.cross == other
  let s := s.setSin c { s.sin c with
    cross := if x then none else other
    other := other
    short := (ended.isNone && v.other.isSome && v.short) || hit }
  match other with
  | some k => s.when hit (·.sinCheck i ch sCrossShort true (k + 1))
  | none => s

/-- A sample of channel ch of pair i at instant t. The pair of an input that is OFF is sampled as every other, and not
evaluated (R383). -/
def State.sinSample (s : State) (i ch t : Nat) (x : Bool) : State :=
  let c := 2 * i + ch
  let v := s.sin c
  let eval := s.sa SAF.IN_FUNC i ≠ 0
  let own := match s.tpOf i ch with
    | some m => s.inTest i m t
    | none => false
  let s := (s.wrB (if ch = 0 then SAF.INSTAT_A else SAF.INSTAT_B) x 0 i).wrB
    (if ch = 0 then SAF.INSTAT_A_TEST else SAF.INSTAT_B_TEST) own 0 i
  if own then
    let z := if x then 0 else (if v.inWin then v.winZeros else 0) + 1
    s.setSin c { v with
      zeros := 0, winZeros := z, seen := (v.inWin && v.seen) || decide (3 ≤ z), inWin := true
      cross := none, other := none, short := false }
  else
    let s := s.when (v.inWin && eval) (fun s => s.sinCheck i ch sTestPulse (!v.seen))
    let z := if x then 0 else v.zeros + 1
    let other := (s.tpOf i ch).bind (fun m => (List.range 4).find? (fun k => k ≠ m && s.inTest i k t))
    let s := s.setSin c { s.sin c with zeros := z, winZeros := 0, seen := false, inWin := false, held := x }
    let s := s.when eval (·.crossSample i ch other x)
    s.when (s.sa SAF.IN_FUNC i = 1 && z = s.sa SAF.IN_FILT i) (fun s => s.safLatch sInput i ch)

/-- The discrepancy check of pair i at instant t. -/
def State.discSample (s : State) (i t : Nat) : State :=
  let a := s.sin (2 * i)
  let b := s.sin (2 * i + 1)
  let v := s.sinPair i
  if a.inWin || b.inWin then s
  else if a.held = b.held then (s.setSinPair i { v with diffAt := none }).sinCheck i 0 sDiscrepancy false
  else match v.diffAt with
    | none => s.setSinPair i { v with diffAt := some t }
    | some d =>
      s.when (decide (10 * s.sa SAF.IN_DISC i * msH < t - d) && !v.bad.contains (sDiscrepancy, 0)) (fun s =>
        s.sinCheck i 0 sDiscrepancy true)

/-- Pair i at instant t, its channels sampled: the discrepancy check, and the time a RESET pair has been on (R400). -/
def State.pairSample (s : State) (i t : Nat) : State :=
  let s := s.when (s.sa SAF.IN_FUNC i ≠ 0) (·.discSample i t)
  let on := s.pairOn i
  let v := s.sinPair i
  match v.onAt with
  | none => if on then s.setSinPair i { v with onAt := some t } else s
  | some o =>
    if on then s
    else
      let s := s.setSinPair i { v with onAt := none }
      s.when (s.sa SAF.IN_FUNC i = 2 && decide (100 * msH ≤ t - o) && decide (t - o ≤ 5 * secH)) (fun s =>
        s.setSaf (fun x => { x with btn := if x.btn.contains i then x.btn else x.btn ++ [i] }))

/-- The next multiple of a period of island time, not before now, after the first n. -/
def State.safNext (s : State) (period n : Nat) : Nat :=
  Nat.max (n + 1) (ceilDiv (s.now - s.saf.base) period)

/-- SAFE_INPUT_SAMPLE (R383, R384): the 10 µs sample of the pairs; bits 2i and 2i + 1 of `levels` are SINiA and
SINiB. -/
def execSafeInputSample (levels : Nat) (s : State) : Host.Outcome State Fault Refusal :=
  s.run (fun s =>
    if !s.safUp then s
    else
      let k := s.safNext (10 * usH) s.saf.samples
      let t := s.saf.base + k * 10 * usH
      let s := (s.to t).setSaf (fun v => { v with samples := k })
      s.each (List.range 8) (fun i s =>
        ((s.sinSample i 0 t (bit levels (2 * i))).sinSample i 1 t (bit levels (2 * i + 1))).pairSample i t))

/-- TEST_PULSE (R383): the next off-pulse starts, one output after another every 5 ms of island time. -/
def execTestPulse (s : State) : Host.Outcome State Fault Refusal :=
  s.run (fun s =>
    if !s.safUp then s
    else
      let k := if s.saf.tests = 0 && s.now ≤ s.saf.base then 0 else s.safNext (5 * msH) (s.saf.tests - 1)
      let t := s.saf.base + k * 5 * msH
      (s.to t).setSaf (fun v => { v with tests := k + 1, tpAt := tput v.tpAt (k % 4) (some t) none }))

/-! ### Safe outputs and contactors (R385 to R388) -/

def State.sout (s : State) (o : Nat) : SoutSt := tgetD s.saf.outs o {}

/-- Output o is switched: both channels. The off-pulses of one that is switched on begin with the next 125 ms boundary of
island time. -/
def State.soutSet (s : State) (o : Nat) (on : Bool) : State :=
  if s.rdB SAF.OUTSTAT_P 0 o = on && s.rdB SAF.OUTSTAT_N 0 o = on then s
  else
    let s := (s.wrB SAF.OUTSTAT_P on 0 o).wrB SAF.OUTSTAT_N on 0 o
    let k := if on then (s.now - s.saf.base) / (125 * msH) else (s.sout o).pulses
    s.setSaf (fun v => { v with outs := tput v.outs o { chgAt := s.now, pulses := k } {} })

/-- The contactor state of output o (Table 17.3), `tfb` that TFB has passed since its command changed. -/
def State.contactorState (s : State) (o : Nat) (tfb : Bool) : Nat :=
  let on := s.rdB SAF.OUTSTAT_RBP 0 o && s.rdB SAF.OUTSTAT_RBN 0 o
  let fb := s.sa SAF.OUT_FB o
  let fbOn := if fb < 8 then s.pairOn fb else !on
  if s.sa SAF.OUT_FUNC o = 0 then 0
  else if !on && fbOn then 1
  else if on && !fbOn then 2
  else if tfb then 4
  else 3

/-- In SERVICE and FACTORY a contactor that is not reported open takes every output to the OFF coding (R34). -/
def State.contactorsHold (s : State) : State :=
  s.when (s.modeIn [.service, .factory] && !s.contactorsOpen) (·.applyHolds)

/-- Output o has this contactor state now: CONTACTOR is posted at a change, and latched on FAULT. -/
def State.contactorIs (s : State) (o v : Nat) : State :=
  let was := s.rd SAF.OUTSTAT_STATE 0 o
  let s := s.when (was ≠ v) (fun s =>
    (s.wr SAF.OUTSTAT_STATE v 0 o).safPost 0x7B [(1, 1, o), (2, 1, was), (3, 1, v)])
  let fn := s.sa SAF.OUT_FUNC o
  let s := if fn = 1 then s.wr SAF.STAT_DC v else if fn = 2 then s.wr SAF.STAT_AC v else s
  s.contactorsHold.safBad sContactor o 0 (v = 4)

/-- The contactor state of output o is formed anew; with a feedback pair, once the pairs have been sampled. -/
def State.contactorEval (s : State) (o : Nat) : State :=
  if s.sa SAF.OUT_FB o < 8 && s.saf.samples = 0 then s
  else s.contactorIs o
    (s.contactorState o (decide ((s.sout o).chgAt + 10 * s.sa SAF.OUT_TFB o * msH ≤ s.now)))

/-- No contactor has an output: its state is NONE. -/
def State.contactorNone (s : State) : State :=
  let fns := (List.range 4).map (fun o => s.sa SAF.OUT_FUNC o)
  let s := if fns.contains 1 then s else s.wr SAF.STAT_DC 0
  (if fns.contains 2 then s else s.wr SAF.STAT_AC 0).contactorsHold

/-- A readback of channel ch (0 P, 1 N) of output o disagrees: the other channel is switched off (R385). -/
def State.readbackBad (s : State) (o ch : Nat) : State :=
  let s := s.wrB (if ch = 0 then SAF.OUTSTAT_N else SAF.OUTSTAT_P) false 0 o
  s.safBad sReadback o ch true

/-- CONTACTOR_FEEDBACK_TIMEOUT (R388): TFB has passed since the command of output o changed. -/
def execContactorFeedbackTimeout (o : Nat) (s : State) : Host.Outcome State Fault Refusal :=
  s.runIf (o < 4) (fun s =>
    if !s.safUp || s.rd SAF.OUTSTAT_STATE 0 o ≠ 3 then s
    else (s.to ((s.sout o).chgAt + 10 * s.sa SAF.OUT_TFB o * msH)).contactorEval o)

/-- OUTPUT_OFF_PULSE (R385): output o, when on, has one channel pulsed off, P at each 250 ms of island time and N
125 ms later; the readback shows it off in time (`off`) and on again in time (`on`). -/
def execOutputOffPulse (o : Nat) (off on : Bool) (s : State) : Host.Outcome State Fault Refusal :=
  s.runIf (o < 4) (fun s =>
    if !s.safUp || !s.rdB SAF.OUTSTAT_P 0 o || !s.rdB SAF.OUTSTAT_N 0 o then s
    else
      let k := (s.sout o).pulses + 1
      let t := s.saf.base + k * 125 * msH
      let s := s.to t
      let s := s.setSaf (fun v => { v with outs := tput v.outs o { s.sout o with pulses := k } {} })
      let e := t + 10 * s.sa SAF.OUT_OPW o * usH
      let s := s.to e
      if !off then s.readbackBad o (k % 2)
      else if !on then (s.to (e + msH)).readbackBad o (k % 2)
      else s)

/-- A request enters queue 86, or waits for a credit. -/
def State.safSend (s : State) (r : SafReq) : State :=
  let n := s.saf.queue.length + 1
  let s := s.setSaf (fun v => { v with queue := v.queue ++ [r] })
  if n ≤ 8 then s.queueHolds 86 n else s.stallCount 86

/-- CONTACTOR_REQUEST of an AX9600-S (Table 3.12). -/
def State.reqPost (s : State) (r origin cause : Nat) : State :=
  s.post 0x09 [(1, 1, r), (2, 1, origin), (3, 1, cause), (8, 8, s.dtNs)]

/-- A request r joins those of the evaluation in progress, which one record will carry, with the origin and cause of the
latest (R390; DESIGN CHOICE, log 147); open prevails over close. -/
def State.reqJoin (s : State) (r origin cause : Nat) : State :=
  let r := r ||| ((s.mm.reqs.map (·.1)).getD 0)
  let r := if bit r 0 then putBits r 1 1 0 else r
  let r := if bit r 2 then putBits r 3 1 0 else r
  { s with mm := { s.mm with reqs := some (r, origin, cause) } }

/-- The end of an evaluation: the record of its requests. -/
def State.reqFlush (s : State) : State :=
  let t : State := { s with mm := { s.mm with evals := false, reqs := none } }
  match s.mm.reqs with
  | some (r, origin, cause) => t.reqPost r origin cause
  | none => t

/-- Contactor requests of firmware or of the metering unit (R387, R390): `req` are the bits AC open, AC close, DC open,
DC close. -/
def State.contactorReq (s : State) (req origin cause : Nat) : State :=
  let r := (if bit req 0 then req - bits req 1 1 * 2 else req)
  let r := (if bit r 2 then r - bits r 3 1 * 8 else r)
  if req = 0 then s
  else if s.has 16 then
    let s := s.when (bit req 0) (·.safSend (.contactor 2 false))
    let s := s.when (bit req 1) (·.safSend (.contactor 2 true))
    let s := s.when (bit req 2) (·.safSend (.contactor 1 false))
    s.when (bit req 3) (·.safSend (.contactor 1 true))
  else
    let s := { s with
      acTaken := if bit r 0 then true else if bit r 1 then false else s.acTaken
      dcTaken := if bit r 2 then true else if bit r 3 then false else s.dcTaken }
    (if s.mm.evals then s.reqJoin r origin cause else s.reqPost r origin cause).applyHolds

def rqAcOpen : Nat := 1
def rqAcClose : Nat := 2
def rqDcOpen : Nat := 4
def rqDcClose : Nat := 8

/-! ### Safety reset (R400) -/

/-- The codes whose conditions persist. -/
def State.persisting (s : State) : List Nat :=
  let en := s.saB SAF.NETCFG_EN
  let pairs := (List.range 8).filter (fun i => s.sa SAF.IN_FUNC i ≠ 0)
  (if pairs.any (fun i => s.sa SAF.IN_FUNC i = 1 && !s.pairOn i) then [sInput] else []) ++
  (match s.saf.conf with
    | some c => if en && !bit c.2.1 0 then [sFrameDemand] else []
    | none => []) ++
  (if en && (s.saf.timedOut || (s.saB SAF.CFG_BOTH_REQ && (s.rdB SAF.STAT_NET0_DOWN || s.rdB SAF.STAT_NET1_DOWN)))
    then [sFrameTimeout] else []) ++
  (if s.pinhLow then [sPinh] else []) ++
  pairs.flatMap (fun i => (s.sinPair i).bad.map (·.1)) ++ s.saf.bad.map (·.1) ++ s.saf.fresh

/-- A reset request of a source (0 input, 1 frame, 2 host) is evaluated at the end of a safety cycle. -/
def State.safReset (s : State) (src : Nat) (q : Option Nat) : State :=
  let l := s.persisting
  if l.isEmpty then
    let s := s.fltEnd fsSafety (s.rd SAF.STAT_CODE)
    let s := ((s.wrB SAF.STAT_DEMAND false).wr SAF.STAT_CODE 0).wrB SAF.STAT_FAULT false
    let s : State := { s with mm := { s.mm with resetDue := false } }
    let s := s.safPost 0x7A [(1, 1, 0), (2, 1, src)]
    match q with
    | some q => s.complete q stOk 0
    | none => s
  else
    let c := l.foldl Nat.min 255
    let s := s.safPost 0x7A [(1, 1, 1), (2, 1, src), (3, 1, c)]
    match q with
    | some q => s.complete q stSafetyDenied c
    | none => s

/-- RESET_BUTTON (R400): the RESET pair i has fallen after 0.1 to 5 s on. -/
def execResetButton (i : Nat) (s : State) : Host.Outcome State Fault Refusal :=
  s.runIf (i < 8) (fun s =>
    if s.saf.btn.contains i then
      s.setSaf (fun v => { v with btn := v.btn.filter (· != i), resets := v.resets ++ [(0, none)] })
    else s)

/-! ### The safety cycle (R385 to R391) -/

/-- The readback of output o is checked against its command, 1 ms after that changed. -/
def State.readbackCheck (s : State) (o : Nat) : State :=
  if s.now < (s.sout o).chgAt + msH then s
  else
    let p := s.rdB SAF.OUTSTAT_RBP 0 o != s.rdB SAF.OUTSTAT_P 0 o
    let n := s.rdB SAF.OUTSTAT_RBN 0 o != s.rdB SAF.OUTSTAT_N 0 o
    if p then s.readbackBad o 0 else if n then s.readbackBad o 1 else s.safBad sReadback o 0 false

/-- What is asked of output o in this cycle: a demand prevails, and an open over a close (R386, R387). -/
def State.soutCycle (s : State) (o : Nat) : State :=
  let reqs := (s.saf.reqs.filter (fun r => r.1 = o)).map (·.2)
  let dem := s.demand && s.saB SAF.OUT_DEMAND o
  let permit := !s.saB SAF.NETCFG_EN || (match s.saf.conf with
    | some c => bit c.2.2 o
    | none => false)
  if dem then
    if s.saf.demAt + s.sa SAF.CFG_OFF_DELAY * 100 * usH ≤ s.now + 500 * usH then s.soutSet o false else s
  else if reqs.contains false then s.soutSet o false
  else if reqs.contains true && permit then s.soutSet o true
  else s

/-- SAFETY_CYCLE (R386): the cycle at the next whole ms of island time; bits 2o and 2o + 1 of `rb` are the readbacks of
SOUToP and SOUToN, `rails` that both inhibit rails read back as commanded. The first cycle after the island's own reset
finds a PINH_N that was low already (R468). -/
def execSafetyCycle (rb : Nat) (rails : Bool) (s : State) : Host.Outcome State Fault Refusal :=
  s.run (fun s =>
    if !s.safUp then s
    else
      let k := s.safNext msH s.saf.cycles
      let found := s.saf.cycles = 0 && s.pinhLow && !s.saf.fresh.contains sPinh
      let s := (s.to (s.saf.base + k * msH)).setSaf (fun v => { v with cycles := k })
      let s := s.when found (·.safLatch sPinh 0)
      let outs := List.range 4
      let s := s.each outs (fun o s =>
        (s.wrB SAF.OUTSTAT_RBP (bit rb (2 * o)) 0 o).wrB SAF.OUTSTAT_RBN (bit rb (2 * o + 1)) 0 o)
      let s := s.safBad sInhibitPath 0 0 (!rails)
      let s := (s.each outs (fun o s => s.readbackCheck o)).each outs (fun o s => s.contactorEval o)
      let s := s.each outs (fun o s =>
        let was := (s.sout o).chgAt
        let cmd := s.rdB SAF.OUTSTAT_P 0 o && s.rdB SAF.OUTSTAT_N 0 o
        let s := s.soutCycle o
        if ((s.sout o).chgAt ≠ was || (s.rdB SAF.OUTSTAT_P 0 o && s.rdB SAF.OUTSTAT_N 0 o) ≠ cmd)
            && s.sa SAF.OUT_FUNC o ≠ 0 then s.contactorIs o 3
        else s)
      let rs := s.saf.resets
      let s := s.setSaf (fun v => { v with reqs := [], resets := [] })
      let s := s.each rs (fun r s => s.safReset r.1 r.2)
      let s := s.setSaf (fun v => { v with fresh := [] })
      if !s.demand && s.rdB SAF.STAT_INHIBIT then s.setInhibit false else s)

/-! ### The island's own reset (R382, R468) -/

/-- The island goes down: the rails and the drives are undriven. -/
def State.safDown (s : State) (lock : Bool) : State :=
  let v := s.saf
  let s := { s with saf := { stored := v.stored, lock := lock, queue := v.queue, rx := v.rx, pinhAt := v.pinhAt
                             pairs := [], resets := [] } }
  let s := s.each v.resets (fun r s => match r.2 with
    | some q => s.complete q stSafetyDenied (if lock then sLockstep else sSupply)
    | none => s)
  let s := s.each (List.range 4) (fun o s =>
    s.each [SAF.OUTSTAT_P, SAF.OUTSTAT_N, SAF.OUTSTAT_RBP, SAF.OUTSTAT_RBN, SAF.OUTSTAT_STATE] (fun f s => s.wr f 0 0 o))
  let s := s.each (List.range 8) (fun i s =>
    s.each [SAF.INSTAT_A, SAF.INSTAT_B, SAF.INSTAT_A_TEST, SAF.INSTAT_B_TEST, SAF.INSTAT_FAULT] (fun f s =>
      s.wr f 0 0 i))
  let s := s.each (List.range 2) (fun n s => s.each [SAF.RX_OK, SAF.RX_BAD, SAF.MISS] (fun f s => s.wr f 0 0 n))
  let s := s.wr SAF.LAST_SEQ 0
  let s : State := { s with mm := { s.mm with resetDue := s.mm.resetDue || s.mm.cur = .safestop } }
  let s := ((s.wr SAF.STAT_DC 0).wr SAF.STAT_AC 0).wrB SAF.STAT_INHIBIT true
  ((s.loseReady 4).applyHolds)

/-- ISLAND_LOCKSTEP (R382): the island's cores disagree; the pair restarts. -/
def execIslandLockstep (s : State) : Host.Outcome State Fault Refusal :=
  s.run (fun s => if s.safUp then (s.safLatch sLockstep 0).safDown true else s)

/-- SAFE_SUPPLY_FAULT (R382): VDD_SAFE or CK_SAFE leaves its limits. -/
def execSafeSupplyFault (s : State) : Host.Outcome State Fault Refusal :=
  s.run (fun s => if s.safUp then (s.safLatch sSupply 0).safDown false else s)

/-- The fields of the configuration (R401), as key, field and index. -/
def safCfg : List (Fld × Nat) :=
  [SAF.CFG_OFF_DELAY, SAF.CFG_BOTH_REQ, SAF.CFG_SINGLE_OK, SAF.CFG_HOST_RESET, SAF.NETCFG_EN, SAF.NETCFG_CONN,
    SAF.NETSEED, SAF.NETPORT, SAF.NETTIMING_STATUS_MS, SAF.NETTIMING_TMO_MAX].map (·, 0) ++
  [SAF.IN_FUNC, SAF.IN_DISC, SAF.IN_SETTLE, SAF.IN_FILT, SAF.IN_TPB_EN, SAF.IN_TPB, SAF.IN_TPA_EN,
    SAF.IN_TPA].flatMap (fun f => (List.range 8).map (f, ·)) ++
  [SAF.OUT_DEMAND, SAF.OUT_FUNC, SAF.OUT_FB, SAF.OUT_TFB, SAF.OUT_OPW].flatMap (fun f => (List.range 4).map (f, ·)) ++
  (List.range 2).map (SAF.LOCAL_IP, ·)

/-- The pending set becomes the registers' reset values. -/
def State.safPendReset (s : State) : State := s.each safCfg (fun p s => s.wr p.1 (p.1.reset 0 p.2) 0 p.2)

/-- ISLAND_RESET_EXIT (R468): the island leaves its own reset, with the inhibit in force, every safe output off and the
reset configuration. It latches no demand here but LOCKSTEP. -/
def execIslandResetExit (at_ : Nat) (s : State) : Host.Outcome State Fault Refusal :=
  s.run (fun s =>
    let s := s.to at_
    if !s.has 16 || s.saf.up then s
    else
      let lock := s.saf.lock
      let s := (s.setSaf (fun v => { v with up := true, base := s.now, lock := false, act := [] })).safPendReset
      let s := s.fltEnd fsSafety (s.rd SAF.STAT_CODE)
      let s := ((s.wrB SAF.STAT_DEMAND false).wr SAF.STAT_CODE 0).wrB SAF.STAT_FAULT false
      let s := ((s.wrB SAF.STAT_INHIBIT true).wrB SAF.STAT_NET0_DOWN false).wrB SAF.STAT_NET1_DOWN false
      let s := s.wrB SAF.STAT_PINH s.pinhLow
      s.when lock (·.safLatch sLockstep 0))

/-! ### Configuration (R401) -/

/-- The 19 words of R401. -/
def safWords : List Nat :=
  [0x120000] ++ (List.range 8).map (0x120020 + 4 * ·) ++ (List.range 4).map (0x120060 + 4 * ·) ++
    [0x120100, 0x120104, 0x120108, 0x12010C, 0x120110, 0x120114]

/-- One byte into a reflected CRC-32C register. -/
def crc32cByte (c b : Nat) : Nat :=
  (List.range 8).foldl (fun a _ => if a % 2 = 1 then a / 2 ^^^ 0x82F63B78 else a / 2) (c ^^^ (b % 256))

/-- CRC-32C of a byte list with this preset. -/
def crc32c (preset : Nat) (l : List Nat) : Nat := l.foldl crc32cByte preset ^^^ 0xFFFFFFFF

/-- The fields that the words of R401 are made of. -/
def safFlds : List Fld := SAF.flds.filter (fun f => match f.acc with
  | .rwl _ => true
  | _ => false)

/-- The CRC over a set of configuration values. -/
def safCrc (val : Fld → Nat → Nat → Nat) : Nat :=
  crc32c 0xFFFFFFFF (safWords.flatMap (fun o => leBytes (wordOf val safFlds o) 4))

/-- SAF.ACRC: the CRC of the active set. -/
def State.safAcrc (s : State) : Nat := safCrc (fun f _ j => s.sa f j)

/-- A configuration passes the checks of R401: no pair with one test-pulse output twice, no contactor function twice. -/
def cfgOk (val : Fld → Nat → Nat) : Bool :=
  (List.range 8).all (fun i =>
    !(val SAF.IN_TPA_EN i = 1 && val SAF.IN_TPB_EN i = 1 && val SAF.IN_TPA i = val SAF.IN_TPB i)) &&
  [1, 2].all (fun fn => decide (((List.range 4).filter (fun o => val SAF.OUT_FUNC o = fn)).length ≤ 1))

/-- A set becomes active: the frame connection and the filters of the inputs start anew. The states of its contactors are
formed in the next safety cycle (DESIGN CHOICE, log 100). -/
def State.safActivate (s : State) (t : Tbl Nat) : State :=
  let s := s.setSaf (fun v => { v with
    act := t, cmd := none, twins := [], conf := none, resetWas := false, timedOut := false
    netAt := [(0, s.now + 1), (1, s.now + 1)], peer := [], stAt := s.now
    bad := v.bad.filter (fun b => b.1 ≠ sConfig && b.1 ≠ sContactor) })
  let s := s.each (List.range 16) (fun c s => s.setSin c { s.sin c with zeros := 0 })
  s.contactorNone

/-- The pending set as a table of values. -/
def State.safPending (s : State) : Tbl Nat :=
  safCfg.foldl (fun t p => tput t (p.1.key 0 p.2) (s.rd p.1 0 p.2) (p.1.reset 0 p.2)) []

/-- The island takes up a commit of ring q that carries this CRC (R401). -/
def State.safCommit (s : State) (q want : Nat) : State :=
  let crc := safCrc (fun f _ j => s.rd f 0 j)
  if crc ≠ want then (s.safPost 0x7D [(1, 1, 1), (8, 4, crc)]).complete q stBadField crc
  else if !cfgOk (fun f j => s.rd f 0 j) then (s.safPost 0x7D [(1, 1, 2), (8, 4, crc)]).complete q stBadField crc
  else
    let t := s.safPending
    let s := (s.safActivate t).setSaf (fun v => { v with stored := some t })
    (s.safPost 0x7D [(8, 4, crc)]).complete q stOk crc

/-- SAF_COMMIT: opcode 0x7B (R401, R402). -/
def execSafCommit (q : Nat) (s : State) : Host.Outcome State Fault Refusal :=
  s.cmd q 0x7B (fun x _ s =>
    if !s.modeAdmits .ssf then s.complete q stModeForbidden 0
    else (s.safSend (.commit q (bits x.d.inl 0 32))).cmdWaits q)

/-- SAFETY_REQUEST (R387, R392, R402): the island accepts the oldest request; a close of the DC contactor waits for
the rail test of PRESTART. The command that made it ends; a safety reset ends with its evaluation. -/
def execSafetyRequest (s : State) : Host.Outcome State Fault Refusal :=
  s.run (fun s =>
    match s.saf.queue with
    | [] => s
    | r :: rest =>
      if !s.safUp || (r == .contactor 1 true && s.saf.railTest) then s
      else
        let s := s.setSaf (fun v => { v with queue := rest })
        match r with
        | .contactor fn c =>
          s.setSaf (fun v =>
            { v with reqs := v.reqs ++ ((List.range 4).filter (fun o => s.sa SAF.OUT_FUNC o = fn)).map (·, c) })
        | .output o c q =>
          (s.setSaf (fun v => { v with reqs := v.reqs ++ [(o, c)] })).complete q stOk (s.rd SAF.OUTSTAT_STATE 0 o)
        | .reset q => s.setSaf (fun v => { v with resets := v.resets ++ [(2, some q)] })
        | .commit q crc => s.safCommit q crc)

/-- CONFIG_RESTORE (R401, R468): firmware restores the stored set after the island has left its own reset; `good` is the
outcome of the island's CRC check. With no stored set the reset values stay. -/
def execConfigRestore (good : Bool) (s : State) : Host.Outcome State Fault Refusal :=
  s.run (fun s =>
    if !s.safUp || s.saf.restored || !s.ready 1 then s
    else
      let s := s.setSaf (fun v => { v with restored := true })
      match s.saf.stored with
      | none => s
      | some t =>
        let crc := safCrc (fun f _ j => tgetD t (f.key 0 j) (f.reset 0 j))
        if good then
          (s.each safCfg (fun p s => s.wr p.1 (tgetD t (p.1.key 0 p.2) (p.1.reset 0 p.2)) 0 p.2)).safActivate t
        else (s.safPost 0x7D [(1, 1, 3), (8, 4, crc)]).safBad sConfig 0 0 true)

/-- INHIBIT_RAIL_TEST (R392): at the entry into PRESTART each rail is asserted alone for 10 µs, during which row 1 holds
every output steadily inactive; `ok` that both read back so. The link-alive pulses that fall due meanwhile are omitted. -/
def execInhibitRailTest (ok : Bool) (s : State) : Host.Outcome State Fault Refusal :=
  s.run (fun s =>
    if !s.safUp || !s.saf.railTest then s
    else
      let s := (s.setSaf (fun v => { v with railOn := true })).applyHolds
      let s := (s.to (s.now + 20 * usH)).setSaf (fun v => { v with railTest := false, railOn := false })
      let s := if s.inhibited then s else s.each (List.range 96) (fun n s => s.aliveAgain n)
      if ok then s else s.safLatch sInhibitPath 0)

/-! ### Opcodes (R402) -/

/-- SAF_STATUS: opcode 0x78. -/
def execSafStatus (q : Nat) (s : State) : Host.Outcome State Fault Refusal :=
  s.cmd q 0x78 (fun _ _ s => s.complete q stOk (s.word SAF.flds 0x120004))

/-- SAF_RESET: opcode 0x79. -/
def execSafReset (q : Nat) (s : State) : Host.Outcome State Fault Refusal :=
  s.cmd q 0x79 (fun _ _ s =>
    if !s.saB SAF.CFG_HOST_RESET then s.complete q stSafetyDenied (s.persisting.foldl Nat.min 255 % 255)
    else (s.safSend (.reset q)).cmdWaits q)

/-- SAF_CONTACTOR: opcode 0x7A. -/
def execSafContactor (q : Nat) (s : State) : Host.Outcome State Fault Refusal :=
  s.cmd q 0x7A (fun x _ s =>
    let o := bits x.d.arg 0 2
    let c := bit x.d.inl 0
    let permit := !s.saB SAF.NETCFG_EN || (match s.saf.conf with
      | some v => bit v.2.2 o
      | none => false)
    if c && !s.modeIn [.service, .factory] then s.complete q stModeForbidden 0
    else if c && (s.demand || !permit) then s.complete q stSafetyDenied 0
    else (s.safSend (.output o c q)).cmdWaits q)

/-- MAC n runs (R444): it is enabled and READY. -/
def State.macRuns (s : State) (n : Nat) : Bool := s.rdB ETH.CFG_EN n && s.ready (8 + n)

end Sys2Proof.Machine
end

