-- ==== Sys2Proof/Machine/Metering.lean ====
section
/-!
DEFINITION. The metering unit (spec 13): channel values, accumulation, cycle and interval figures, reverse power, the S0
inputs, retention transfers and the restore at WAKE.
-/
namespace Sys2Proof.Machine

def State.setMtr (s : State) (f : MtrSt → MtrSt) : State := { s with mtr := f s.mtr }

/-- A meaning of the metering unit: nothing happens where it is absent or not ready. -/
def State.mtrRun (s : State) (f : State → State) : Host.Outcome State Fault Refusal :=
  s.run (fun s => if s.has 11 && s.ready 43 then f s else s)

/-! ### Channels (R306, R307) -/

/-- The SDI input of channel c: VA, VB, VC, IA, IB, IC, IN; 31 where IN is not mapped. -/
def State.mtrMap (s : State) (c : Nat) : Nat :=
  match c with
  | 0 => s.rd MTR.MAP0_VA
  | 1 => s.rd MTR.MAP0_VB
  | 2 => s.rd MTR.MAP0_VC
  | 3 => s.rd MTR.MAP0_IA
  | 4 => s.rd MTR.MAP1_IB
  | 5 => s.rd MTR.MAP1_IC
  | _ => s.rd MTR.MAP1_IN

/-- The map is consistent (R306). -/
def State.mapOk (s : State) : Bool :=
  let l := (List.range 6).map s.mtrMap
  let i0 := l.headD 0
  decide (l.Pairwise (· ≠ ·)) &&
    l.all (fun i => s.rdB SD.CFG_EN i && s.rd SD.CFG_CODING i ≠ 2 && s.rd SD.CFG_OSR i = s.rd SD.CFG_OSR i0 &&
      (s.sd i).synced.isSome && (s.sd i).synced == (s.sd i0).synced)

/-- The first mapped V or I channel that is STUCK or LOST. -/
def State.chFault (s : State) : Option Nat := (List.range 6).find? (fun c => s.sdBad (s.mtrMap c))

/-- The unit forms its figures: it runs on a consistent map without a channel fault (R309, R316). -/
def State.mtrSees (s : State) : Bool := s.has 11 && s.ready 43 && s.mapOk && s.chFault.isNone

/-- The unit accumulates (R306, R322). -/
def State.mtrOn (s : State) : Bool := s.mtrSees && s.mtr.restored && s.rdB MTR.CFG_EN

/-- The value of channel c for a raw result (R307). -/
def State.chX (s : State) (c : Nat) (raw : Int) : Nat :=
  fMul (fMul (s.rd CH.SCALE c) (s.rd CH.GAIN c)) (fSub (fPackI raw (-23)) (s.rd CH.OFFSET c))

/-- The latest values of channel c. -/
def State.chHist (s : State) (c : Nat) : List (Nat × Nat) := tgetD s.mtr.hist c []

/-- The value at instant t by linear interpolation between successive results, newest first. -/
def interpAt (t : Nat) : List (Nat × Nat) → Nat
  | [] => 0
  | [(_, x)] => x
  | (t1, x1) :: (t0, x0) :: rest =>
    if t1 ≤ t then x1
    else if t0 ≤ t then fAdd x0 (fMul (fSub x1 x0) (fRatio false (t - t0) (t1 - t0)))
    else interpAt t ((t0, x0) :: rest)

/-- The value of channel c at its latest result, delayed by DELAY ns. -/
def State.chNow (s : State) (c : Nat) : Nat :=
  interpAt ((s.chHist c).head?.elim 0 (·.1) - s.rd CH.DELAY c) (s.chHist c)

/-- A result of channel c, with its DT tag, joins its latest values, which reach 100 µs back. -/
def State.chPush (s : State) (c x tag : Nat) : State :=
  let l := s.chHist c
  let keep := l.takeWhile (fun p => tag < p.1 + 100000)
  let l := (tag, x) :: (keep ++ (l.drop keep.length).take 1)
  s.setMtr (fun m => { m with hist := tput m.hist c l [] })

/-! ### Accumulation (R309 to R311) -/

/-- An increase of accumulator i, with its 32 fraction bits. -/
def State.accAdd (s : State) (i inc : Nat) : State :=
  s.setMtr (fun m => { m with acc := tput m.acc i ((tgetD m.acc i 0 + inc) % 2 ^ 128) 0 })

/-- The value of accumulator i. -/
def State.accVal (s : State) (i : Nat) : Nat := tgetD s.mtr.acc i 0 / 2 ^ 32

/-- The energy of |p| (binary32) over n / d seconds, in 10⁻⁶ unit-hours with 32 fraction bits. -/
def energyOf (p n d : Nat) : Nat := (fScaled (fAbs p)).toNat * n * 1000000 * 2 ^ 32 / (d * 3600 * 2 ^ 149)

/-- The energy of |p| over d h. -/
def energyH (p d : Nat) : Nat := energyOf p (5 * d) (64 * 1000000000)

/-- The time between successive results, in s, as a numerator and denominator. -/
def State.mtrTs (s : State) : Nat × Nat :=
  let i0 := s.mtrMap 0
  (s.rd SD.CFG_OSR i0 * s.rd CLK.OUT_DIV 0 (i0 / 2), 5000000 * s.auxMult)

/-- One step at a result of every channel: the sample for the cycle and interval figures, and while the unit accumulates
the active energy by phase and in total; `tag` is the DT tag of the result that completes it. -/
def State.mtrStep (s : State) (tag : Nat) : State :=
  let x := (List.range 7).map (fun c => if c < 6 || s.mtrMap 6 < 16 then s.chNow c else 0)
  let p := (List.range 3).map (fun ph => fMul (x.getD ph 0) (x.getD (3 + ph) 0))
  let pt := fAdd (fAdd (p.getD 0 0) (p.getD 1 0)) (p.getD 2 0)
  let ts := s.mtrTs
  let s := s.when s.mtrOn (·.each ((p ++ [pt]).mapIdx (fun ph v => (ph, v))) (fun q s =>
    if fKey q.2 = 0 then s
    else s.accAdd (8 * q.1 + (if fLt q.2 0 then 1 else 0)) (energyOf q.2 ts.1 ts.2)))
  let sq := x.map (fun v => fScaled v * fScaled v)
  let ps := (p ++ [pt]).map fScaled
  let add (a b : List Int) : List Int := if a.isEmpty then b else a.zipWith (· + ·) b
  s.setMtr (fun m => { m with
    lastAt := some s.now
    lastDt := tag
    cyc := m.cyc ++ [x]
    ivN := m.ivN + 1
    ivSq := add m.ivSq sq
    ivP := add m.ivP ps })

/-- Every V and I channel has a result for a step: their tags lie within half the time between results, since inputs
restarted together may run on MCLK outputs whose edges lie apart (R175, R306). -/
def State.mtrReady (s : State) (got : Tbl Nat) : Bool :=
  let l := (List.range 6).filterMap (fun c => tget got c)
  let ts := s.mtrTs
  l.length = 6 && decide (2 * (l.foldl Nat.max 0 - l.foldl Nat.min (l.headD 0)) * ts.2 < ts.1 * 1000000000)

/-- A result of input i reaches the metering unit with its tag (R177): a step follows when every V and I channel has its
result of that step. -/
def State.mtrTake (s : State) (i : Nat) (raw : Int) (tag : Nat) : State :=
  if !s.has 11 || !s.ready 43 then s
  else
    let mine := (List.range 7).filter (fun c => s.mtrMap c = i)
    let s := s.each mine (fun c s => s.chPush c (s.chX c raw) tag)
    let got := mine.foldl (fun t c => tput t c (tag + 1) 0) s.mtr.got
    let full := s.mtrReady got
    let s := s.setMtr (fun m => { m with got := if full then [] else got })
    if full && s.mtrSees then s.mtrStep tag else s

/-- Input i takes a stretch of its line, and the metering unit its results (R173 to R177). -/
def State.sdInput (s : State) (i : Nat) (line : SdLine) (at_ : Nat) : State :=
  let r := s.sdTake i line at_
  r.1.each r.2 (fun v s => s.mtrTake i v.1 v.2)

/-- SDI_RESULT (R174, R177): the line of input i up to the last bit of a decimation interval, at `at_`. -/
def execSdiResult (i : Nat) (line : SdLine) (at_ : Nat) (s : State) : Host.Outcome State Fault Refusal :=
  s.runIf (sdOk i) (fun s => s.sdInput i line at_)

/-- SDI_LINK (R176): the line of input i up to `at_`, where STUCK or LOST changes; its last level stands for `more`
further bits or samples. -/
def execSdiLink (i : Nat) (line : SdLine) (more at_ : Nat) (s : State) : Host.Outcome State Fault Refusal :=
  s.runIf (sdOk i) (fun s => s.sdInput i (line.hold more) at_)

/-! ### Cycle figures (R309, R310) -/

/-- √(sum / n) for a sum of squares in units of 2⁻²⁹⁸. -/
def rmsOf (sum : Int) (n : Nat) : Nat :=
  if n = 0 then 0
  else
    let w := sum.toNat <<< 80 / n
    let r := isqrt w
    fPack false r (-149 - 40) (decide (r * r ≠ w) || decide (sum.toNat <<< 80 % n ≠ 0))

/-- The mean of n values whose sum is given in units of 2⁻¹⁴⁹. -/
def meanOf (sum : Int) (n : Nat) : Nat :=
  if n = 0 then 0 else fPackI (sum * 2 ^ 64 / n) (-149 - 64)

/-- The sums of x·cos and x·sin of a single-bin DFT over a cycle, with 96 fraction bits more. -/
def dftBin (l : List Nat) : Int × Int :=
  let n := l.length
  (l.foldl (fun (a : Nat × Int × Int) x =>
    let k := a.1
    let th : Int := ((2 * piQ * k / n / 2 ^ 160 : Nat) : Int)
    let th := if n < 2 * k then th - ((2 * piQ / 2 ^ 160 : Nat) : Int) else th
    (k + 1, a.2.1 + fScaled x * cosQ th, a.2.2 + fScaled x * sinQ th)) (0, 0, 0)).2

/-- Q₁ of a phase from the samples of a cycle: Im(V₁ · conj I₁) of the RMS phasors. -/
def q1Of (v i : List Nat) : Nat :=
  let a := dftBin v
  let b := dftBin i
  let n := v.length
  if n = 0 then 0 else fPackI ((a.1 * b.2 - a.2 * b.1) * 2 ^ 64 / ((n * n : Nat) : Int)) (1 - 298 - 192 - 64)

/-- The figures of a cycle from its samples. -/
def cycleOf (l : List (List Nat)) : CycleSt :=
  let col (c : Nat) : List Nat := l.map (fun x => x.getD c 0)
  let rms (c : Nat) : Nat := rmsOf ((col c).foldl (fun a x => a + fScaled x * fScaled x) 0) l.length
  let ph := List.range 3
  { v := ph.map rms
    i := ph.map (fun k => rms (3 + k))
    p := ph.map (fun k => meanOf ((l.map (fun x => fScaled (fMul (x.getD k 0) (x.getD (3 + k) 0)))).foldl (· + ·) 0)
      l.length)
    q := ph.map (fun k => q1Of (col k) (col (3 + k)))
    s := ph.map (fun k => fMul (rms k) (rms (3 + k))) }

/-- The mean of p_tot over the samples of a cycle. -/
def cyclePtot (l : List (List Nat)) : Nat :=
  let p (x : List Nat) (k : Nat) : Nat := fMul (x.getD k 0) (x.getD (3 + k) 0)
  meanOf ((l.map (fun x => fScaled (fAdd (fAdd (p x 0) (p x 1)) (p x 2)))).foldl (· + ·) 0) l.length

/-- Reactive and apparent energy of phase or total ph over d h. -/
def State.cycleEnergy (s : State) (ph p q sv d : Nat) : State :=
  let recv := fLt p 0
  let quad := if fLt q 0 then (if recv then 4 else 5) else (if recv then 3 else 2)
  (s.accAdd (8 * ph + quad) (energyH q d)).accAdd (8 * ph + (if recv then 7 else 6)) (energyH sv d)

/-- REV_POWER (Table 13.11), with the time in condition. -/
def State.revRec (s : State) (what : Nat) (opened : Bool) (since : Nat) : State :=
  s.post 0x70 [(1, 1, what), (2, 1, b2n opened), (8, 4, s.sp 0x4411), (12, 4, (s.dtNs - since) / 1000000)]

/-- The reverse-power check at a cycle end (R316). -/
def State.revCheck (s : State) : State :=
  if fLt (s.sp 0x4411) (fNeg (s.rd MTR.REV_THR)) then
    s.setMtr (fun m => { m with revAt := some (m.revAt.getD s.dtNs) })
  else
    let since := s.mtr.revAt.getD s.dtNs
    let s := s.setMtr (fun m => { m with revAt := none })
    if s.rdB MTR.STAT_REV_ACTIVE then
      ((s.wrB MTR.STAT_REV_ACTIVE false).fltLevel fsRevPower 0 false).revRec 1 false since
    else s

/-- The reference channel: the first voltage whose cycle RMS is at least 5 % of its SCALE. -/
def State.mtrRef (s : State) (c : CycleSt) : Option Nat :=
  (List.range 3).find? (fun k => decide (fScaled (s.rd CH.SCALE k) ≤ 20 * fScaled (c.v.getD k 0)))

/-- METER_CYCLE_END (R309, R310, R316): the positive-going zero crossing of the fundamental of the reference channel at
`at_`. The first only starts a cycle, and the interval with it. -/
def execMeterCycleEnd (at_ : Nat) (s : State) : Host.Outcome State Fault Refusal :=
  s.mtrRun (fun s =>
    let s := s.to at_
    let l := s.mtr.cyc
    let start := s.mtr.cycAt
    let s := s.setMtr (fun m => { m with cyc := [], cycAt := some s.now })
    match start with
    | none => s.setMtr (fun m => { m with ivCyc := 0, ivN := 0, ivSq := [], ivP := [], ivQ := [] })
    | some t =>
      if l.isEmpty || !s.mtrSees then s
      else
        let s := s.setMtr (fun m =>
          if t < m.fFrom then m else { m with fN := m.fN + 1, fDur := m.fDur + (s.now - t) })
        let c := cycleOf l
        let pt := cyclePtot l
        let d := s.now - t
        let sum (l : List Nat) : Nat := fAdd (fAdd (l.getD 0 0) (l.getD 1 0)) (l.getD 2 0)
        let s := if s.mtrOn && (s.mtrRef c).isSome then
            (s.each (List.range 3) (fun k s =>
              s.cycleEnergy k (c.p.getD k 0) (c.q.getD k 0) (c.s.getD k 0) d)).cycleEnergy 3 pt (sum c.q) (sum c.s) d
          else s
        let s := s.setMtr (fun m => { m with
          ivCyc := m.ivCyc + 1
          ivQ := if m.ivQ.isEmpty then c.q.map fScaled else m.ivQ.zipWith (· + ·) (c.q.map fScaled) })
        (s.postF 0x4411 pt).revCheck)

/-- METER_INTERVAL_END (R309, R315): after 10 cycles below 55 Hz, else after 12. -/
def execMeterIntervalEnd (s : State) : Host.Outcome State Fault Refusal :=
  s.mtrRun (fun s =>
    let m := s.mtr
    if m.ivCyc < (if fLt m.hz (fOfNat 55) then 10 else 12) then s
    else
      let rms := m.ivSq.map (fun x => rmsOf x m.ivN)
      let inMap := s.mtrMap 6
      let inV := if 16 ≤ inMap then 0 else if s.sdBad inMap then fNaN else rms.getD 6 0
      let p := m.ivP.map (fun x => meanOf x m.ivN)
      let q := m.ivQ.map (fun x => meanOf x m.ivCyc)
      let sa := (List.range 3).map (fun k => fMul (rms.getD k 0) (rms.getD (3 + k) 0))
      let sum (l : List Nat) : Nat := fAdd (fAdd (l.getD 0 0) (l.getD 1 0)) (l.getD 2 0)
      let vals := rms.take 6 ++ [inV] ++ p ++ q ++ [sum q, sum sa]
      let s := s.setMtr (fun m => { m with ivCyc := 0, ivN := 0, ivSq := [], ivP := [], ivQ := [] })
      s.posts (vals.mapIdx (fun j v => (0x4400 + j, v))))

/-- METER_FREQUENCY (R309): at each DT multiple of 10 s. With no whole cycle the frequency is a free value. -/
def execMeterFrequency (s : State) : Host.Outcome State Fault Refusal :=
  s.mtrRun (fun s =>
    let s := s.toDt ((s.dtNs / 10000000000 + 1) * 10000000000)
    let m := s.mtr
    let f := if m.fN = 0 then s.freeVal % 2 ^ 32 else fRatio false (m.fN * secH) m.fDur
    let s := s.useFree.setMtr (fun m => { m with fFrom := s.now, fN := 0, fDur := 0, hz := f })
    s.postF 0x4410 f)

/-- REV_POWER (R316): reverse power has held for REV_MS. -/
def execRevPower (s : State) : Host.Outcome State Fault Refusal :=
  s.mtrRun (fun s =>
    match s.mtr.revAt with
    | none => s
    | some t =>
      if s.rdB MTR.STAT_REV_ACTIVE then s
      else
        let s := s.toDt (t + s.rd MTR.REV_CFG_REV_MS * 1000000)
        let opened := s.rdB MTR.REV_CFG_OPEN
        let s := ((s.wrB MTR.STAT_REV_ACTIVE true).fltLevel fsRevPower 0 true).revRec 0 opened t
        s.when opened (·.contactorReq rqAcOpen 3 0))

/-! ### S0 inputs (R317, R318) -/

def State.s0 (s : State) (i : Nat) : S0St := tgetD s.mtr.s0 i {}
def State.setS0 (s : State) (i : Nat) (v : S0St) : State :=
  s.setMtr (fun m => { m with s0 := tput m.s0 i v {} })

/-- No reconciliation window in hand is clean any more. -/
def State.s0Unclean (s : State) : State :=
  s.each (List.range 4) (fun i s => s.setS0 i { s.s0 i with clean := false })

/-- STAT.LEVEL of input i: it is active now. -/
def State.s0Level (s : State) (i : Nat) : State :=
  s.wrB S0.STAT_LEVEL ((s.s0 i).level.any (· != s.rdB S0.CFG_POL i)) i

/-- Input i has kept the level of its last sample until now: for MIN_MS, an active one counts a pulse where it is armed,
and an inactive one arms it. -/
def State.s0Held (s : State) (i : Nat) : State :=
  let v := s.s0 i
  match v.level with
  | none => s
  | some high =>
    if s.now < v.since + s.rd S0.CFG_MIN_MS i * msH then s
    else if high = s.rdB S0.CFG_POL i then s.setS0 i { v with armed := true }
    else if v.armed && s.rdB S0.CFG_EN i then
      (s.setS0 i { v with armed := false, pulses := v.pulses + 1 }).wr S0.COUNT (s.rd S0.COUNT i + 1) i
    else s

/-- S0_PULSE (R317): input i is sampled at `at_` and found at a level; it has kept its earlier level until then. -/
def execS0Pulse (i : Nat) (high : Bool) (at_ : Nat) (s : State) : Host.Outcome State Fault Refusal :=
  s.runIf (i < 4) (fun s =>
    if !s.has 11 || !s.ready 43 then s
    else
      let s := (s.to at_).s0Held i
      let v := s.s0 i
      if v.level = some high then s else (s.setS0 i { v with level := some high, since := s.now }).s0Level i)

/-- A window of input i with n pulses, whose accumulator has risen by d, is a mismatch (R318), judged exactly. -/
def s0Bad (n d weight tol : Nat) : Bool :=
  let w := fScaled weight
  let diff : Int := (d : Int) * 100 * 2 ^ 149 - (n : Int) * w * 100000000
  decide (fScaled tol * (d : Int) + 2 * w * 100000000 < (diff.natAbs : Int))

/-- S0_WINDOW_END (R318): the next DT multiple of WIN_MIN minutes of input i. -/
def execS0WindowEnd (i : Nat) (s : State) : Host.Outcome State Fault Refusal :=
  s.runIf (i < 4) (fun s =>
    if !s.has 11 || !s.mainOn || !s.rdB S0.CFG_EN i then s
    else
      let w := s.rd S0.CFG_WIN_MIN i * 60000000000
      let s := s.toDt ((s.dtNs / w + 1) * w)
      let v := s.s0 i
      let qty := s.rd S0.CFG_QTY i
      let ok := v.clean && s.mtrOn && s.mtr.gap.isNone
      let d := (s.accVal qty + 2 ^ 96 - tgetD v.start qty 0) % 2 ^ 96
      let n := v.pulses
      let all := (List.range 32).foldl (fun t k => tput t k (s.accVal k) 0) ([] : Tbl Nat)
      let s := s.setS0 i { v with pulses := 0, start := all, clean := s.mtrOn && s.mtr.gap.isNone }
      if !ok then s.wr S0.STAT_SKIPPED (Nat.min (s.rd S0.STAT_SKIPPED i + 1) 65535) i
      else
        let dev := fRatio false d 1000000
        let s0 := fPackI ((n : Int) * fScaled (s.rd S0.WEIGHT i)) (-149)
        let s := (s.wr S0.LAST_DEV dev i).wr S0.LAST_S0 s0 i
        if s0Bad n d (s.rd S0.WEIGHT i) (s.rd S0.TOL i) then
          ((s.wrB S0.STAT_MISMATCH true i).post 0x71 [(1, 1, i), (8, 4, dev), (12, 4, s0), (16, 4, n)]).fltOccur
            fsMeter 3
        else s)

/-! ### Gaps (R322) -/

/-- MTR.GAP_MS. -/
def State.gapMs (s : State) : Nat :=
  let run := match s.mtr.gap with
    | some g => s.now - g.1
    | none => 0
  Nat.min ((s.mtr.gapH + run) / msH) max32

/-- Gaps are judged: one opens or ends, with METER_GAP. The cause of a gap with neither MAP_ERR nor a channel fault, in which
the unit is not ready or not restored, has no code: a free value (log 141). -/
def State.gapCheck (s : State) : State :=
  let en := s.rdB MTR.CFG_EN
  let mapErr := en && !s.mapOk
  let ch := if en then s.chFault else none
  let s := (s.fltLevel fsMeter 1 mapErr).fltLevel fsMeter 2 ch.isSome
  match s.mtr.gap with
  | none =>
    if !en || s.mtrOn then s
    else
      let cause := if mapErr then 0 else if ch.isSome then 1 else s.freeVal % 256
      let s := s.when (!mapErr && ch.isNone) (·.useFree)
      let c := if mapErr then 0 else ch.getD 0
      let s := (s.setMtr (fun m => { m with gap := some (s.now, cause, c), cyc := [], cycAt := none, got := [] })).s0Unclean
      s.post 0x74 [(2, 1, cause), (3, 1, c), (8, 4, s.gapMs)]
  | some g =>
    if en && !s.mtrOn then s
    else
      let s := s.setMtr (fun m => { m with gap := none, gapH := m.gapH + (s.now - g.1), got := [] })
      s.post 0x74 [(1, 1, 1), (2, 1, g.2.1), (3, 1, g.2.2), (8, 4, s.gapMs)]

/-- METER_GAP (R322): accumulation is found stopped or running again. -/
def execMeterGap (s : State) : Host.Outcome State Fault Refusal :=
  s.run (fun s => s.when (s.has 11 && s.mainOn) (·.gapCheck))

/-- MTR.CFG.EN or the readiness of the unit changes: no cycle or window in hand is whole, and a gap begins or ends with it
(R318, R322). -/
def State.mtrEnable (s : State) : State :=
  let s := (s.setMtr (fun m => { m with cyc := [], cycAt := none, got := [] })).s0Unclean
  s.when (s.has 11 && s.mainOn) (·.gapCheck)

/-- READY.MTR sets or clears: the S0 inputs are not sampled before their next sample. -/
def State.mtrReadiness (s : State) : State :=
  (s.each (List.range 4) (fun i s => (s.setS0 i { s.s0 i with level := none }).s0Level i)).mtrEnable

/-- EN or WIN_MIN of input i changes: its window in hand has no whole length (R318). -/
def State.s0Restart (s : State) (i : Nat) : State := s.setS0 i { s.s0 i with clean := false }

/-! ### Retention (R319 to R321) -/

/-- The LOST record as the registers hold it. -/
def State.lostRec (s : State) : LostRec :=
  if s.rdB MTR.STAT_LOST then
    { start := s.rd MTR.LOST_START, ns := s.rd MTR.LOST_NS, unc := s.rd MTR.LOST_UNC, case_ := s.rd MTR.LOST_INFO_CASE }
  else {}

/-- What an update carries of an increase: at most its w bits, and the rest goes with the next one (R411; DESIGN CHOICE,
log 141). -/
def carried (inc w : Nat) : Nat := Nat.min inc (2 ^ w - 1)

/-- The increases since the previous transfer are sent to Cloche; with no credit they stay for the next one. The partial
interval of a power-fail warning (`pf`) has no next one: it waits behind the four for its credit. -/
def State.retSend (s : State) (pf : Bool) : State :=
  let full := decide (4 ≤ s.clo.queue.length)
  let s := s.when full (·.stallCount 87)
  if full && !pf then s
  else
    let acc := (List.range 32).foldl (fun t i =>
      tput t i (carried ((s.accVal i + 2 ^ 96 - tgetD s.mtr.sent i 0) % 2 ^ 96) 48) 0) ([] : Tbl Nat)
    let s0 := (List.range 4).foldl (fun t i =>
      tput t i (carried ((s.rd S0.COUNT i + 2 ^ 32 - tgetD s.mtr.s0sent i 0) % 2 ^ 32) 16) 0) ([] : Tbl Nat)
    let u : RetUpd :=
      { acc := acc, s0 := s0, dt := s.dtNs, rated := if s.mtr.ratedNew then some (s.rd MTR.RATED) else none
        lost := s.lostRec, pf := pf }
    let s := s.setClo (fun c => { c with queue := c.queue ++ [u] })
    let s := s.setMtr (fun m => { m with
      ratedNew := false
      sent := (List.range 32).foldl (fun t i => tput t i ((tgetD m.sent i 0 + tgetD acc i 0) % 2 ^ 96) 0) []
      s0sent := (List.range 4).foldl (fun t i => tput t i ((tgetD m.s0sent i 0 + tgetD s0 i 0) % 2 ^ 32) 0) [] })
    s.queueHolds 87 (Nat.min 4 s.clo.queue.length)

/-- RETENTION_TRANSFER (R319): the next DT multiple of 10 ms. -/
def execRetentionTransfer (s : State) : Host.Outcome State Fault Refusal :=
  s.mtrRun (fun s =>
    if !s.mtr.restored then s
    else (s.toDt ((s.dtNs / 10000000 + 1) * 10000000)).retSend false)

/-- ⌈v⌉ of a value that is not negative, at most 2⁶⁴ − 1. -/
def ceil64 : FVal → Nat
  | .fin _ m e =>
    Nat.min (2 ^ 64 - 1) (if 0 ≤ e then m <<< e.toNat else ceilDiv m (2 ^ (-e).toNat))
  | _ => 2 ^ 64 - 1

/-- RATED × an interval of ns, in LSB, in binary64 and rounded up (R321). -/
def lostUnc (rated ns : Nat) : Nat := ceil64 (dDivN (dMul (fOpen rated) (dRound (.fin false ns 0))) 3600000)

/-- The LOST record takes its place in the registers and in Cloche; one not acknowledged is replaced. -/
def State.lostSet (s : State) (overrun : Bool) (l : LostRec) : State :=
  let s := ((s.wr MTR.LOST_START l.start).wr MTR.LOST_NS l.ns).wr MTR.LOST_UNC l.unc
  let s := ((s.wr MTR.LOST_INFO_CASE l.case_).wrB MTR.LOST_INFO_OVERRUN overrun).wrB MTR.STAT_LOST (l.case_ ≠ 0)
  s.setClo (fun c => { c with lost := l })

/-- The accumulators and S0 counts take these contents (R321). -/
def State.mtrLoad (s : State) (acc s0 : Tbl Nat) (rated : Nat) : State :=
  let s := s.each (List.range 4) (fun i s => s.wr S0.COUNT (tgetD s0 i 0) i)
  let s := (s.wr MTR.RATED rated).setMtr (fun m => { m with
    acc := acc.map (fun p => (p.1, p.2 * 2 ^ 32)), sent := acc, s0sent := s0, restored := true })
  (s.setClo (fun c => { c with acc := acc, s0 := s0, rated := rated })).s0Unclean

/-- METER_RESTORE (R321, Table 13.7): once READY.CLO is set. In CASE 3 the start of the lost interval is stated
nowhere: a free value. -/
def execMeterRestore (s : State) : Host.Outcome State Fault Refusal :=
  s.run (fun s =>
    if !s.has 11 || !s.ready 3 || s.mtr.restored then s
    else
      let c := s.clo
      let wasPf := s.rdB CLO.STAT_PF_DONE
      let go (s : State) (case_ : Nat) (old : LostRec) (l : LostRec) : State :=
        let s := s.lostSet (decide (case_ ≠ 0 ∧ old.case_ ≠ 0)) (if case_ = 0 then old else l)
        let s := (s.wrB MTR.STAT_PF_INCOMPLETE (case_ = 1)).post 0x72 [(1, 1, case_), (8, 8, l.ns), (16, 8, l.unc)]
        let s := s.when (case_ ≠ 0) (·.fltOccur fsMeter 4)
        ((s.wrB CLO.STAT_LOST false).wrB CLO.STAT_PF_DONE false).when s.mainOn (·.gapCheck)
      if !s.rdB CLO.STAT_LOST then
        let s := s.mtrLoad c.acc c.s0 c.rated
        if wasPf then go s 0 c.lost {}
        else go s 1 c.lost { start := c.dt, ns := 10000000, unc := lostUnc c.rated 10000000, case_ := 1 }
      else
        match c.newest with
        | some f =>
          let s := s.mtrLoad f.acc f.s0 f.rated
          if s.rdB CLO.STAT_RTC_VALID then
            let ns := s.rtcNow - (s.now - s.mm.goodAt) * 5 / 64 - f.dt
            go s.useFree 2 f.lost { start := f.dt, ns := ns, unc := lostUnc f.rated ns, case_ := 2 }
          else go (s.setMtr (fun m => { m with lostFrom := some (f.dt, f.rated) })) 2 f.lost { start := f.dt, case_ := 2 }
        | none =>
          let v := s.freeVal
          go (s.useFree.mtrLoad [] [] 0x4B189680) 3 {} { start := v % 2 ^ 64, unc := 2 ^ 64 - 1, case_ := 3 })

/-- The first PTP-disciplined DT after WAKE ends a lost interval that waits for it (R321). -/
def State.lostLock (s : State) : State :=
  match s.mtr.lostFrom with
  | none => s
  | some (dt, rated) =>
    let ns := s.dtNs - dt
    let s := s.setMtr (fun m => { m with lostFrom := none })
    if s.rdB MTR.STAT_LOST && s.rd MTR.LOST_INFO_CASE = 2 then
      let u := lostUnc rated ns
      ((s.wr MTR.LOST_NS ns).wr MTR.LOST_UNC u).setClo (fun c => { c with lost := { c.lost with ns := ns, unc := u } })
    else s

/-! ### Seal (R308) -/

/-- MTR.CALCRC: the CRC-32 over MAP0, MAP1 and the 28 CH words. -/
def State.calCrc (s : State) : Nat :=
  let w (o : Nat) : List Nat := leBytes (s.word (MTR.flds ++ CH.flds) o) 4
  crc32 (w 0x0F0008 ++ w 0x0F000C ++
    (List.range 7).flatMap (fun c => (List.range 4).flatMap (fun k => w (0x0F0080 + 0x10 * c + 4 * k))))

/-- A write of 1 to MTR.CFG.SEAL. -/
def State.mtrSeal (s : State) : State := s.wrB MTR.CFG_SEAL true

/-- SEAL (R308). -/
def execSeal (s : State) : Host.Outcome State Fault Refusal :=
  s.run (fun s => s.bridgeWrite 79 MTR.CFG_SEAL 0 0 1 (fun s => if s.has 11 then s.mtrSeal else s))

/-! ### Opcodes (R324) -/

/-- The snapshot record (Table 13.4). -/
def State.snapRecord (s : State) (n : Nat) : List Nat :=
  let flags := s.rd MTR.STAT_LOST + 2 * b2n s.mtr.gap.isSome + 4 * s.rd MTR.CFG_SEAL
  [0x4D, 0x54, 0x52, 0x53] ++ leBytes 0x0100 2 ++ leBytes flags 2 ++ leBytes s.mtr.lastDt 8 ++
    leBytes s.clo.commitDt 8 ++ leBytes s.clo.seq 4 ++ leBytes n 4 ++
    (List.range 4).flatMap (fun i => leBytes (s.rd S0.COUNT i) 4) ++ leBytes s.gapMs 4 ++ leBytes 0 12 ++
    (List.range 32).flatMap (fun i => leBytes (s.accVal i) 12 ++ leBytes 0 4)

/-- MTR_SNAPSHOT: opcode 0x70 (R314). -/
def execMtrSnapshot (q : Nat) (s : State) : Host.Outcome State Fault Refusal :=
  s.cmdHost q 0x70 (fun x _ s =>
    let n := (s.mtr.snap + 1) % 2 ^ 32
    ((s.setMtr (fun m => { m with snap := n })).hostPut x.d.ptr (s.snapRecord n)).complete q stOk n)

/-- MTR_LOST_ACK: opcode 0x71 (R321). -/
def execMtrLostAck (q : Nat) (s : State) : Host.Outcome State Fault Refusal :=
  s.cmd q 0x71 (fun _ _ s =>
    let c := if s.rdB MTR.STAT_LOST then s.rd MTR.LOST_INFO_CASE else 0
    ((s.lostSet false {}).setMtr (fun m => { m with lostFrom := none })).complete q stOk c)

/-- MTR_COMMIT_NOW: opcode 0x72; it ends when the commit has been written or deferred. -/
def execMtrCommitNow (q : Nat) (s : State) : Host.Outcome State Fault Refusal :=
  s.cmd q 0x72 (fun _ _ s =>
    ((s.cmdWaits q).setClo (fun c => { c with rings := c.rings ++ [q] })).commitDue)

end Sys2Proof.Machine
end

