-- ==== Sys2Proof/Machine/Hoe.lean ====
section
/-!
DEFINITION. Hoe, the background upkeep (R368 to R371): die temperature and shedding, comparator trims, telemetry and
the clock drift monitor. The scrub is in Machine/Mem.lean, the map ageing in Machine/Trellis.lean, TEL_NOW in
Machine/Opcodes.lean.
-/
namespace Sys2Proof.Machine

/-- The die temperature: the highest of SP 0x002C0 to SP 0x002D1. -/
def State.dieTemp (s : State) : Nat :=
  (List.range 17).foldl (fun a i => fMax a (s.sp (0x2C1 + i))) (s.sp 0x2C0)

/-- HOE_STATE (Table 16.13). -/
def State.hoeState (s : State) (what task : Nat) : State := s.post 0x91 [(1, 1, what), (2, 1, task)]

/-- What the die temperature brings about: TJ_MAX, FS190 and FS191, shedding and its end (R369). The task a shed or
a resume names is stated nowhere: a free value (log 31). -/
def State.tempActs (s : State) : State :=
  let t := s.dieTemp
  let s := if fLt (s.rd HOE.TJ_MAX) t then s.wr HOE.TJ_MAX t else s
  let high := if s.flt.tjHigh then fGe t (fOfNat 120) else fGe t (fOfNat 125)
  let sev := if s.flt.tjSevere then fGe t (fOfNat 130) else fGe t (fOfNat 135)
  let s := { s with flt := { s.flt with tjHigh := high, tjSevere := sev } }
  let s := (s.fltLevel fsTjHigh 0 high).fltLevel fsTjSevere 0 sev
  if s.rdB HOE.STAT_SHED = high then s
  else ((s.wrB HOE.STAT_SHED high).hoeState (if high then 0 else 1) s.freeVal).useFree

/-- ADC_RECALIBRATION (R169, R369): Hoe begins to convert the references and the die-temperature sensor of core c in a
slot time, where it may; or, where such a conversion is in progress, it ends and the sensor reads `temp` (binary32 °C).
What the trims change stays within the stated accuracy. The conversion is one slot long (DESIGN CHOICE, log 134). -/
def execAdcRecalibration (c temp at_ : Nat) (s : State) : Host.Outcome State Fault Refusal :=
  s.runIf (c < 18) (fun s =>
    let s := s.to at_
    match (s.core c).hoe with
    | some a =>
      let s := (s.to (a + 3200)).hoeStop c
      if s.mgmtHalted then s else ((s.postF (0x2C0 + c) temp).tempActs).hoeDone 1
    | none =>
      if s.hoeRuns && s.ready (14 + c) && s.hoeMay c then
        (s.wrB CORE.STAT_HOE true c).setCore c { s.core c with hoe := some s.now }
      else s)

/-- COMPARATOR_RECALIBRATION (R138, Table 16.6): the threshold of window w moves by at most 1 code. -/
def execComparatorRecalibration (w : Nat) (s : State) : Host.Outcome State Fault Refusal :=
  s.runIf (w < 224) (fun s =>
    if !s.hoeRuns then s
    else
      let c := s.cw w
      ((s.setCw w { c with trim := clampI (-1024) 1024 (c.trim + s.freeErr 256) }).useFree).hoeDone 2)

/-- NVM_WEAR_LEVELLING (R368): the log sector has been levelled; nothing else shows it. -/
def execNvmWearLevelling (s : State) : Host.Outcome State Fault Refusal :=
  s.run (fun s => if !s.hoeRuns || s.rdB HOE.STAT_SHED then s else s.hoeDone 3)

/-- A TELEMETRY record. -/
def State.telemetry (s : State) : State :=
  s.post 0x90 [(8, 8, s.dtNs), (16, 4, s.dieTemp), (20, 2, s.rd ESP.STAT_TASKS), (22, 2, s.rd ESP.TASK_HWM),
    (24, 4, s.rd HOE.DRIFT)]

/-- TELEMETRY (R368): TEL_MS after the last record. -/
def execTelemetry (s : State) : Host.Outcome State Fault Refusal :=
  s.run (fun s =>
    if !s.hoeRuns || !s.rdB HOE.CFG_TEL_EN || s.rdB HOE.STAT_SHED then s
    else
      let s := s.to (s.hoe.telAt + s.rd HOE.CFG_TEL_MS * msH)
      ({ s with hoe := { s.hoe with telAt := s.now } }).telemetry.hoeDone 4)

/-- DRIFT_MONITOR (R371): the advance of the free-running REFCLK against that of DT over a second, while PTP is
locked; positive when REFCLK runs fast. -/
def execDriftMonitor (s : State) : Host.Outcome State Fault Refusal :=
  s.run (fun s =>
    if !s.hoeRuns || !s.ready 13 then { s with hoe := { s.hoe with drift := none } }
    else
      match s.hoe.drift with
      | none => { s with hoe := { s.hoe with drift := some (s.now, s.dt) } }
      | some (t, d) =>
        let s := s.to (t + secH)
        let ref : Nat := (s.now - t) * 5 * 2 ^ 26
        let err : Int := (((ref : Nat) : Int) - ((s.dt : Int) - d)) * 1000000000
        let e := fRatI err (Nat.max 1 ref)
        let s := { s with hoe := { s.hoe with drift := some (s.now, s.dt) } }
        ((s.wr HOE.DRIFT e).fltLevel fsClkDrift 0 (fGt (fAbs e) (fOfNat (s.rd HOE.DRIFT_THR)))).hoeDone 6)

/-- The end of the period in which task i has to complete a pass (Table 16.6), where it has one to make: wear levelling has
no period. -/
def State.hoeDue (s : State) (i : Nat) : Option Nat :=
  let since := tgetD s.hoe.last i 0 |> Nat.max s.hoe.startAt
  match i with
  | 0 => s.mem.scrubAt.map (· + s.mem.scrubH * 3600 * secH)
  | 1 => some (since + 100 * msH)
  | 2 => some (since + secH)
  | 4 => if s.rdB HOE.CFG_TEL_EN then some (s.hoe.telAt + s.rd HOE.CFG_TEL_MS * msH) else none
  | 5 => if s.has 10 then some s.hoe.ageAt else none
  | 6 => if s.ready 13 then s.hoe.drift.map (·.1 + secH) else none
  | _ => none

/-- HOE_OVERRUN (R370): the period of task i ends without a completed pass; once for each pass that is late. -/
def execHoeOverrun (i : Nat) (s : State) : Host.Outcome State Fault Refusal :=
  s.runIf (i < 7) (fun s =>
    match s.hoeDue i with
    | none => s
    | some t =>
      if !s.hoeRuns || s.hoe.late.contains i then s
      else
        let s := { s.to t with hoe := { (s.to t).hoe with late := s.hoe.late ++ [i] } }
        ((s.wr HOE.STAT_OVR (putBits (s.rd HOE.STAT_OVR) i 1 1)).fltOccur fsHoeOverrun i).hoeState 2 i)

/-- Hoe starts with READY.HOE. -/
def State.hoeStart (s : State) : State :=
  { s with hoe := { ageAt := s.now + 3600 * secH, telAt := s.now, startAt := s.now } }

end Sys2Proof.Machine
end

