-- ==== Sys2Proof/Machine/GraphImage.lean ====
section
/-!
DEFINITION. The graph image (R209): its entries, the checks of Table 8.11 in the order of their codes, the load
U (R201) and the PWO path (R202). A failing check gives its code and the byte offset of its first failing
item.
-/
namespace Sys2Proof.Machine

/-- A node type of Table 8.4 with the layouts of Tables 9.5, 10.1 and 11.7: least and most inputs, outputs,
coefficients, states, COST, and the bits of PARAM in use. -/
structure NodeRow where
  lo : Nat
  hi : Nat
  outs : Nat
  coefs : Nat
  states : Nat
  cost : Nat
  mask : Nat

/-- The row of a type, for a PARAM and a number of inputs. -/
def nodeRow (type p k : Nat) : Option NodeRow :=
  match type with
  | 0x01 => some ⟨1, 1, 1, 5, 2, 6, 0⟩
  | 0x02 => let n := bits p 0 3 + 1; some ⟨1, 1, 1, 1 + 5 * n, 2 * n, 2 + 5 * n, 0x7⟩
  | 0x03 => some ⟨3, 3, 1, 6, 4, 24, 0x7F⟩
  | 0x04 => some ⟨1, 1, 2, 3, 0, 4, 0⟩
  | 0x05 => some ⟨1, 8, 1, k + 1, 0, 2 + k, 0⟩
  | 0x06 => some ⟨2, 2, 1, 1, 0, if bit p 0 then 6 else 4, 0x1⟩
  | 0x07 => some ⟨2, 8, 1, 0, 0, 3, 0x3⟩
  | 0x08 => some ⟨1, 1, 1, 3 + bits p 0 8, 0, 8, 0xFF⟩
  | 0x09 => let n := if bit p 0 then 2 else 3; some ⟨n, n, 3, 0, 0, 6, 0x1⟩
  | 0x0A => some ⟨3, 3, 2, 0, 0, 10, 0x1⟩
  | 0x0B => some ⟨2, 2, 3, 5, 5, 60, 0⟩
  | 0x0C => some ⟨4, 4, 2, 3, 2, 40, 0⟩
  | 0x0D => some ⟨5, 5, 2, 3, 0, 8, 0⟩
  | 0x0E => some ⟨3, 3, 4, 6, 4, 14, 0⟩
  | 0x0F => some ⟨5, 5, 3, 6, 2, 16, 0x7F⟩
  | 0x10 => some ⟨1, 1, 1, 2, 1, 5, 0⟩
  | 0x11 => some ⟨1, 1, 2, 0, 0, 20, 0x3⟩
  | 0x12 => some ⟨5, 5, 6, 2, 10, 30, 0xFF⟩
  | 0x13 => some ⟨0, 0, 4, 0, 0, 6, 0⟩
  | 0x14 => some ⟨3, 3, 4, 10, 14, 40, 0x1F⟩
  | 0x15 => some ⟨1, 1, 4, 4, 3, 12, 0x7F⟩
  | 0x16 => let n := if bits p 8 2 = 2 then 2 else 1; some ⟨n, n, 4, 0, 1, 8, 0x37F⟩
  | 0x17 => some ⟨1, 64, 0, 0, 0, 2 + ceilDiv k 8, 0xF⟩
  | 0x18 => some ⟨1, 1, 0, 1, 1, 4, 0xFF⟩
  | _ => none

/-- A node entry as read, before its edges are attached. -/
structure RawNode where
  at_ : Nat
  cfg : NodeCfg
  nIn : Nat
  first : Nat

/-- The header's fields that the checks use. -/
structure ImageHdr where
  total : Nat
  nNodes : Nat
  nCad : Nat
  nEdges : Nat
  nodeOff : Nat
  edgeOff : Nat
  cadOff : Nat
  initOff : Nat
  nInit : Nat
  load : Nat
  path : Nat
  id : Nat

/-- A rejection: the code of Table 8.11 and the offset. -/
abbrev Reject := Nat × Nat

/-- The lowest offset of a list of failing ones, with the code. -/
def failAt (code : Nat) (l : List Nat) : Option Reject :=
  match l with
  | [] => none
  | x :: xs => some (code, xs.foldl Nat.min x)

def imageHdr (b : List Nat) : ImageHdr :=
  ⟨leAt b 8 4, leAt b 12 2, leAt b 14 1, leAt b 16 4, leAt b 20 4, leAt b 24 4, leAt b 28 4, leAt b 32 4,
    leAt b 36 4, leAt b 40 4, leAt b 44 2, leAt b 48 4⟩

def readNode (b : List Nat) (o : Nat) : RawNode :=
  let e := (b.drop o).take 32
  ⟨o,
    { type := leAt e 0 1, cad := leAt e 1 1, nOut := leAt e 3 1, edges := [], nState := leAt e 6 1
      outBase := bits (leAt e 8 4) 0 18, stateBase := bits (leAt e 12 4) 0 18
      coefBase := bits (leAt e 16 4) 0 18, nCoef := leAt e 20 2, cost := leAt e 22 2, param := leAt e 24 4 },
    leAt e 2 1, leAt e 4 2⟩

def readEdge (b : List Nat) (o : Nat) : EdgeCfg :=
  let w := leAt b o 4
  ⟨bits w 30 2, bits w 0 18, leAt b (o + 4) 2⟩

def readCad (b : List Nat) (o : Nat) : CadCfg :=
  let k := leAt b (o + 1) 1
  ⟨leAt b o 1, bit k 7, bits k 0 2, leAt b (o + 2) 2, leAt b (o + 4) 4, leAt b (o + 8) 4⟩

/-- MAGIC, VERSION, LENGTH and CRC. -/
def checkFrame (b : List Nat) (len : Nat) (h : ImageHdr) : Option Reject :=
  let bad (o n : Nat) : Bool := decide (o % 8 ≠ 0) || decide (h.total < o + n + 4)
  let tables := 64 + 32 * h.nNodes + 8 * h.nEdges + 32 * h.nCad
  if leAt b 0 4 ≠ 0x47505345 then some (0x01, 0)
  else if leAt b 4 2 ≠ 0x0100 then some (0x02, 4)
  else if h.total ≠ len || h.total < 68 || 0x200000 < h.total then some (0x03, 8)
  else
    match failAt 0x03 ((if bad h.nodeOff (32 * h.nNodes) then [20] else []) ++
        (if bad h.edgeOff (8 * h.nEdges) then [24] else []) ++ (if bad h.cadOff (32 * h.nCad) then [28] else []) ++
        (if bad h.initOff (8 * h.nInit) then [32] else []) ++ (if 0x80000 < tables then [12] else [])) with
    | some r => some r
    | none =>
      if crc32 (b.take (h.total - 4)) ≠ leAt b (h.total - 4) 4 then some (0x04, h.total - 4) else none

/-- COUNT and TYPE. -/
def checkCounts (h : ImageHdr) (ns : List RawNode) : Option Reject :=
  let node (n : RawNode) : List Nat :=
    match nodeRow n.cfg.type n.cfg.param n.nIn with
    | none => []
    | some r =>
      if n.nIn < r.lo || r.hi < n.nIn then [n.at_ + 2]
      else if n.cfg.nOut ≠ r.outs then [n.at_ + 3]
      else if h.nEdges < n.first + n.nIn then [n.at_ + 4]
      else if n.cfg.nState ≠ r.states then [n.at_ + 6]
      else if n.cfg.nCoef ≠ r.coefs then [n.at_ + 20]
      else []
  match failAt 0x05 ((if h.nNodes = 0 || 4096 < h.nNodes then [12] else []) ++
      (if h.nCad = 0 || 64 < h.nCad then [14] else []) ++ (if 32768 < h.nEdges then [16] else []) ++
      ns.flatMap node) with
  | some r => some r
  | none => failAt 0x06 ((ns.filter (fun n => (nodeRow n.cfg.type n.cfg.param n.nIn).isNone)).map (·.at_))

/-- ARG of a cadence is defined for its SRC (Table 8.2); unused bits are 0. -/
def argOk (src a nCad : Nat) : Bool :=
  match src with
  | 1 => decide (a < 4096) && a % 16 = 0 && decide (a / 128 < 18)
  | 2 => decide (a < 32) && bits a 3 2 ≠ 0
  | 3 => a < 96
  | 4 => a < 16
  | 5 => a < 16
  | 6 => a < nCad
  | 7 => a = 0
  | _ => false

/-- CADENCE; a reserved field that is not 0, wherever it stands, has no other code (DEDUCED, log 23). -/
def checkCads (b : List Nat) (h : ImageHdr) (ns : List RawNode) : Option Reject :=
  let cad (o : Nat) : List Nat :=
    let c := readCad b o
    if c.src = 0 || 7 < c.src then [o]
    else if bits (leAt b (o + 1) 1) 2 5 ≠ 0 then [o + 1]
    else if c.div = 0 then [o + 2]
    else if !argOk c.src c.arg h.nCad then [o + 4]
    else if !fFinite c.rate || !fLt 0 c.rate then [o + 8]
    else if leAt b (o + 12) 20 ≠ 0 then [o + 12]
    else []
  let hdr := [(6, 2), (15, 1), (46, 2), (52, 12)].flatMap (fun p => if leAt b p.1 p.2 ≠ 0 then [p.1] else [])
  let node (n : RawNode) : List Nat :=
    if h.nCad ≤ n.cfg.cad then [n.at_ + 1]
    else if leAt b (n.at_ + 7) 1 ≠ 0 then [n.at_ + 7]
    else if bits (leAt b (n.at_ + 8) 4) 18 14 ≠ 0 then [n.at_ + 8]
    else if bits (leAt b (n.at_ + 12) 4) 18 14 ≠ 0 then [n.at_ + 12]
    else if bits (leAt b (n.at_ + 16) 4) 18 14 ≠ 0 then [n.at_ + 16]
    else if leAt b (n.at_ + 28) 4 ≠ 0 then [n.at_ + 28]
    else []
  let edge (o : Nat) : List Nat :=
    if bits (leAt b o 4) 18 12 ≠ 0 then [o] else if leAt b (o + 6) 2 ≠ 0 then [o + 6] else []
  let init (o : Nat) : List Nat := if bits (leAt b o 4) 18 14 ≠ 0 then [o] else []
  failAt 0x07 (hdr ++ (List.range h.nCad).flatMap (fun c => cad (h.cadOff + 32 * c)) ++ ns.flatMap node ++
    (List.range h.nEdges).flatMap (fun e => edge (h.edgeOff + 8 * e)) ++
    (List.range h.nInit).flatMap (fun i => init (h.initOff + 8 * i)))

/-- The point is an output of the node. -/
def NodeCfg.writes (n : NodeCfg) (p : Nat) : Bool := n.outBase ≤ p && p < n.outBase + n.nOut

def inSensor (p : Nat) : Bool := p < 0x4000
/-- Set-points are read as SNAP whatever the KIND (R187). -/
def inSetpoint (p : Nat) : Bool := 0x30000 ≤ p && p < 0x34000

/-- EDGE (Table 8.9). -/
def checkEdges (h : ImageHdr) (ns : List RawNode) : Option Reject :=
  let arr := ns.map (·.cfg)
  let edge (n : RawNode) (e : EdgeCfg × Nat) : List Nat :=
    let o := h.edgeOff + 8 * (n.first + e.2)
    let x := e.1
    if x.node = 0xFFFF then
      if inSetpoint x.src then []
      else if (x.kind = 0 && !inSensor x.src) || x.kind = 2 then [o] else []
    else
      match arr[x.node]? with
      | none => [o + 4]
      | some m =>
        if !m.writes x.src then [o + 4]
        else if (x.kind = 0 || x.kind = 2) && m.cad ≠ n.cfg.cad then [o + 4] else []
  failAt 0x08 (ns.flatMap (fun n => n.cfg.edges.zipIdx.flatMap (edge n)))

/-- Keep, n times, the items that still have both a predecessor and a successor among those kept. -/
def knot (preds : List (List Nat)) : Nat → List Nat → List Nat
  | 0, l => l
  | n + 1, l =>
    knot preds n (l.filter (fun i => (preds.getD i []).any l.contains && l.any (fun j => (preds.getD j []).contains i)))

/-- The producers of a node's SYNC inputs. -/
def NodeCfg.syncPreds (n : NodeCfg) : List Nat :=
  (n.edges.filter (fun e => e.kind = 0 && e.node ≠ 0xFFFF)).map (·.node)

/-- CYCLE: of SYNC edges, or of CHAIN triggers. -/
def checkCycle (h : ImageHdr) (ns : List RawNode) (cs : List CadCfg) : Option Reject :=
  let loopN := knot (ns.map (·.cfg.syncPreds)) ns.length (List.range ns.length)
  let chain := cs.map (fun c => if c.src = 6 then [c.arg] else [])
  let loopC := knot chain cs.length (List.range cs.length)
  failAt 0x09 (loopN.map (fun i => h.nodeOff + 32 * i) ++ loopC.map (fun c => h.cadOff + 32 * c))

/-- n points from base on lie within lo to hi. -/
def within (base n lo hi : Nat) : Bool := n = 0 || (lo ≤ base && base + n ≤ hi + 1)

/-- PLACEMENT. -/
def checkPlaces (ns : List RawNode) : Option Reject :=
  let pts (n : NodeCfg) : List Nat :=
    (List.range n.nOut).map (n.outBase + ·) ++ (List.range n.nState).map (n.stateBase + ·)
  let node (p : RawNode × Nat) : List Nat :=
    let n := p.1.cfg
    let o := p.1.at_
    if !(within n.outBase n.nOut 0x5000 0x1FFFF || within n.outBase n.nOut 0x34000 0x3FFFF) then [o + 8]
    else if !within n.stateBase n.nState 0x5000 0x1FFFF then [o + 12]
    else if !within n.coefBase n.nCoef 0x20000 0x2FFFF
        || (n.nCoef ≠ 0 && 0x2FC00 < n.coefBase + n.nCoef && n.coefBase < 0x2FC00 + 352) then [o + 16]
    else if (ns.take p.2).any (fun m => (pts m.cfg).any (pts n).contains) then [o + 8]
    else []
  failAt 0x0A (ns.zipIdx.flatMap node)

/-- PWO, RPC and COST. -/
def checkTypes (ns : List RawNode) (cs : List CadCfg) : Option Reject :=
  let dup (t : Nat → Bool) (p : RawNode × Nat) (key : Nat → Nat) : Bool :=
    (ns.take p.2).any (fun m => t m.cfg.type && key m.cfg.param = key p.1.cfg.param)
  let pwo (p : RawNode × Nat) : List Nat :=
    let n := p.1.cfg
    if n.type ≠ 0x16 then []
    else if !(cs.getD n.cad ⟨0, false, 0, 0, 0, 0⟩).loop then [p.1.at_ + 1]
    else if !within n.outBase 4 0x4000 0x1FFFF then [p.1.at_ + 8]
    else if 96 ≤ bits n.param 0 7 || bits n.param 8 2 = 3 || dup (· = 0x16) p (bits · 0 7) then [p.1.at_ + 24]
    else []
  let tab (t : Nat) : Bool := t = 0x03 || t = 0x12
  let rpc (p : RawNode × Nat) : List Nat :=
    if tab p.1.cfg.type && (96 ≤ bits p.1.cfg.param 0 7 || dup tab p (bits · 0 7)) then [p.1.at_ + 24] else []
  let cost (n : RawNode) : List Nat :=
    match nodeRow n.cfg.type n.cfg.param n.nIn with
    | some r => if n.cfg.cost ≠ r.cost then [n.at_ + 22] else []
    | none => []
  match failAt 0x0B (ns.zipIdx.flatMap pwo) with
  | some r => some r
  | none => match failAt 0x0C (ns.zipIdx.flatMap rpc) with
    | some r => some r
    | none => failAt 0x0D (ns.flatMap cost)

/-- U in binary64 (R201). -/
def imageLoad (ns : List NodeCfg) (cs : List CadCfg) : FVal :=
  let sum := cs.zipIdx.foldl (fun a c =>
    let k := ((ns.filter (fun n => n.cad = c.2)).map (·.cost)).foldl (· + ·) 0
    dAdd a (dMul (fOpen c.1.rate) (.fin false k 0))) (.fin false 0 0)
  dDivN sum 4000000000

/-- rne(U × 65,536). -/
def loadCode (u : FVal) : Nat :=
  match u with
  | .fin _ m e =>
    if e + 16 ≥ 0 then m <<< (e + 16).toNat else (rneDiv m (2 ^ (-(e + 16)).toNat)).toNat
  | _ => 0

/-- U exceeds 1. -/
def loadOver (u : FVal) : Bool :=
  match u with
  | .fin _ m e => if e ≥ 0 then 1 < m <<< e.toNat else 2 ^ (-e).toNat < m
  | _ => true

/-- The longest Σ (48 + COST) over chains of SYNC edges of at most n nodes, by node. -/
def pathsUpTo (ns : List NodeCfg) : Nat → List Nat
  | 0 => ns.map (fun _ => 0)
  | n + 1 =>
    let l := pathsUpTo ns n
    ns.map (fun x => 48 + x.cost + (x.syncPreds.map (fun i => l.getD i 0)).foldl Nat.max 0)

/-- PATH_MAX: a chain of 17 nodes already exceeds 800 cycles. -/
def pathMax (ns : List NodeCfg) : Nat :=
  ((ns.zip (pathsUpTo ns 17)).map (fun p => if p.1.type = 0x16 then p.2 else 0)).foldl Nat.max 0

/-- PARAM and INIT. An initialiser
on a calibration point is rejected, as Table 8.11 says under 0x11, where R170 has it ignored (DESIGN CHOICE, log 149). -/
def checkParams (b : List Nat) (h : ImageHdr) (ns : List RawNode) : Option Reject :=
  let same (p : RawNode × Nat) (f : NodeCfg → Bool) : Bool := (ns.take p.2).any (fun m => f m.cfg)
  let node (p : RawNode × Nat) : List Nat :=
    let n := p.1.cfg
    let mask := match nodeRow n.type n.param p.1.nIn with
      | some r => r.mask
      | none => 0
    let bad :=
      n.param &&& mask ≠ n.param || (n.type = 0x07 && bits n.param 0 2 = 3) || (n.type = 0x08 && n.param = 0)
        || ((n.type = 0x0F || n.type = 0x15) && 96 ≤ n.param)
        || (n.type = 0x11 && same p (fun m => m.type = 0x11 && m.param = n.param))
        || (n.type = 0x12 && bit n.param 7 && same p (fun m => m.type = 0x12 && bit m.param 7))
        || (n.type = 0x14 && (24 ≤ n.param || same p (fun m => m.type = 0x14 && m.param = n.param)))
    if bad then [p.1.at_ + 24] else []
  let init (o : Nat) : List Nat :=
    let p := leAt b o 4
    if p < 0x4000 || (0x4000 ≤ p && p < 0x5000) || (0x2FC00 ≤ p && p < 0x2FC00 + 352) then [o] else []
  match failAt 0x10 (ns.zipIdx.flatMap node) with
  | some r => some r
  | none => failAt 0x11 ((List.range h.nInit).flatMap (fun i => init (h.initOff + 8 * i)))

/-- The first of two checks that fails. -/
def orFail (a : Option Reject) (b : Unit → Option Reject) : Option Reject :=
  match a with
  | some r => some r
  | none => b ()

/-- A graph image that passes, with its LOAD, or the first check that fails. -/
def checkImage (b : List Nat) (len : Nat) : Reject ⊕ (Graph × Nat) :=
  let h := imageHdr b
  match checkFrame b len h with
  | some r => .inl r
  | none =>
    let raw := if h.nNodes ≤ 4096 then (List.range h.nNodes).map (fun i => readNode b (h.nodeOff + 32 * i)) else []
    let ns := raw.map (fun n => { n with cfg := { n.cfg with
      edges := (List.range n.nIn).map (fun j => readEdge b (h.edgeOff + 8 * (n.first + j))) } })
    let cs := (List.range h.nCad).map (fun c => readCad b (h.cadOff + 32 * c))
    let cfgs := ns.map (·.cfg)
    let u := imageLoad cfgs cs
    let l := loadCode u
    let pm := pathMax cfgs
    match orFail (checkCounts h ns) (fun _ => orFail (checkCads b h ns) (fun _ => orFail (checkEdges h ns) (fun _ =>
      orFail (checkCycle h ns cs) (fun _ => orFail (checkPlaces ns) (fun _ => orFail (checkTypes ns cs) (fun _ =>
      orFail (if loadOver u || 1 < natDist l h.load then some (0x0E, 40) else none) (fun _ =>
      orFail (if 800 < h.path || h.path ≠ pm then some (0x0F, 44) else none) (fun _ =>
        checkParams b h ns)))))))) with
    | some r => .inl r
    | none =>
      .inr ({ id := h.id, nodes := cfgs, cads := cs,
              inits := (List.range h.nInit).foldl (fun t i =>
                tins t (leAt b (h.initOff + 8 * i) 4) (leAt b (h.initOff + 8 * i + 4) 4)) [] }, l)

end Sys2Proof.Machine
end

