-- ==== Sys2Proof/Machine/Espalier.lean ====
section
/-!
DEFINITION. Espalier at work (spec 08): the opening and end of samples, dispatch, coefficient banks and their
commits, NODE_RESET, mailboxes, the loading and unloading of graphs, and the ring commands of Table 8.12.
What a task's end does is in Machine/Tasks.lean.
-/
namespace Sys2Proof.Machine

/-- Espalier stands still in a debug halt and while CK_FAB is stopped (R107). -/
def State.espHalted (s : State) : Bool := s.halts.contains .debug || s.halts.contains .ckFab

/-- A CK_FAB cycle is 2 ns, 128/5 h; n of them. -/
def cyclesH (n : Nat) : Nat := ceilDiv (128 * n) 5

/-! ### Coefficient banks (R205) -/

/-- The node owns the coefficient point. -/
def NodeCfg.owns (n : NodeCfg) (p : Nat) : Bool := n.coefBase ≤ p && p < n.coefBase + n.nCoef

/-- The host writes a coefficient point: to the shadow bank, or to both where no node owns it. -/
def State.coefWrite (s : State) (p v : Nat) : State :=
  let own := (s.nodes.zipIdx.filter (fun n => n.1.owns p)).map (·.2)
  let sh : State := { s with shadow := tins s.shadow p (v % 2 ^ 32) }
  if isCal p then sh
  else if own.isEmpty then ({ s with shadow := tdel s.shadow p }).hostStore p v
  else
    { sh with esp := { sh.esp with
      touched := sh.esp.touched ++ own.filter (fun i => !sh.esp.touched.contains i) } }

/-- Node i's block swaps banks. -/
def State.swapBlock (s : State) (n : NodeCfg) : State :=
  s.each ((List.range n.nCoef).map (n.coefBase + ·)) (fun p s =>
    match tget s.shadow p with
    | some v => ({ s with shadow := tdel s.shadow p }).storeWrite p v
    | none => s)

/-- A commit has swapped all its nodes: its command completes. -/
def State.commitEnds (s : State) (c : CommitSt) : State :=
  match c.ring with
  | some q => s.complete q (if c.bad then stBadField else stOk) c.swapped
  | none => s

/-- The committed nodes of cadence c swap, at an opening with no older sample open. -/
def State.swapCad (s : State) (c : Nat) : State :=
  let due := ((s.esp.commits.flatMap (·.nodes)).filter (fun i =>
    match s.nodes[i]? with
    | some n => decide (n.cad = c)
    | none => false)).eraseDups
  if due.isEmpty then s
  else
    let s := s.each due (fun i s => match s.nodes[i]? with
      | some n => s.swapBlock n
      | none => s)
    let cs := s.esp.commits.map (fun k =>
      { k with nodes := k.nodes.filter (fun i => !due.contains i)
               swapped := k.swapped + (k.nodes.filter due.contains).length })
    let s := { s with esp := { s.esp with
      touched := s.esp.touched.filter (fun i => !due.contains i)
      commits := cs.filter (fun k => !k.nodes.isEmpty) } }
    s.each (cs.filter (fun k => k.nodes.isEmpty)) (fun k s => s.commitEnds k)

/-- A commit of the cadences of a mask, for the command of a ring if there is one (R205, R211). -/
def State.commitCads (s : State) (mask : Nat) (ring : Option Nat) (bad : Bool) : State :=
  let due := s.esp.touched.filter (fun i => match s.nodes[i]? with
    | some n => bit mask n.cad
    | none => false)
  let c : CommitSt := { nodes := due, swapped := 0, ring := ring, at_ := s.now, bad := bad }
  if due.isEmpty then s.commitEnds c
  else
    let s := { s with esp := { s.esp with commits := s.esp.commits ++ [c] } }
    match ring with
    | some q => s.cmdWaits q
    | none => s

/-! ### Node reset (R206) -/

/-- A node reset takes effect at the opening of sample `num` of its cadence: its states, the table of an RPC or SEQ node and
what it remembers go back. A task of it still in flight, of an older sample, writes its outputs and leaves the states
alone: the reset stands after it in sample order (DESIGN CHOICE, log 136). -/
def State.nodeReset (s : State) (i num : Nat) (n : NodeCfg) : State :=
  let dt := s.dtNs
  let s := s.each ((List.range n.nState).map (n.stateBase + ·)) (fun p s => s.writeOne p (s.initOf p) dt (some num))
  let t := bits n.param 0 7
  let s : State := if n.type = 0x03 || n.type = 0x12 then
      { s with esp := { s.esp with rpc := tkeep s.esp.rpc (fun k => k / 1024 ≠ t) } } else s
  let x := s.nodeSt i
  let s := s.setNode i { x with reset := false, seq := {}, mpt := {} }
  { s with esp := { s.esp with tasks := s.esp.tasks.map (fun k => if k.node = i then { k with reset := true } else k) } }

/-! ### Samples (R184 to R186, R203) -/

/-- 1/RATE of cadence c. -/
def State.nominal (s : State) (c : Nat) : Nat :=
  match s.esp.graph with
  | some g => match g.cads[c]? with
    | some k => fDiv fOne k.rate
    | none => 0
  | none => 0

/-- A sample of cadence c has completed: its duration is that of the last sample; where the next has opened already,
point j = 2 takes it now (R182; DEDUCED, log 136). It triggers the cadences chained to c, and is a clock event of the engines
that run on c (R331). -/
def State.sampleEnds (s : State) (c : Nat) (m : Sample) : State :=
  let k := s.cadSt c
  let dur := fRatio false ((m.endAt - m.at_) * 5) 64
  let s := if m.num = k.num then s.setCad c { k with dur := dur }
    else if (m.num + 1) % 2 ^ 32 = k.num then s.writeOne (0x4002 + 4 * c) dur s.dtNs none
    else s
  (s.fireCads (fun src a => src = 6 && a = c)).fireEngs (s.dtAt m.endAt) (fun g => g.src = 2 && bits g.arg 0 6 = c)

/-- Samples of cadence c whose nodes have all completed or been skipped, with no task in flight, end (R185). -/
def State.endSamples (s : State) (c : Nat) : State :=
  let k := s.cadSt c
  let ended (m : Sample) : Bool := (s.nodesOf c).all (fun n => m.done.contains n.2)
  let l := k.samples.filter ended
  if l.isEmpty then s
  else s.setCad c { k with samples := k.samples.filter (fun m => !ended m) } |>.each l (fun m s => s.sampleEnds c m)

/-- The oldest open sample of cadence c is abandoned (R185): its nodes that have not fired are skipped, and it completes
when its tasks in flight have. -/
def State.abandon (s : State) (c : Nat) : State :=
  let k := s.cadSt c
  match k.samples.find? (fun m => !m.gone) with
  | none => s
  | some m =>
    let skip := ((s.nodesOf c).map (·.2)).filter (fun i => !m.fired.contains i)
    let due := match k.overAt with
      | some t => decide (t + msH ≤ s.now)
      | none => true
    let s := s.setCad c { k with
      samples := k.samples.map (fun x =>
        if x.num = m.num then { x with gone := true, fired := x.fired ++ skip, done := x.done ++ skip } else x)
      overAt := if due then some s.now else k.overAt }
    let s := { s with esp := { s.esp with stalled := s.esp.stalled.filter (fun w => !(w.cad = c && w.num = m.num)) } }
    let p := 0x4003 + 4 * c
    let s := s.postF p (satAdd32 (s.sp p) 1)
    (s.when due (fun s =>
      (s.post 0x23 [(1, 1, c), (8, 4, m.num), (12, 2, skip.length)]).fltOccur fsCadence c)).endSamples c

/-- A sample of cadence c opens at instant t. Point j = 2 takes the duration of the sample before where that has
completed. -/
def State.openSample (s : State) (c t : Nat) (cfg : CadCfg) : State :=
  let s := if 2 ≤ ((s.cadSt c).samples.filter (fun m => !m.gone)).length then s.abandon c else s
  let k := s.cadSt c
  let dt := s.dtAt t
  let num := (k.num + 1) % 2 ^ 32
  let nom := s.nominal c
  let gap := k.lastAt.map (fun _ => if k.stepped then (fNearest (fMul nom (fOfNat 1000000000))).toNat else dt - k.lastDt)
  let step := gap.map (fun g => if k.stepped then nom else fRatio false g 1000000000)
  let real := k.lastAt.map (fun a => (t - a) * 5 / 64)
  let s := match real with
    | some r =>
      if (r * 100 : Nat) * fScaled cfg.rate < 98 * 1000000000 * 2 ^ 149 then
        ((s.count ESP.RATE_CNT).post 0x24 [(1, 1, c), (8, 4, r)]).fltOccur fsCadence c
      else s
    | none => s
  let s := if k.samples.all (·.gone) then s.swapCad c else s
  let firsts := ((s.nodesOf c).map (·.2)).filter (fun i => k.lastAt.isNone || (s.nodeSt i).reset)
  let s := s.each (s.nodesOf c) (fun n s => if (s.nodeSt n.2).reset then s.nodeReset n.2 num n.1 else s)
  let b := 0x4000 + 4 * c
  let s := s.each ([(b, num), (b + 1, dt % 2 ^ 32)] ++ if k.samples.isEmpty then [(b + 2, k.dur)] else [])
    (fun p s => s.writeOne p.1 p.2 s.dtNs none)
  let snaps := ((s.nodesOf c).flatMap (fun n => (n.1.edges.filter EdgeCfg.snap).map (·.src))).foldl
    (fun x p => tins x p (s.snapAt p t)) []
  let m : Sample := { num := num, dt := dt, at_ := t, step := step, gap := gap, snaps := snaps, endAt := t, firsts := firsts, era := s.clk.steps
                      probe := if (s.nodesOf c).any (fun n => n.1.type = 0x13) then s.probeEnv dt else [] }
  let k := s.cadSt c
  let s := s.setCad c { k with num := num, samples := k.samples ++ [m], lastAt := some t, lastDt := dt
                               stepped := false }
  s.fire.endSamples c

/-- The trigger that waits with the earliest instant, the first of several, and the others. -/
def firstTrig : List (Nat × Nat) → Option ((Nat × Nat) × List (Nat × Nat))
  | [] => none
  | x :: xs => match firstTrig xs with
    | some (y, ys) => if y.2 < x.2 then some (y, x :: ys) else some (x, xs)
    | none => some (x, xs)

/-- SAMPLE_OPEN (R184): the trigger of the earliest instant is counted, at that instant, and opens a sample at every
DIV-th; one of kind ADC_BURST lies ahead until the sampling instant of its slot 0. While
Espalier is halted, or the cadence is off, a trigger opens none and is not counted (DESIGN CHOICE, log 24). -/
def execSampleOpen (s : State) : Host.Outcome State Fault Refusal :=
  s.run (fun s =>
    match firstTrig s.cadTrigs with
    | none => s
    | some ((c, t), rest) =>
      let s := ({ s with cadTrigs := rest } : State).to t
      match s.esp.graph with
      | none => s
      | some g => match g.cads[c]? with
        | none => s
        | some cfg =>
          if s.espHalted || !bit (s.rd ESP.CADEN) c then s
          else
            let k := s.cadSt c
            let n := k.trigs
            let s := s.setCad c { k with trigs := n + 1 }
            if n % cfg.div = 0 then s.openSample c t cfg else s)

/-! ### Dispatch (R189) -/

/-- The ready task that goes first. -/
def State.nextTask (s : State) : Option TaskSt :=
  (s.esp.tasks.filter (fun t => t.stage = .ready)).foldl (fun b t =>
    match b with
    | none => some t
    | some o => if s.goesBefore t.cad t.readyAt o.cad o.readyAt then some t else b) none

def State.costOf (s : State) (t : TaskSt) : Nat :=
  match s.nodes[t.node]? with
  | some n => n.cost
  | none => 0

/-- The ends of the lanes in use now. -/
def State.laneEnds (s : State) : List Nat :=
  (s.esp.tasks.filterMap (fun t => match t.stage with
    | .running a => some (a + cyclesH (s.costOf t))
    | _ => none)).filter (fun e => s.now < e)

/-- TASK_DISPATCH (R189): the first ready task takes a lane, when one of the eight is or becomes free. -/
def execTaskDispatch (s : State) : Host.Outcome State Fault Refusal :=
  s.run (fun s =>
    if s.espHalted then s
    else
      match s.nextTask with
      | none => s
      | some t =>
        let e := s.laneEnds
        let s := if e.length < 8 then s else s.to (e.foldl Nat.min (e.headD s.now))
        { s with esp := { s.esp with tasks := s.esp.tasks.map (fun x =>
          if x.node = t.node && x.num = t.num then { x with stage := .running s.now, dispDt := s.dtNs } else x) } })

/-! ### Mailboxes (R208) -/

/-- Mailbox m shows the present value of its point, or 0 while it is not bound. -/
def State.mboxLoad (s : State) (m : Nat) : State :=
  if s.rdB ESP.MBOX_CFG_EN 0 m then
    let p := s.rd ESP.MBOX_CFG_SP 0 m
    (s.wr ESP.MBOX_VALUE (s.sp p) 0 m).wr ESP.MBOX_SEQ ((s.seqOf p).getD 0) 0 m
  else (s.wr ESP.MBOX_VALUE 0 0 m).wr ESP.MBOX_SEQ 0 0 m

/-- MAILBOX_UPDATE (R208): the oldest update of queue 81 reaches its mailbox, and one that waited for its credit enters
the queue. -/
def execMailboxUpdate (s : State) : Host.Outcome State Fault Refusal :=
  s.run (fun s =>
    match s.esp.mboxQ with
    | [] => s
    | u :: rest =>
      let s := { s with esp := { s.esp with
        mboxQ := rest ++ s.esp.mboxHold.take 1, mboxHold := s.esp.mboxHold.drop 1 } }
      if s.rdB ESP.MBOX_CFG_EN 0 u.box && s.rd ESP.MBOX_CFG_SP 0 u.box = u.point then
        (s.wr ESP.MBOX_VALUE u.value 0 u.box).wr ESP.MBOX_SEQ u.seq 0 u.box
      else s)

/-! ### Graph load and unload (R210) -/

/-- A mailbox may be bound to the point (R208). -/
def bindable (p : Nat) : Bool := p < 0x20000 || (0x34000 ≤ p && p < 0x38000)

/-- The running graph stops, and what a graph load resets is reset (Table 2.7): the task table, the mailboxes,
the RPC tables, queues 34 to 41, 80 and 81. Commits that wait can no longer swap: their nodes are numbered out
of the graph. -/
def State.graphStop (s : State) : State :=
  let s := (s.setReady 45 false).wrB ESP.STAT_GRAPH false
  let s := s.each (List.range 64) (fun m s =>
    (((s.wr ESP.MBOX_CFG_EN 0 0 m).wr ESP.MBOX_CFG_SP 0 0 m).wr ESP.MBOX_VALUE 0 0 m).wr ESP.MBOX_SEQ 0 0 m)
  let e : EspSt := { commits := s.esp.commits.map (fun c => { c with nodes := c.nodes.map (· + 4096) }) }
  let s := { s with esp := e, cmpQ := [], cadTrigs := [] }
  (((((s.wr ESP.STAT_TASKS 0).wrB ESP.STAT_LOAD_HIGH false).wr ESP.GRAPH_ID 0).wr ESP.LOAD 0).wr ESP.CADEN 0).limsClear.grdGraph

/-- The points a trigger unit or an engine of Sieve watches. -/
def State.watched (s : State) : List Nat :=
  let units := ((List.range 16).filter (fun u => s.rdB TRG.CFG_EN u)).map (fun u => s.rd TRG.SP u)
  let engs := (List.range 8).filterMap (fun e => (s.capOf e).bind (fun c => c.cfg.chans.head?))
  (units ++ engs).eraseDups

/-- The state and output partitions are written 0, but for SP 0x04000 to SP 0x04FFF (R210); Sieve sees the writes (R327). -/
def State.zeroParts (s : State) : State :=
  let keep (p : Nat) : Bool := p < 0x5000 || (0x20000 ≤ p && p < 0x34000) || 0x38000 ≤ p
  let s : State := { s with pts := tkeep s.pts keep, seqs := tkeep s.seqs keep }
  s.each (s.watched.filter (!keep ·)) (fun p s => s.sieveWrite p 0 s.dtNs)

/-- An image that passed runs. -/
def State.graphStart (s : State) (g : Graph) (load : Nat) : State :=
  let s := s.each g.inits (fun p s => ({ s with shadow := tdel s.shadow p.1 }).storeWrite p.1 p.2)
  let s := s.each (List.range 64) (fun c s => s.storeWrite (0x4000 + 4 * c) 0)
  let s := ({ s with esp := { s.esp with graph := some g } } : State).grdGraph
  let s := (s.wr ESP.CADEN (2 ^ g.cads.length - 1)).setReady 45 true
  let s := ((s.wrB ESP.STAT_GRAPH true).wr ESP.GRAPH_ID g.id).wr ESP.LOAD load
  (s.wrB ESP.STAT_LOAD_HIGH (55705 < load)).post 0x20
    [(8, 4, g.id), (12, 2, g.nodes.length), (14, 1, g.cads.length), (16, 4, load)]

/-- Steps 1 and 2 of a load: the running graph has stopped, the partitions are zero, STAT.LOADING is 1. -/
def State.loadBegins (s : State) (q : Nat) : State :=
  let s := (s.fabricFlush q).graphStop.zeroParts.wrB ESP.STAT_LOADING true
  { s with esp := { s.esp with loading := some q } }

/-- Steps 3 to 5 of a load: the image has been checked; it runs or is rejected, and the command completes. -/
def State.loadEnds (s : State) (q : Nat) (x : Started) (b : List Nat) : State :=
  let s := ({ s with esp := { s.esp with loading := none } }).wrB ESP.STAT_LOADING false
  match checkImage b x.d.len with
  | .inl (code, off) =>
    let s := (s.wr ESP.REJECT_CODE code).wr ESP.REJECT_OFFSET off
    let id := if 52 ≤ b.length then leAt b 48 4 else 0
    (s.post 0x21 [(1, 1, code), (8, 4, off), (12, 4, id)]).complete q stBadField (code * 2 ^ 24 + off)
  | .inr (g, load) => (s.graphStart g load).complete q stOk g.nodes.length

/-- GRAPH_LOAD (R210), in two steps, its start and its end, with STAT.LOADING between them (R212); a load waits while
another is in progress (DESIGN CHOICE, log 136). -/
def execGraphLoad (q : Nat) (s : State) : Host.Outcome State Fault Refusal :=
  s.cmd q 0x20 (fun x b s =>
    match s.esp.loading with
    | some p => if p = q then s.loadEnds q x b else s
    | none => if s.modeAdmits .ssf then s.loadBegins q else s.complete q stModeForbidden 0)

/-- GRAPH_UNLOAD (R211); it waits while a load is in progress (DESIGN CHOICE, log 136). -/
def execGraphUnload (q : Nat) (s : State) : Host.Outcome State Fault Refusal :=
  s.cmd q 0x21 (fun _ _ s =>
    if s.esp.loading.isSome then s
    else if s.modeAdmits .ssf then (s.fabricFlush q).graphStop.complete q stOk 0
    else s.complete q stModeForbidden 0)

/-! ### Ring commands (Table 8.12, R85) -/

/-- The 8 B records of a payload: their point word and value. -/
def recordsOf (b : List Nat) : List (Nat × Nat) :=
  (List.range (b.length / 8)).map (fun i => (leAt b (8 * i) 4, leAt b (8 * i + 4) 4))

/-- COEF_WRITE (R211). -/
def execCoefWrite (q : Nat) (s : State) : Host.Outcome State Fault Refusal :=
  s.cmd q 0x22 (fun _ b s =>
    let rs := recordsOf b
    let good := rs.filter (fun r => 0x20000 ≤ r.1 && r.1 < 0x30000)
    let s := s.each good (fun r s => s.coefWrite r.1 r.2)
    let cads := (s.nodes.filter (fun n => good.any (fun r => n.owns r.1))).map (·.cad)
    s.commitCads (maskOf cads) (some q) (good.length ≠ rs.length))

/-- COEF_COMMIT (R205). -/
def execCoefCommit (q : Nat) (s : State) : Host.Outcome State Fault Refusal :=
  s.cmd q 0x23 (fun x _ s => s.commitCads x.d.inl (some q) false)

/-- COEF_COMMIT_TIMEOUT (R211): the command of ring q completes TIMEOUT 100 ms after its start, and the commit
stays pending. -/
def execCoefCommitTimeout (q : Nat) (s : State) : Host.Outcome State Fault Refusal :=
  s.runIf (sqOk q) (fun s =>
    match s.esp.commits.find? (fun c => c.ring = some q) with
    | none => s
    | some c =>
      let s := s.to (c.at_ + 100 * msH)
      let l := s.esp.commits.map (fun k => if k.ring = some q then { k with ring := none } else k)
      ({ s with esp := { s.esp with commits := l } }).complete q stTimeout c.swapped)

/-- The samples of cadence c that triggers already waiting will open no later than in the present CK_FAB cycle. -/
def State.opensDue (s : State) (c : Nat) : Nat :=
  let div := match s.esp.graph with
    | some g => (g.cads.getD c ⟨0, false, 0, 1, 0, 0⟩).div
    | none => 1
  let n := s.cadTrigs.countP (fun x => x.1 = c && decide (fabCycle x.2 ≤ fabCycle s.now))
  if s.espHalted || !bit (s.rd ESP.CADEN) c then 0
  else (List.range n).countP (fun i => ((s.cadSt c).trigs + i) % div = 0)

/-- The number of the sample that will first use a set-point: the next of its owning cadence to open after this CK_FAB
cycle (R85, R204). -/
def State.firstUse (s : State) (p : Nat) : Nat :=
  match s.nodes.find? (fun n => n.edges.any (fun e => e.src = p)) with
  | some n => ((s.cadSt n.cad).num + s.opensDue n.cad + 1) % 2 ^ 32
  | none => max32

/-- SETPOINT_WRITE (R85). -/
def execSetpointWrite (q : Nat) (s : State) : Host.Outcome State Fault Refusal :=
  s.cmd q 0x24 (fun x _ s =>
    let p := 0x30000 + bits x.d.arg 0 14
    (s.hostStore p (bits x.d.inl 0 32)).complete q stOk (s.firstUse p))

/-- a − b of two 32-bit numbers, taken as signed. -/
def diff32 (a b : Nat) : Int := sext ((a + 2 ^ 32 - b % 2 ^ 32) % 2 ^ 32) 32

/-- SIGNAL_READ (R85, R207). -/
def execSignalRead (q : Nat) (s : State) : Host.Outcome State Fault Refusal :=
  s.cmd q 0x25 (fun x _ s =>
    let p := bits x.d.arg 0 18
    let old := match s.seqOf p with
      | some n => decide (diff32 n (bits x.d.inl 0 32) < 0)
      | none => false
    s.complete q (if old then stStale else stOk) (s.sp p))

/-- SIGNAL_READ_BLOCK (R211); a point beyond the last one has no stated value (log 25). -/
def execSignalReadBlock (q : Nat) (s : State) : Host.Outcome State Fault Refusal :=
  s.cmdHost q 0x26 (fun x _ s =>
    let p0 := bits x.d.arg 0 18
    let s := s.each (List.range (x.d.len / 4)) (fun i s =>
      if p0 + i < 0x40000 then s.hostPut (x.d.ptr + 4 * i) (leBytes (s.sp (p0 + i)) 4)
      else (s.hostPut (x.d.ptr + 4 * i) (leBytes s.freeVal 4)).useFree)
    s.complete q stOk 0)

/-- MBOX_BIND (R208): a point that may not be bound keeps the binding (R49). -/
def execMboxBind (q : Nat) (s : State) : Host.Outcome State Fault Refusal :=
  s.cmd q 0x27 (fun x _ s =>
    let m := bits x.d.arg 0 6
    let r := s.param q x 1 24 (.pred (fun _ _ v => bindable v)) (s.rd ESP.MBOX_CFG_SP 0 m) (bits x.d.inl 0 24)
    let s := (r.2.2.wr ESP.MBOX_CFG_SP r.1 0 m).wr ESP.MBOX_CFG_EN (b2n (bit x.d.inl 24)) 0 m
    (s.mboxLoad m).complete q (clampedIf r.2.1) ((s.seqOf r.1).getD 0))

/-- SETPOINT_WRITE_SET (R211). -/
def execSetpointWriteSet (q : Nat) (s : State) : Host.Outcome State Fault Refusal :=
  s.cmd q 0x28 (fun _ b s =>
    let rs := recordsOf b
    let good := rs.filter (fun r => 0x30000 ≤ r.1 && r.1 < 0x34000)
    (s.each good (fun r s => s.hostStore r.1 r.2)).complete q
      (if good.length ≠ rs.length then stBadField else stOk) good.length)

/-- NODE_RESET (R206): a node that the graph does not have, or no graph, gives BAD_FIELD. -/
def execNodeReset (q : Nat) (s : State) : Host.Outcome State Fault Refusal :=
  s.cmd q 0x29 (fun x _ s =>
    let i := bits x.d.arg 0 12
    match s.nodes[i]? with
    | none => s.complete q stBadField 0
    | some n =>
      let k := s.nodeSt i
      (s.setNode i { k with reset := true }).complete q stOk ((s.cadSt n.cad).num + 1))

/-! ### Registers -/

/-- SIGNAL_POINT_WRITE (R181, R183, R205): a host write through the signal-point window. -/
def State.windowWrite (s : State) (p v : Nat) : State :=
  match partOf p with
  | .coef => s.coefWrite p v
  | .setpoint => s.hostStore p v
  | .scratch => s.hostStore p v
  | _ => s.accessError 0 4 1 (0x400000 + 4 * p)

def execSignalPointWrite (p v : Nat) (s : State) : Host.Outcome State Fault Refusal :=
  s.runIf (p < 0x40000) (fun s => s.hostWrite (fun s =>
    if s.bridgeHalted 78 then s.bridgeHold 78 (0x400000 + 4 * p) 4 (v % 2 ^ 32) else s.windowWrite p v))

/-- ESP.CTRL.CNT_CLR (R212). -/
def State.espCntClr (s : State) : State :=
  (((s.wr ESP.NFLT_CNT 0).wr ESP.TASK_STALL 0).wr ESP.RATE_CNT 0).wr ESP.TASK_HWM 0

/-- ESP_CNT_CLR (R212). -/
def execEspCntClr (s : State) : Host.Outcome State Fault Refusal :=
  s.run (fun s => s.bridgeWrite 78 ESP.CTRL 0 0 1 (·.espCntClr))

/-- ESP_COEF_COMMIT (R205): a write to ESP.COEF_COMMIT. -/
def execEspCoefCommit (mask : Nat) (s : State) : Host.Outcome State Fault Refusal :=
  s.run (fun s => s.hostWrite (fun s =>
    if s.bridgeHalted 78 then s.bridgeHold 78 (ESP.COEF_COMMIT.addr 0 0) 8 (mask % 2 ^ 64)
    else s.commitCads mask none false))

/-- A write to ESP.CADTRIG triggers the cadences of its bits whose SRC is SOFTWARE (Table 8.2). -/
def State.cadTrig (s : State) (mask : Nat) : State :=
  let cads := match s.esp.graph with
    | some g => g.cads
    | none => []
  let hit := cads.zipIdx.filter (fun c => c.1.src = 7 && bit mask c.2)
  { s with cadTrigs := s.cadTrigs ++ hit.map (fun c => (c.2, s.now)) }

/-- CADTRIG (R184). -/
def execCadtrig (mask : Nat) (s : State) : Host.Outcome State Fault Refusal :=
  s.run (fun s => s.hostWrite (fun s =>
    if s.bridgeHalted 78 then s.bridgeHold 78 (ESP.CADTRIG.addr 0 0) 8 (mask % 2 ^ 64) else s.cadTrig mask))

/-- The report is of a leg that has stopped running its own periods since: its points read 0 (R106). -/
def State.staleReport (s : State) (r : PeriodReport) : Bool :=
  decide (0x3E00 ≤ r.point) && decide (r.point < 0x3E00 + 4 * 96) && !s.ownAsked ((r.point - 0x3E00) / 4)

/-- PERIOD_REPORT_POST (R106): the oldest report of queue 90 lands; that of a leg that is no longer own-period has no
points to land in. -/
def execPeriodReportPost (s : State) : Host.Outcome State Fault Refusal :=
  s.run (fun s =>
    match s.reports with
    | [] => s
    | r :: rest =>
      let s : State := { s with reports := rest }
      if s.staleReport r then s else s.posts [(r.point, r.dur), (r.point + 1, r.dtLo), (r.point + 2, r.num)])

end Sys2Proof.Machine
end

