-- ==== Sys2Proof/Machine/ProbeRun.lean ====
section
/-!
DEFINITION. The impedance probe at work (R250 to R256): its correlator, its estimates and baselines, its
listen periods and its island declaration.
-/
namespace Sys2Proof.Machine

def State.setPrb (s : State) (f : PrbSt → PrbSt) : State := { s with prb := f s.prb }

/-- PROBE_STATUS (Table 10.12). -/
def State.probeStatus (s : State) (what : Nat) : State :=
  s.post 0x1D [(1, 1, what), (2, 1, s.rd PRB.CFG_CODE)]

/-- RUN follows whether the probe injects; where it stops, CONSEC returns to 0 (R255). A pause of the probe, whether or not
it listens then, and the end of one are posted (R250, R260). -/
def State.probeUpdate (s : State) : State :=
  let live := s.probeLive
  let run := s.probeRuns
  let s := s.when (s.rdB PRB.STAT_RUN && !run) (·.wr PRB.STAT_CONSEC 0)
  let s := s.wrB PRB.STAT_RUN run
  if s.prb.live = live then s
  else (s.setPrb (fun p => { p with live := live })).probeStatus (if live then 5 else 4)

/-- Learning starts again: after EN changes to 1 and after a CODE write (R254). -/
def State.probeLearn (s : State) : State :=
  let s := s.each (List.range 8) (fun k s => s.wr TONE.BASE 0 k)
  (s.setPrb (fun p => { p with learn := [] })).wr PRB.STAT_BASE_READY 0

/-- PTP lock has come or gone: SYNC, PROBE_STATUS and FS182. -/
def State.probeSync (s : State) : State :=
  let v := s.ready 13
  if s.rdB PRB.STAT_SYNC = v then s
  else
    let s := (s.wrB PRB.STAT_SYNC v).probeStatus (if v then 2 else 1)
    s.fltLevel fsProbe 1 (!v)

/-! ### Correlator (R253) -/

/-- One sample of tone k added to its correlations: a pair of αβ values in units of 2⁻⁴⁰, the chip sign, and the
sine and cosine of the tone's angle with 40 fraction bits. -/
def corr (acc : Int × Int) (c : Int) (a b co si : Int) : Int × Int :=
  (acc.1 + c * (a * co + b * si), acc.2 + c * (b * co - a * si))

/-- αβ of three points, in units of 2⁻⁴⁰. -/
def State.alphaBeta (s : State) (i : Nat) : Int × Int :=
  let v (j : Nat) : Nat := s.sp (s.rd PRB.SRC 0 (i + j))
  let r := clarke (v 0) (v 1) (v 2)
  (fFloorAt r.1 40, fFloorAt r.2.1 40)

/-- The chip in hand is complete. -/
def PrbSt.close (p : PrbSt) : PrbSt :=
  match p.cur with
  | some c => { p with chips := (c :: p.chips).take 127, cur := none }
  | none => p

/-- Every chip of the window was injected, and the window is whole. -/
def State.windowFull (s : State) (n : Nat) : Bool :=
  let w := s.rd PRB.CFG_WIN
  let l := s.prb.chips.take w
  l.length = w && l.zipIdx.all (fun c => c.1.inj && c.1.num + c.2 + 1 = n)

/-- CORRELATOR_SAMPLE (R253): the next multiple of 50,000 ns of DT that has not been sampled. A chip of which the
first sample is missing was not injected whole. -/
def execCorrelatorSample (s : State) : Host.Outcome State Fault Refusal :=
  s.run (fun s =>
    if !s.dtOn || !s.ready 37 then s
    else
      let t := Nat.max (ceilDiv s.dtNs 50000 * 50000) (match s.prb.lastAt with
        | some a => a + 50000
        | none => 0)
      let s := s.toDt t
      let num := t / chipNs
      let fresh := match s.prb.cur with
        | some c => decide (c.num ≠ num)
        | none => true
      let s := if fresh then s.setPrb (fun p => p.close) else s
      let s := s.when fresh (fun s => s.wrB PRB.STAT_FULL (s.windowFull num))
      let z : List (Int × Int) := List.replicate 8 (0, 0)
      let c := s.prb.cur.getD { num := num, inj := decide (t % chipNs = 0), n := 0, v := z, i := z }
      let v := s.alphaBeta 0
      let i := s.alphaBeta 3
      let upd (l : List (Int × Int)) (x : Int × Int) : List (Int × Int) := l.mapIdx (fun k a =>
        let ang := toneAngle (s.rd TONE.FREQ k) t
        corr a (chipSign (s.rd PRB.CFG_CODE) (num % 127) k) x.1 x.2 (cosQ ang / 2 ^ 56) (sinQ ang / 2 ^ 56))
      let d := { c with inj := c.inj && s.probeRunsAt t, n := c.n + 1, v := upd c.v v, i := upd c.i i }
      s.setPrb (fun p => { p with cur := some d, lastAt := some t }))

/-! ### Estimates (R253 to R255) -/

/-- The sum of tone k over a list of chips. -/
def toneSum (f : Chip → List (Int × Int)) (k : Nat) (l : List Chip) : Int × Int :=
  l.foldl (fun a c => let x := (f c).getD k (0, 0); (a.1 + x.1, a.2 + x.2)) (0, 0)

def normSq (x : Int × Int) : Nat := (x.1 * x.1 + x.2 * x.2).toNat

/-- AMP_k × I_BASE in units of 2⁻⁸⁰. -/
def State.toneAmp (s : State) (k : Nat) : Nat :=
  (fFloorAt (s.rd TONE.AMP k) 60 * fFloorAt (s.rd PRB.I_BASE) 24).toNat / 16

/-- |Z_k| = |ΣV| / |ΣI| of the window, as a division of binary32 gives it where ΣI is 0, and whether the estimate is
valid. -/
def State.toneZ (s : State) (k : Nat) (full : Bool) : Nat × Bool :=
  let w := s.rd PRB.CFG_WIN
  let l := s.prb.chips.take w
  let i2 := normSq (toneSum (·.i) k l)
  let v2 := normSq (toneSum (·.v) k l)
  let need := 40 * w * s.toneAmp k
  let z := if i2 ≠ 0 then fPack false (isqrt ((v2 <<< 96) / i2)) (-48) else if v2 = 0 then fNaN else fInf false
  (z, full && decide (need * need ≤ i2) && decide (i2 ≠ 0))

/-- The mean of sixteen values. -/
def mean16 (l : List Nat) : Nat := fDiv (l.foldl fAdd 0) (fOfNat 16)

/-- The baseline of tone k takes a valid |Z| (R254). -/
def State.baseTake (s : State) (k z : Nat) : State :=
  if bit (s.rd PRB.STAT_BASE_READY) k then
    let b := s.rd TONE.BASE k
    let r := fDiv z b
    if fLt r (s.rd PRB.RATIO_THR) then
      s.wr TONE.BASE (fAdd b (fDiv (fMul (fSub z b) (fc 32 1000)) (fOfNat (s.rd PRB.BASE_TAU)))) k
    else s
  else
    let l := tgetD s.prb.learn k [] ++ [z]
    if l.length < 16 then s.setPrb (fun p => { p with learn := tput p.learn k l [] })
    else
      let r := s.rd PRB.STAT_BASE_READY ||| 2 ^ k
      let s := ((s.setPrb (fun p => { p with learn := tdel p.learn k })).wr TONE.BASE (mean16 l) k).wr
        PRB.STAT_BASE_READY r
      s.when (r = 255) (·.probeStatus 0)

/-- The probe declares an island (R255). GRID_TRIP's value for it is stated nowhere (log 26). -/
def State.probeIsland (s : State) (e : Nat) : State :=
  let s := s.setPrb (fun p => { p with island := true })
  (((s.gridTrip 3 e 0xFF s.freeVal true).useFree).fltOccur fsIsland 3).trigger .island

/-- PROBE_ESTIMATE (R253 to R255): the next chip boundary whose number is a multiple of 8. RATIO takes ratio_k of each tone;
the baselines follow the valid ones. -/
def execProbeEstimate (s : State) : Host.Outcome State Fault Refusal :=
  s.run (fun s =>
    if !s.dtOn || !s.ready 37 then s
    else
      let n := Nat.max (ceilDiv s.dtNs (8 * chipNs)) (s.prb.lastEst / 8 + 1) * 8
      let s := s.toDt (n * chipNs)
      let s := s.setPrb (fun p => match p.cur with
        | some c => if c.num < n then p.close else p
        | none => p)
      let s := s.setPrb (fun p => { p with lastEst := n })
      let full := s.windowFull n
      let zs := (List.range 8).map (fun k => (k, s.toneZ k full))
      let ratio (p : Nat × Nat × Bool) : Nat := fDiv p.2.1 (s.rd TONE.BASE p.1)
      let above := zs.filter (fun p =>
        p.2.2 && bit (s.rd PRB.STAT_BASE_READY) p.1 && fGe (ratio p) (s.rd PRB.RATIO_THR))
      let e := above.length
      let s := s.each zs (fun p s => (s.wr TONE.RATIO (ratio p) p.1).when p.2.2 (·.baseTake p.1 p.2.1))
      let was := s.rd PRB.STAT_CONSEC
      let c := if s.probeRuns && s.rd PRB.CFG_N_TONE ≤ e then Nat.min 15 (was + 1) else 0
      let s := (((s.count PRB.EST_CNT).wrB PRB.STAT_FULL full).wr PRB.STAT_EXCEED e).wr PRB.STAT_CONSEC c
      let s := s.postF 0x42A4 (fOfNat e)
      s.when (was < s.rd PRB.CFG_N_CONSEC && s.rd PRB.CFG_N_CONSEC ≤ c) (·.probeIsland e))

/-! ### Listening (R252) -/

/-- The probe heard its own code in the listen period p. -/
def State.heard (s : State) (p : Nat) : Bool :=
  let l := s.prb.chips.filter (fun c => c.num / 127 = p)
  let n := (l.map (·.n)).foldl (· + ·) 0
  (List.range 8).any (fun k =>
    let b := (fFloorAt (s.rd TONE.BASE k) 40).toNat
    let v2 := normSq (toneSum (·.v) k l)
    let need := b * s.toneAmp k * n / 2 ^ 40
    bit (s.rd PRB.STAT_BASE_READY) k && n ≠ 0 && decide (need * need ≤ 16 * v2))

/-- LISTEN_PERIOD (R252): a listen period begins at the code-period boundary at which LISTEN seconds have
passed since the last one, or the one that runs ends at its own. -/
def execListenPeriod (s : State) : Host.Outcome State Fault Refusal :=
  s.run (fun s =>
    if !s.dtOn then s
    else
      match s.prb.listen with
      | some p =>
        let s := s.toDt ((p + 1) * codeNs)
        let s := s.setPrb (fun b => match b.cur with
          | some c => if c.num < (p + 1) * 127 then b.close else b
          | none => b)
        let hit := s.heard p
        let s := s.setPrb (fun b => { b with listen := none })
        let s := if hit then ((s.wrB PRB.STAT_COLLISION true).probeStatus 3).fltLevel fsProbe 3 true else s
        s.probeUpdate.wrB PRB.STAT_LISTENING false
      | none =>
        if s.rd PRB.LISTEN = 0 || !s.probeRuns then s
        else
          let p := ceilDiv (Nat.max s.dtNs (s.prb.lastListen + (s.rd PRB.LISTEN * 1000000000 : Nat)).toNat) codeNs
          let s := (s.toDt (p * codeNs)).setPrb (fun b => { b with listen := some p, lastListen := (p * codeNs : Nat) })
          (s.wrB PRB.STAT_LISTENING true).probeUpdate)

/-- DT has been stepped from `old` to ns (R431): chips that span the step are lost, a listen period that runs ends
with the code period of the new DT, estimates and samples go on by the new DT, and the time since the last listen
period is kept. -/
def PrbSt.dtStep (p : PrbSt) (ns old : Nat) : PrbSt :=
  { p with chips := [], cur := none, lastAt := none, lastEst := 0, listen := p.listen.map (fun _ => ns / codeNs)
           lastListen := p.lastListen + ns - old }

/-- COLLISION is cleared. -/
def State.collisionClear (s : State) : State := (s.wrB PRB.STAT_COLLISION false).fltLevel fsProbe 3 false

end Sys2Proof.Machine
end

