-- ==== Sys2Proof/Machine/Clock.lean ====
section
/-!
DEFINITION. The clock unit and device time (spec 19): losses of the reference and of clocks, searches and hops of
the carrier plan, the PWM epoch and its alignment, the auxiliary outputs, the start and the steps of DT.
-/
namespace Sys2Proof.Machine

def State.setClk (s : State) (f : ClkSt → ClkSt) : State := { s with clk := f s.clk }

/-! ### Auxiliary outputs (R434) -/

/-- RUN and FREQ_ERR of every output: VCO / DIV must lie in 5 to 25 MHz. -/
def State.auxUpdate (s : State) : State :=
  let ok (o : Nat) : Bool := s.rd CLK.OUT_DIV 0 o ≤ s.auxMult && s.auxMult ≤ 5 * s.rd CLK.OUT_DIV 0 o
  let en (o : Nat) : Bool := s.rdB CLK.OUT_EN 0 o
  let live := bit s.mm.everReady 11
  (s.wr CLK.AUX_STAT_RUN (maskOf ((List.range 12).filter (fun o => live && en o && ok o)))).wr CLK.AUX_STAT_FREQ_ERR
    (maskOf ((List.range 12).filter (fun o => !ok o)))

/-- The P and N balls of clock output o (R434, R459): in LVDS they carry the clock and its complement, in a CMOS format P
drives and N is held low; an output whose frequency is out of range is held low. None where the spec states no level: an
output that does not run for another cause, FMT = 3. -/
def State.outBalls (s : State) (o : Nat) : Option (OutBall × OutBall) :=
  let run := bit (s.rd CLK.AUX_STAT_RUN) o
  let bad := bit (s.rd CLK.AUX_STAT_FREQ_ERR) o
  match s.rd CLK.OUT_FMT 0 o with
  | 0 => if run then some (.clock, .inverted) else if bad then some (.low, .high) else none
  | 1 | 2 => if run then some (.clock, .low) else if bad then some (.low, .low) else none
  | _ => none

/-! ### Losses (R422, R423) -/

/-- A READY bit that has been set since WAKE sets again. -/
def State.readyBack (s : State) (b : Nat) : State := s.when (bit s.mm.everReady b) (·.readySet b)

/-- REF_LOST (R422): REFCLK has shown no edge for 400 ns, at `at_`. -/
def execRefLost (at_ : Nat) (s : State) : Host.Outcome State Fault Refusal :=
  s.run (fun s =>
    if s.rdB CLK.STAT_REF_LOST then s
    else ((((s.to at_).wrB CLK.STAT_REF_LOST true).loseReady 0).loseReady 10).loseReady 11)

/-- REF_RETURN (R422): REFCLK has returned at `at_`; the bits set again 2.5 ms later. -/
def execRefReturn (at_ : Nat) (s : State) : Host.Outcome State Fault Refusal :=
  s.run (fun s =>
    if !s.rdB CLK.STAT_REF_LOST then s
    else
      let s := ((s.to at_).wrB CLK.STAT_REF_LOST false).to (at_ + 2500 * usH)
      ((s.readyBack 0).readyBack 10).readyBack 11)

/-- The READY bit of a monitored clock: 0 CK_PWM, 1 CK_FAB, 2 CK_SYS, 3 CK_ADC, 4 the PLL_AUX VCO. -/
def clockBit (c : Nat) : Nat := if c = 0 then 10 else if c = 4 then 11 else 0

/-- CLOCK_FREQUENCY_ERROR (R423): clock c has been off by more than 2 % for 10 µs at `at_`. -/
def execClockFrequencyError (c at_ : Nat) (s : State) : Host.Outcome State Fault Refusal :=
  s.runIf (c < 5) (fun s => (s.to at_).loseReady (clockBit c))

/-! ### Searches and hops (R425, R437) -/

/-- A search of entry i begins, for a ring or for firmware. -/
def State.searchBegin (s : State) (i : Nat) (ring : Option Nat) : State :=
  (s.setClk (fun c => { c with search := some (i, ring) })).wrB CLK.STAT_SEARCHING true

/-- A hop to entry i is accepted. -/
def State.hopBegin (s : State) (i q : Nat) : State := s.setClk (fun c => { c with hop := some (i, q, s.now) })

/-- STAT.HOP_BUSY: a hop is pending, in hand or waiting for a search (Table 19.4). -/
def State.hopSync (s : State) : State := s.wrB CLK.STAT_HOP_BUSY (s.clk.hop.isSome || !s.clk.hopWait.isEmpty)

/-- The idle core is free: what waits for it begins, a hop after a search and a search after a hop. -/
def State.coreFree (s : State) (hopFirst : Bool) : State :=
  if s.clk.search.isSome || s.clk.hop.isSome then s
  else
    match s.clk.hopWait, s.clk.searchWait with
    | [], [] => s
    | (i, q) :: r, [] => (s.setClk (fun c => { c with hopWait := r })).hopBegin i q
    | [], (i, q) :: r => (s.setClk (fun c => { c with searchWait := r })).searchBegin i (some q)
    | (i, q) :: r, (j, p) :: t =>
      if hopFirst then (s.setClk (fun c => { c with hopWait := r })).hopBegin i q
      else (s.setClk (fun c => { c with searchWait := t })).searchBegin j (some p)

/-- CLK_SEARCH (R425). -/
def execClkSearch (q : Nat) (s : State) : Host.Outcome State Fault Refusal :=
  s.cmd q 0xA0 (fun x _ s =>
    let i := bits x.d.arg 0 3
    if i = s.rd CLK.STAT_PLAN then s.complete q stBadField 0
    else
      ((s.setClk (fun c => { c with searchWait := c.searchWait ++ [(i, q)] })).cmdWaits q).coreFree false)

/-- SEARCH_DONE (R425): the search in hand ends at `at_`, with a code where it found one; a failure leaves VALID
clear, also of an entry that was valid (log 143). -/
def execSearchDone (found : Bool) (code at_ : Nat) (s : State) : Host.Outcome State Fault Refusal :=
  s.run (fun s =>
    match s.clk.search with
    | none => s
    | some (i, ring) =>
      let s := (s.to at_).setClk (fun c => { c with search := none })
      let s := s.wrB CLK.STAT_SEARCHING false
      let s := (s.wrB CLK.BAND_VALID found 0 i).when found (fun s =>
        let s := s.wr CLK.BAND_CODE code 0 i
        s.setClk (fun c =>
          { c with log := tins c.log i [s.rd CLK.BAND_MODE 0 i, s.rd CLK.BAND_WIDTH 0 i, s.rd CLK.BAND_MOD_HZ 0 i,
              s.rd CLK.BAND_CODE 0 i] }))
      let s := s.post 0xA4 [(1, 1, i), (2, 1, b2n (!found))]
      let s := match ring with
        | some q => s.complete q stOk (b2n (!found))
        | none => s
      s.coreFree true)

/-- CLK_HOP (R425). -/
def execClkHop (q : Nat) (s : State) : Host.Outcome State Fault Refusal :=
  s.cmd q 0xA1 (fun x _ s =>
    let i := bits x.d.arg 0 3
    if !s.rdB CLK.BAND_VALID 0 i then s.complete q stBadField 0
    else (((s.setClk (fun c => { c with hopWait := c.hopWait ++ [(i, q)] })).hopSync).cmdWaits q).coreFree true)

/-! ### Epoch points (R426) -/

/-- The epoch in h of the PWM time base: EPOCH.US × 1,000 ns at 2.5 ns a tick. -/
def State.epochH (s : State) : Nat := s.rd CLK.EPOCH * usH

/-- The first PWM epoch point at or after the count p: the time base counts from WAKE (R426). -/
def State.epochFrom (s : State) (p : Nat) : Nat := ceilDiv p s.epochH * s.epochH

/-- The coming PWM epoch point that has not been taken. -/
def State.nextEpoch (s : State) : Nat :=
  let e := s.epochFrom s.pw
  if s.clk.epochAt = some e then s.epochFrom (e + 1) else e

/-- The spread triangle restarts here; phase steps still to be made go on (R424, R426). -/
def State.rebase (s : State) : State :=
  let n := s.stepsMade (s.spread (s.now - s.clk.base.1))
  let h := s.pwHalf s.now
  s.setClk (fun c => { c with base := (s.now, h), plan := if c.plan < 0 then c.plan + n else c.plan - n })

/-- Alignment is not available with the plan in force. -/
def State.alignOff (s : State) : Bool :=
  let p := s.rd CLK.STAT_PLAN
  let m := s.rd CLK.BAND_MODE 0 p
  m = 1 || (m = 2 && s.rd CLK.BAND_MOD_HZ 0 p * s.rd CLK.EPOCH % 1000000 ≠ 0)

/-- ALIGN_STATE (Table 19.7). -/
def State.alignState (s : State) (what : Nat) : State :=
  s.post 0xA3 [(1, 1, what), (8, 4, s.rd CLK.ALIGN_ERR)]

/-- ALIGN_OFF follows the plan and the epoch. -/
def State.alignSync (s : State) : State :=
  if s.rdB CLK.STAT_ALIGN_OFF = s.alignOff then s
  else
    let s := s.wrB CLK.STAT_ALIGN_OFF s.alignOff
    s.when s.alignOff (fun s => (s.wrB CLK.STAT_ALIGNED false).alignState 2)

/-- HOP_SWITCH (R425): CK_PWM is switched at the first epoch point at least 100 µs after acceptance. -/
def execHopSwitch (s : State) : Host.Outcome State Fault Refusal :=
  s.run (fun s =>
    match s.clk.hop with
    | none => s
    | some (i, q, t) =>
      let s := (s.toPw (s.epochFrom (s.pwHalf (t + 100 * usH) / 2))).rebase
      let old := s.rd CLK.STAT_PLAN
      let s := (s.setClk (fun c => { c with hop := none })).hopSync
      let s := ((s.wr CLK.STAT_PLAN i).post 0xA2 [(1, 1, old), (2, 1, i), (8, 4, s.dtLo)]).alignSync
      (s.complete q stOk s.dtLo).coreFree false)

/-- The phase steps to be made from this epoch point on (R426): towards a zero error, or, while DT is not locked, at the mean
rate of the last second, `carry` holding the part of a step left over. -/
def State.stepPlan (s : State) : State :=
  if s.ready 13 then
    let n : Int := ((s.clk.err.natAbs + 2) / 5 : Nat)
    s.setClk (fun c => { c with plan := if c.err < 0 then n else -n, carry := 0 })
  else
    let x := s.clk.carry + s.clk.rate * (s.epochH : Int)
    let n := x.tdiv secH
    s.setClk (fun c => { c with plan := n, carry := x - n * secH })

/-- The error of an epoch point in units of 1/128 ns, the shorter way round, with a measuring error of ±0.5 ns. -/
def State.epochErr (s : State) : Int :=
  let l : Int := (s.rd CLK.EPOCH * 128000 : Nat)
  let e := (((s.dtFine s.now * 128 / dtUnit : Nat) : Int) - 5 * sext (s.rd CLK.ALIGN_OFS) 16) % l
  (if l < 2 * e then e - l else e) + s.freeErr 64

/-- The steps made since the last epoch point are counted: after a second, their mean rate is known. -/
def State.stepsCount (s : State) : State :=
  let n : Int := s.stepsMade (s.spread (s.now - s.clk.base.1))
  let n := if s.clk.plan < 0 then -n else n
  let full := decide (s.clk.secAt + secH ≤ s.now)
  s.setClk (fun c =>
    { c with rate := if full then ((c.secSteps + n) * secH).tdiv (s.now - c.secAt : Nat) else c.rate
             secSteps := if full then 0 else c.secSteps + n
             secAt := if full then s.now else c.secAt })

/-- EPOCH_POINT (R94, R424, R426): the next PWM epoch point: bricks that wait for it get their first START, the spread
triangle restarts, the error is measured, and the phase steps that follow are laid down. -/
def execEpochPoint (s : State) : Host.Outcome State Fault Refusal :=
  s.run (fun s =>
    let e := s.nextEpoch
    let s := s.toPw e
    let s := s.each (List.range 8) (fun k s => match (s.brk k).waitEpoch with
      | some (ofs, earliest) =>
        if earliest ≤ e then s.modBrk k (fun b => { b with waitEpoch := none, first := some (e + ofs) }) else s
      | none => s)
    let s := s.stepsCount.rebase.alignSync.setClk (fun c => { c with epochAt := some e })
    if !s.rdB CLK.ALIGN_EN || s.alignOff || !s.dtOn then s.setClk (fun c => { c with plan := 0, carry := 0 })
    else
      let x := s.epochErr
      let s := ((s.useFree.setClk (fun c => { c with err := x })).wr CLK.ALIGN_ERR (satI32 (x * 1000 / 128))).stepPlan
      if s.rdB CLK.STAT_ALIGNED then
        s.when (1024 < x.natAbs) (fun s => (s.wrB CLK.STAT_ALIGNED false).alignState 1)
      else s.when (x.natAbs ≤ 512) (fun s => (s.wrB CLK.STAT_ALIGNED true).alignState 0))

/-! ### Device time (R428, R430, R431) -/

/-- DT starts with READY.DT: from the RTC where that is valid, else from 0. -/
def State.dtStart (s : State) : State :=
  if s.dtOn then s
  else
    let ns := if s.rdB CLO.STAT_RTC_VALID then s.rtcNow else 0
    { s.useFree with dt := ns * dtUnit, dtOn := true }

/-- DT is stepped to ns: DT_STEP, and every interval of DT that spans the step is broken (R431). -/
def State.dtStep (s : State) (ns cause : Nat) : State :=
  let old := s.dtNs
  let move (d : Nat) : Nat := ((d : Int) + ns - old).toNat
  let s := s.post 0xA1 [(1, 1, cause), (8, 8, old), (16, 8, ns)]
  let drift := s.hoe.drift.map (fun d => (d.1, ((d.2 : Int) + ((ns * dtUnit : Nat) : Int) - s.dt).toNat))
  let s : State := { s with dt := ns * dtUnit, hoe := { s.hoe with drift := drift } }
  let s := s.each (List.range 64) (fun c s =>
    if (s.cadSt c).lastAt.isSome then s.setCad c { s.cadSt c with stepped := true } else s)
  let s := s.setClk (fun c => { c with steps := c.steps + 1 })
  let s : State := { s with dcis := s.dcis.map (fun d => (d.1, { d.2 with foldAt := d.2.foldAt.map move })) }
  let s := s.setMtr (fun m => { m with revAt := m.revAt.map move, hist := [], got := [] })
  let s := s.s0Unclean.setPrb (·.dtStep ns old)
  s.when (s.rdB CLK.STAT_ALIGNED) (fun s => (s.wrB CLK.STAT_ALIGNED false).alignState 1)

/-- The modes in which DT may be stepped (R430). -/
def State.dtSteps (s : State) : Bool := s.modeIn [.wake, .standby, .service, .factory]

/-- TIME_SET (R430, R437). -/
def execTimeSet (q : Nat) (s : State) : Host.Outcome State Fault Refusal :=
  s.cmd q 0xA2 (fun x _ s =>
    if !s.dtSteps then s.complete q stModeForbidden 0
    else if s.rd PTP.CFG_SRC = 0 then s.complete q stBadField 0
    else (s.dtStep (bits x.d.inl 0 64) 1).complete q stOk 0)

/-! ### WAKE -/

/-- What firmware keeps of the plans comes back before READY.CLK_PWM; the entries of the mask `fail` do not lock. -/
def State.bandsRestore (s : State) (fail : Nat) : State :=
  s.each (s.clk.log.filter (fun p => p.1 ≠ 0)) (fun p s =>
    (((s.wr CLK.BAND_MODE (p.2.getD 0 0) 0 p.1).wr CLK.BAND_WIDTH (p.2.getD 1 0) 0 p.1).wr CLK.BAND_MOD_HZ
      (p.2.getD 2 1000) 0 p.1).wr CLK.BAND_CODE (p.2.getD 3 0) 0 p.1 |>.wrB CLK.BAND_VALID (!bit fail p.1) 0 p.1)

/-- Entry into WAKE: the time base begins again. -/
def State.clkWake (s : State) (mult : Nat) : State :=
  let s : State :=
    { s with pw := 0, clk := { log := s.clk.log, secAt := s.now, base := (s.now, 0) }, auxMult := mult, dtOn := false
             dt := 0 }
  s.auxUpdate

end Sys2Proof.Machine
end

