-- ==== Sys2Proof/Machine/Ptp.lean ====
section
/-!
DEFINITION. PTP and PPS (spec 19): the port, its messages, the offset and the lock. The codes of PORT_STATE and the
rules of the best-master algorithm are those of IEEE 1588-2019 (PRESUMED, log 70).
-/
namespace Sys2Proof.Machine

def State.setPtp (s : State) (f : PtpSt → PtpSt) : State := { s with ptp := f s.ptp }

/-! ### The port (R433) -/

def psListening : Nat := 4
def psMaster : Nat := 6
def psUncalibrated : Nat := 8
def psSlave : Nat := 9

/-- The MAC in use. -/
def State.ptpPort (s : State) : Nat :=
  if s.rd PTP.CFG_PORT = 2 then s.rd PTP.STAT_ACTIVE_PORT else s.rd PTP.CFG_PORT

/-- The transport in force is IEEE 802.3: CFG.L2, taken as 1 with C37.238 (Table 19.5). -/
def State.ptpL2 (s : State) : Bool := s.rdB PTP.CFG_L2 || decide (s.rd PTP.CFG_PROFILE = 2)

/-- MAC n can carry the messages of the port: over UDP it needs its address (R433, R444; DEDUCED for address 0, log 161). -/
def State.ptpNet (s : State) (n : Nat) : Bool := s.macRuns n && (s.ptpL2 || decide (s.rd ETH.IPV4 n ≠ 0))

/-- The port takes a message that comes on MAC n: one of its domain, over the transport in force, over UDP to the address of
its MAC or a PTP multicast address, and with C37.238 an Announce with the TLVs of the profile (R433, Table 19.3). -/
def State.ptpTakes (s : State) (n : Nat) (p : PtpPdu) : Bool :=
  s.ptpNet n && decide (p.domain = s.rd PTP.CFG_DOMAIN) && p.l2 = s.ptpL2 &&
    (p.l2 || decide (p.ip = 0) || decide (p.ip = s.rd ETH.IPV4 n)) &&
    (match p.msg with
      | .announce _ => decide (s.rd PTP.CFG_PROFILE ≠ 2) || p.tlv
      | _ => true)

/-- The port sends a message of a messageType on its MAC, `frames` frames with those that complete it, from the
address of the MAC over UDP, with the TLVs of C37.238 where that profile is in force (R433). -/
def State.ptpSend (s : State) (kind frames : Nat) : State :=
  let n := s.ptpPort
  (s.count ETH.TX_OK n 0 frames).setPtp (fun p =>
    { p with tx := some { kind := kind, mac := n, domain := s.rd PTP.CFG_DOMAIN, l2 := s.ptpL2
                          ip := if s.ptpL2 then 0 else s.rd ETH.IPV4 n
                          tlv := decide (s.rd PTP.CFG_PROFILE = 2) && decide (kind = 11) } })

/-- Own clockIdentity: the EUI-64 of ETH0's MAC address. -/
def State.clockId (s : State) : Nat :=
  let m := s.rd ETH.MAC_ADDR 0
  (m / 2 ^ 24) * 2 ^ 40 + 0xFFFE * 2 ^ 24 + m % 2 ^ 24

/-- What the device would announce of itself. -/
def State.ownClock (s : State) : PtpClock :=
  [s.rd PTP.PRIO_PRIORITY1, 248, 0xFE, 0xFFFF, s.rd PTP.PRIO_PRIORITY2, s.clockId]

/-- a is a better master than b. -/
def clockBetter : PtpClock → PtpClock → Bool
  | a :: x, b :: y => if a < b then true else if b < a then false else clockBetter x y
  | _, _ => false

/-- PTP_STATE (Table 19.7). -/
def State.ptpRecord (s : State) : State :=
  s.post 0xA0 [(1, 1, s.rd PTP.STAT_PORT_STATE), (2, 1, b2n (s.ready 13)), (3, 1, s.rd PTP.STAT_ACTIVE_PORT),
    (8, 8, s.rd PTP.GM_ID)]

/-- The port takes a state, with its grandmaster. -/
def State.ptpPortState (s : State) (v gm : Nat) : State :=
  if s.rd PTP.STAT_PORT_STATE = v && s.rd PTP.GM_ID = gm then s
  else ((s.wr PTP.STAT_PORT_STATE v).wr PTP.GM_ID gm).ptpRecord

/-- CFG.SRC has changed: the count of R429 begins again, and so do the intervals of a lock that stands (log 143). -/
def State.ptpSrc (s : State) : State :=
  s.setPtp (fun p => { p with good := 0, syncAt := if s.ready 13 then some s.now else none })

/-- CFG has been written: the port starts or stops, and its MAC follows PORT. -/
def State.ptpSync (s : State) : State :=
  let s := if s.rd PTP.CFG_PORT = 2 then s else s.wr PTP.STAT_ACTIVE_PORT (s.rd PTP.CFG_PORT)
  let st := s.rd PTP.STAT_PORT_STATE
  if !s.rdB PTP.CFG_EN then
    (s.setPtp (fun p => { p with masters := [], best := none, two := none, dtReq := none })).ptpPortState 0 0
  else if st = 0 then
    (s.setPtp (fun p => { p with annAt := s.now })).ptpPortState psListening 0
  else if st = psMaster && s.rdB PTP.CFG_SLAVE_ONLY then s.ptpPortState psListening 0
  else s

/-! ### Lock (R429, R430) -/

/-- PTP_LOCK clears. -/
def State.ptpUnlock (s : State) : State :=
  let s := s.setPtp (fun p => { p with good := 0 })
  if !s.ready 13 then s
  else
    let s := (s.loseReady 13).probeSync
    if s.rd PTP.STAT_PORT_STATE = psSlave then s.ptpPortState psUncalibrated (s.rd PTP.GM_ID) else s.ptpRecord

/-- PTP_LOCK sets: the RTC is set from DT (R412), a lost interval that waits ends (R321), the probe is
synchronised. -/
def State.ptpLock (s : State) : State :=
  let s := (((s.readySet 13).wrB PTP.STAT_EVER_LOCKED true).rtcSet s.dtNs).lostLock.probeSync
  if s.rd PTP.STAT_PORT_STATE = psUncalibrated then s.ptpPortState psSlave (s.rd PTP.GM_ID) else s.ptpRecord

/-- An offset in ns has been measured: a step before the first lock, else a slew of at most SLEW.PPB whose value
the servo chooses (free within that bound), and the count of R429. -/
def State.ptpServo (s : State) (ofs : Int) : State :=
  let s := (s.wr PTP.OFFSET (satI32 ofs)).setPtp (fun p => { p with syncAt := some s.now })
  let s := if !s.rdB PTP.STAT_EVER_LOCKED && s.dtSteps && decide (1000 < ofs.natAbs) then
      s.dtStep ((s.dtNs : Int) - ofs).toNat 0
    else s
  let s := (s.wr PTP.FREQ (tcode (s.freeErr (s.rd PTP.SLEW)) 32)).useFree
  let good := if ofs.natAbs ≤ s.rd PTP.LOCK_LOCK_NS then s.ptp.good + 1 else 0
  let s := s.setPtp (fun p => { p with good := good })
  if s.ready 13 then s.when (s.rd PTP.LOCK_UNLOCK_NS < ofs.natAbs) (·.ptpUnlock)
  else s.when (16 ≤ good) (·.ptpLock)

/-! ### Messages (R433) -/

/-- The port follows a master. -/
def State.ptpSlave (s : State) : Bool :=
  s.rd PTP.STAT_PORT_STATE = psSlave || s.rd PTP.STAT_PORT_STATE = psUncalibrated

/-- A Sync that left the master at t1 came in at t2. -/
def State.ptpOffset (s : State) (t1 t2 : Nat) : State :=
  let s := s.setPtp (fun p => { p with last := (t1, t2), two := none })
  if s.rd PTP.CFG_SRC ≠ 0 then s else s.ptpServo ((t2 : Int) - t1 - s.rd PTP.MPD)

/-- A mean path delay in ns. -/
def State.ptpDelay (s : State) (d : Int) : State :=
  (s.wr PTP.MPD (clampI 0 max32 (d / 2)).toNat).setPtp (fun p => { p with dtReq := none })

/-- 2^k s in h, k coded in 8 bits. -/
def logSecH (k : Nat) : Nat :=
  let i := sext k 8
  if i < 0 then secH / 2 ^ i.natAbs else secH * 2 ^ i.natAbs

/-- The announce receipt timeout: three announce intervals (PRESUMED, log 70). -/
def State.annTimeout (s : State) : Nat := 3 * logSecH (s.rd PTP.INTERVALS_LOG_ANNOUNCE)

/-- The best of the masters heard. -/
def bestMaster (l : List (PtpClock × Nat)) : Option PtpClock :=
  l.foldl (fun b m => match b with
    | some c => if clockBetter m.1 c then some m.1 else b
    | none => some m.1) none

/-- An Announce of a master: of those heard within the announce receipt timeout the best is followed, unless the device is
better and may be master. -/
def State.ptpAnnounce (s : State) (gm : PtpClock) : State :=
  let l := (s.ptp.masters.filter (fun m => m.1.getLast? ≠ gm.getLast? && s.now < m.2 + s.annTimeout)) ++ [(gm, s.now)]
  let best := (bestMaster l).getD gm
  let s := s.setPtp (fun p => { p with masters := l, best := some best, annAt := s.now })
  if !s.rdB PTP.CFG_SLAVE_ONLY && clockBetter s.ownClock best then s.ptpPortState psMaster s.clockId
  else
    s.ptpPortState (if s.ptpSlave then s.rd PTP.STAT_PORT_STATE else if s.ready 13 then psSlave else psUncalibrated)
      ((best.getLast?).getD 0)

/-- PTP_MESSAGE (R429, R433): a message arrives on MAC n at `at_`; the port takes those of its domain and transport. -/
def execPtpMessage (n : Nat) (m : PtpPdu) (at_ : Nat) (s : State) : Host.Outcome State Fault Refusal :=
  s.runIf (n < 2) (fun s =>
    let s := s.to at_
    if !s.rdB PTP.CFG_EN || n ≠ s.ptpPort || !s.dtOn || !s.ptpTakes n m then s
    else
      let t := s.dtAt s.now - s.rd PTP.LAT_INGRESS_NS 0 n
      match m.msg with
      | .sync t1 => s.when s.ptpSlave (·.ptpOffset t1 t)
      | .syncTwo seq => s.when s.ptpSlave (·.setPtp (fun p => { p with two := some (seq, t) }))
      | .followUp seq t1 => (match s.ptp.two with
        | some (k, t2) => s.when (s.ptpSlave && k = seq) (·.ptpOffset t1 t2)
        | none => s)
      | .delayResp t4 => (match s.ptp.dtReq with
        | some t3 =>
          let l := s.ptp.last
          s.when (s.rd PTP.CFG_PROFILE = 0 && l ≠ (0, 0)) (·.ptpDelay (((l.2 : Int) - l.1) + ((t4 : Int) - t3)))
        | none => s)
      | .pdelayResp turn => (match s.ptp.dtReq with
        | some t1 => s.when (s.rd PTP.CFG_PROFILE ≠ 0) (·.ptpDelay ((t : Int) - t1 - turn))
        | none => s)
      | .delayReq => s.when (s.rd PTP.STAT_PORT_STATE = psMaster && s.rd PTP.CFG_PROFILE = 0) (·.ptpSend 9 1)
      | .pdelayReq =>
        s.when (s.rd PTP.CFG_PROFILE ≠ 0) (·.ptpSend 3 (if s.rdB PTP.CFG_TWO_STEP then 2 else 1))
      | .announce gm => s.ptpAnnounce gm)

/-- The number and the interval of a message the port sends. -/
def State.txOf (s : State) : PtpTx → Nat × Nat
  | .sync => (0, logSecH (s.rd PTP.INTERVALS_LOG_SYNC))
  | .announce => (1, logSecH (s.rd PTP.INTERVALS_LOG_ANNOUNCE))
  | .delayReq => (2, logSecH (s.rd PTP.INTERVALS_LOG_DELAY))
  | .pdelayReq => (3, logSecH (s.rd PTP.INTERVALS_LOG_DELAY))

/-- Its messageType (IEEE 1588-2019; PRESUMED, log 70). -/
def PtpTx.kind : PtpTx → Nat
  | .sync => 0
  | .announce => 11
  | .delayReq => 1
  | .pdelayReq => 2

/-- The port sends such messages now: a master its Sync and Announce, a slave its Delay_Req, either its
Pdelay_Req. -/
def State.txRole (s : State) : PtpTx → Bool
  | .sync => s.rd PTP.STAT_PORT_STATE = psMaster
  | .announce => s.rd PTP.STAT_PORT_STATE = psMaster
  | .delayReq => s.ptpSlave && s.rd PTP.CFG_PROFILE = 0
  | .pdelayReq => s.rd PTP.CFG_PROFILE ≠ 0

/-- PTP_MESSAGE_TRANSMIT (R433): the next message of a kind goes out at its interval. -/
def execPtpMessageTransmit (m : PtpTx) (s : State) : Host.Outcome State Fault Refusal :=
  s.run (fun s =>
    if !s.rdB PTP.CFG_EN || !s.dtOn || !s.ptpNet s.ptpPort || !s.txRole m then s
    else
      let k := s.txOf m
      let s := match tget s.ptp.sent k.1 with
        | some t => s.to (t + k.2)
        | none => s
      let n := s.ptpPort
      let two := decide (m = .sync) && s.rdB PTP.CFG_TWO_STEP
      let s := s.ptpSend m.kind (if two then 2 else 1)
      let s := s.setPtp (fun p => { p with sent := tins p.sent k.1 s.now })
      s.when (m = .delayReq || m = .pdelayReq)
        (·.setPtp (fun p => { p with dtReq := some (s.dtAt s.now + s.rd PTP.LAT_EGRESS_NS 0 n) })))

/-! ### Edges and timeouts -/

/-- PPS_IN_EDGE (R429): a rising edge of PPS_IN at `at_`. -/
def execPpsInEdge (at_ : Nat) (s : State) : Host.Outcome State Fault Refusal :=
  s.run (fun s =>
    let s := ((s.to at_).wrB PTP.STAT_PPS_IN_OK true).setPtp (fun p => { p with edgeAt := some (s.to at_).now })
    if s.rd PTP.CFG_SRC ≠ 1 || !s.dtOn then s
    else
      let r : Int := (s.dtAt s.now % 1000000000 : Nat)
      s.ptpServo (if r ≤ 500000000 then r else r - 1000000000))

/-- The instant at which three intervals have passed since the last Sync, or edge, of the source. -/
def State.syncDue (s : State) : Option Nat :=
  s.ptp.syncAt.map (fun t => t + 3 * (if s.rd PTP.CFG_SRC = 1 then secH else logSecH (s.rd PTP.INTERVALS_LOG_SYNC)))

/-- PPS_IN has shown no edge for three seconds: PPS_IN_OK clears, whatever SRC is (log 143). -/
def State.edgeLoss (s : State) : State :=
  match s.ptp.edgeAt with
  | some t =>
    s.when (t + 3 * secH ≤ s.now) (fun s => (s.wrB PTP.STAT_PPS_IN_OK false).setPtp (fun p => { p with edgeAt := none }))
  | none => s

/-- PTP_SYNC_LOSS (R429): no Sync, or no edge, for three intervals; the edges of PPS_IN may stop while Syncs still come. -/
def execPtpSyncLoss (s : State) : Host.Outcome State Fault Refusal :=
  s.run (fun s =>
    let lost (t : Nat) : State := ((s.to t).edgeLoss.setPtp (fun p => { p with syncAt := none })).ptpUnlock
    match s.syncDue, s.ptp.edgeAt with
    | none, none => s
    | none, some t => (s.to (t + 3 * secH)).edgeLoss
    | some t, none => lost t
    | some t, some u => if u + 3 * secH < t then (s.to (u + 3 * secH)).edgeLoss else lost t)

/-- ANNOUNCE_TIMEOUT (R433): no Announce within three announce intervals (PRESUMED, log 70): with PORT AUTO the port
moves to the other MAC; it becomes master where it may. -/
def execAnnounceTimeout (s : State) : Host.Outcome State Fault Refusal :=
  s.run (fun s =>
    if !s.rdB PTP.CFG_EN then s
    else
      let s := s.to (s.ptp.annAt + s.annTimeout)
      let s := s.setPtp (fun p => { p with masters := [], best := none, annAt := s.now, two := none, dtReq := none })
      let auto := decide (s.rd PTP.CFG_PORT = 2)
      let s := s.when auto (fun s => s.wr PTP.STAT_ACTIVE_PORT (1 - s.rd PTP.STAT_ACTIVE_PORT))
      let so := s.rdB PTP.CFG_SLAVE_ONLY
      let v := if so then psListening else psMaster
      let gm := if so then s.rd PTP.GM_ID else s.clockId
      if s.rd PTP.STAT_PORT_STATE = v && s.rd PTP.GM_ID = gm then s.when auto (·.ptpRecord)
      else s.ptpPortState v gm)

/-- PPS_OUT (R432): DT reaches its next whole second, and PPS_OUT rises. -/
def execPpsOut (s : State) : Host.Outcome State Fault Refusal :=
  s.run (fun s =>
    if !s.dtOn || !s.rdB PTP.PPS_OUT_EN then s
    else
      let s := s.toDt ((s.dtNs / 1000000000 + 1) * 1000000000)
      s.setPtp (fun p => { p with ppsAt := some s.now }))

/-- The level of PPS_OUT (R432): high for WIDTH_MS from its rise. -/
def State.ppsOut (s : State) : Bool :=
  match s.ptp.ppsAt with
  | some t => decide (s.now < t + s.rd PTP.PPS_WIDTH_MS * msH)
  | none => false

/-- Entry into WAKE. -/
def State.ptpWake (s : State) : State := { s with ptp := {} }

end Sys2Proof.Machine
end

