-- ==== Sys2Proof/Machine/Net.lean ====
section
/-!
DEFINITION. The safe-frame connection (R394 to R398) and the Ethernet MACs with their MDIO master (R444).
-/
namespace Sys2Proof.Machine

/-! ### Safe frames -/

/-- The CRC of a safe PDU over its bytes 0 to 27 (R394). -/
def pduCrc (seed : Nat) (l : List Nat) : Nat := crc32c seed (l.take 28)

/-- A command copy is valid (R395). -/
def State.pduValid (s : State) (f : SafeFrame) : Bool :=
  let b := f.pdu
  f.udpLen = 40 && b.length = 32 && b.take 4 = [0x49, 0x53, 0x46, 0x31] && leAt b 4 1 = 1 &&
    leAt b 6 2 = s.sa SAF.NETCFG_CONN && leAt b 28 4 = pduCrc (s.sa SAF.NETSEED) b &&
    decide (1 ≤ leAt b 12 2) && decide (leAt b 12 2 ≤ 100) &&
    [5, 14, 15, 18, 19, 20, 21, 22, 23, 24, 25, 26, 27].all (fun i => leAt b i 1 = 0)

/-- STAT.NETn_DOWN. -/
def netDown (n : Nat) : Fld := if n = 0 then SAF.STAT_NET0_DOWN else SAF.STAT_NET1_DOWN

/-- The effective timeout in h (R397). -/
def State.frameT (s : State) (c : SafeCmd) : Nat := Nat.min c.tmo (s.sa SAF.NETTIMING_TMO_MAX) * msH

/-- The command last accepted is confirmed (R396): its permits act, and a rise of RESET_REQ asks for a reset. -/
def State.safConfirm (s : State) : State :=
  match s.saf.cmd with
  | none => s
  | some c =>
    if c.confirmed then s
    else
      let cmd := leAt c.pdu 16 1
      let rise := bit cmd 1 && s.saf.conf.isSome && !s.saf.resetWas
      s.setSaf (fun v => { v with
        cmd := some { c with confirmed := true }
        conf := some (c.seq, cmd, leAt c.pdu 17 1)
        resetWas := bit cmd 1
        resets := if rise then v.resets ++ [(1, none)] else v.resets })

/-- A valid copy has come on network n: the network is up. -/
def State.netUp (s : State) (n at_ : Nat) : State :=
  let s := s.setSaf (fun v => { v with netAt := tput v.netAt n (at_ + 1) 0 })
  if s.rdB (netDown n) then (s.wrB (netDown n) false).safPost 0x7C [(1, 1, n), (2, 1, 1)] else s

/-- The copy on network n is accepted and becomes L (R395, R396). -/
def State.safAccept (s : State) (n : Nat) (f : SafeFrame) : State :=
  let seq := leAt f.pdu 8 4
  let c : SafeCmd := { seq := seq, net := n, pdu := f.pdu, at_ := s.now, tmo := leAt f.pdu 12 2 }
  let s := (s.count SAF.RX_OK 0 n).wr SAF.LAST_SEQ seq
  let s := s.setSaf (fun v => { v with
    cmd := some c, timedOut := false
    twins := v.twins ++ [(1 - n, seq, s.now + s.frameT c)]
    peer := tput v.peer n (f.mac, f.ip) (0, 0) })
  let s := s.when (!bit (leAt f.pdu 16 1) 0) (·.safLatch sFrameDemand n)
  if s.rdB (netDown (1 - n)) && s.saB SAF.CFG_SINGLE_OK then s.safConfirm else s

/-- The twin of L has come on network n: it is compared, and confirms the command or latches FRAME_COMPARE. -/
def State.safTwin (s : State) (n : Nat) (c : SafeCmd) (f : SafeFrame) : State :=
  let s := s.setSaf (fun v => { v with
    twins := v.twins.filter (fun t => t.2.1 ≠ c.seq)
    peer := tput v.peer n (f.mac, f.ip) (0, 0) })
  if f.pdu.take 28 = c.pdu.take 28 then s.safConfirm else s.safLatch sFrameCompare n

/-- SAFE_FRAME_RECEIVE (R394, R395): the safe-frame engine takes the oldest frame of MAC n. -/
def execSafeFrameReceive (n : Nat) (s : State) : Host.Outcome State Fault Refusal :=
  s.runIf (n < 2) (fun s =>
    match tgetD s.saf.rx n [] with
    | [] => s
    | f :: rest =>
      if !s.safUp then s
      else
        let s := s.setSaf (fun v => { v with rx := tput v.rx n rest [] })
        let bad (s : State) : State := s.count SAF.RX_BAD 0 n
        if !s.saB SAF.NETCFG_EN || !s.pduValid f then bad s
        else
          let seq := leAt f.pdu 8 4
          let s := s.netUp n f.at_
          match s.saf.cmd with
          | none => s.safAccept n f
          | some c =>
            let d := (seq + 2 ^ 32 - c.seq) % 2 ^ 32
            if 1 ≤ d ∧ d ≤ 255 then s.safAccept n f
            else if d = 0 ∧ c.net ≠ n then s.safTwin n c f
            else bad s)

/-- FRAME_TIMEOUT (R397): no command has been accepted within the effective timeout of the last. -/
def execFrameTimeout (s : State) : Host.Outcome State Fault Refusal :=
  s.run (fun s =>
    match s.saf.cmd with
    | none => s
    | some c =>
      if !s.safUp || !s.saB SAF.NETCFG_EN || s.saf.timedOut then s
      else ((s.to (c.at_ + s.frameT c)).setSaf (fun v => { v with timedOut := true })).safLatch sFrameTimeout c.net)

/-- NETWORK_DOWN (R397): network n has delivered no valid copy for 3 × T while the other does. -/
def execNetworkDown (n : Nat) (s : State) : Host.Outcome State Fault Refusal :=
  s.runIf (n < 2) (fun s =>
    match s.saf.cmd with
    | none => s
    | some c =>
      let last := tgetD s.saf.netAt n 0
      let other := tgetD s.saf.netAt (1 - n) 0
      if !s.safUp || !s.saB SAF.NETCFG_EN || s.rdB (netDown n) || other ≤ last then s
      else
        let s := s.to (last - 1 + 3 * s.frameT c)
        let s := (s.wrB (netDown n) true).safPost 0x7C [(1, 1, n)]
        s.when (s.saB SAF.CFG_BOTH_REQ) (·.safLatch sFrameTimeout n))

/-- MISSING_TWIN (R395): the twin of an accepted copy has not come within the effective timeout. -/
def execMissingTwin (s : State) : Host.Outcome State Fault Refusal :=
  s.run (fun s =>
    match s.saf.twins with
    | [] => s
    | t :: rest =>
      if !s.safUp then s
      else ((s.to t.2.2).setSaf (fun v => { v with twins := rest })).count SAF.MISS 0 t.1)

/-- The bytes of the next status PDU (Table 17.4). -/
def State.statusPdu (s : State) (seq : Nat) : List Nat :=
  let pairs := maskOf ((List.range 8).filter (fun i => s.sa SAF.IN_FUNC i ≠ 0 && s.pairOn i))
  let outs := maskOf ((List.range 4).filter (fun o => s.rdB SAF.OUTSTAT_P 0 o && s.rdB SAF.OUTSTAT_N 0 o))
  let flags := s.rd SAF.STAT_INHIBIT + 2 * s.rd SAF.STAT_DEMAND + 4 * s.rd SAF.STAT_FAULT +
    8 * s.rd SAF.STAT_NET0_DOWN + 16 * s.rd SAF.STAT_NET1_DOWN
  let echo := match s.saf.conf with
    | some c => c.1
    | none => 0
  let body := [0x49, 0x53, 0x46, 0x31, 2, 0] ++ leBytes (s.sa SAF.NETCFG_CONN) 2 ++ leBytes seq 4 ++
    leBytes (s.sa SAF.NETTIMING_TMO_MAX) 2 ++ [0, 0, pairs, outs, s.rd SAF.STAT_DC + 16 * s.rd SAF.STAT_AC,
      s.rd SAF.STAT_CODE, flags, 0, 0, 0] ++ leBytes echo 4
  body ++ leBytes (pduCrc (s.sa SAF.NETSEED) body) 4

/-- STATUS_FRAME_SEND (R394): every STATUS_MS the island sends its status on both MACs, to the peer of the last command
accepted there. -/
def execStatusFrameSend (s : State) : Host.Outcome State Fault Refusal :=
  s.run (fun s =>
    if !s.safUp || !s.saB SAF.NETCFG_EN then s
    else
      let s := s.to (s.saf.stAt + s.sa SAF.NETTIMING_STATUS_MS * msH)
      let seq := (s.saf.stSeq + 1) % 2 ^ 32
      let pdu := s.statusPdu seq
      let s := s.setSaf (fun v => { v with stSeq := seq, status := pdu, stAt := s.now })
      s.each ((List.range 2).filter (fun n => (s.saf.peer.map (·.1)).contains n && s.rdB ETH.CFG_EN n))
        (fun n s => s.count ETH.TX_OK n))

/-! ### MACs (R444) -/

/-- The frames that the buffer of MAC n holds: those of the safe-frame engine beyond queue 88 + n. -/
def State.macHeld (s : State) (n : Nat) : Nat :=
  (((tgetD s.saf.rx n []).drop 4).map (·.len)).foldl (· + ·) 0

/-- A frame for the safe-frame engine reaches queue 88 + n, or waits in the MAC buffer (Table 1.6). -/
def State.safeRx (s : State) (n : Nat) (f : SafeFrame) : State :=
  let l := tgetD s.saf.rx n []
  let s := s.setSaf (fun v => { v with rx := tput v.rx n (l ++ [f]) [] })
  if l.length < 4 then s.queueHolds (88 + n) (l.length + 1) else s.stallCount (88 + n)

/-- The MAC answers ARP for this address. -/
def State.ownIp (s : State) (n ip : Nat) : Bool :=
  ip ≠ 0 && (ip = s.rd ETH.IPV4 n || (s.has 16 && ip = s.sa SAF.LOCAL_IP n))

/-- MAC n takes a frame so addressed (R444): of the PTP multicast addresses those of the transport in force, and that of peer
delay messages with a peer-to-peer profile (PRESUMED, log 70). -/
def State.macTakes (s : State) (n : Nat) : EthDst → Bool
  | .unicast m => m = s.rd ETH.MAC_ADDR n
  | .broadcast => true
  | .ptpMulticast l2 pdelay => l2 = s.ptpL2 && (!pdelay || decide (s.rd PTP.CFG_PROFILE ≠ 0))
  | .multicast => false

/-- The frame is discarded as one that would have been a safe frame (R443). -/
def State.macSafeOnly (s : State) : EthBody → Bool
  | .udp _ _ _ => !s.has 16
  | _ => false

/-- ETH_FRAME_RECEIVE (R443, R444): a frame reaches MAC n at instant `at_`. -/
def execEthFrameReceive (n : Nat) (f : EthFrame) (at_ : Nat) (s : State) : Host.Outcome State Fault Refusal :=
  s.runIf (n < 2) (fun s =>
    let s := s.to at_
    if !s.macRuns n then s
    else if f.bad then s.count ETH.RX_ERR n
    else if !s.macTakes n f.dst || s.macSafeOnly f.body then s.count ETH.RX_OTHER n
    else if 8192 < s.macHeld n + f.len then s.count ETH.RX_DROP n
    else
      let s := s.count ETH.RX_OK n
      match f.body with
      | .arp ip => s.when (s.ownIp n ip) (·.count ETH.TX_OK n)
      | .udp ip port g =>
        s.when (ip ≠ 0 && ip = s.sa SAF.LOCAL_IP n && port = s.sa SAF.NETPORT)
          (·.safeRx n { g with len := f.len, at_ := s.now })
      | .ptp _ _ => s
      | .other => s)

/-- ETH_LINK_CHANGE (R444): the in-band status of MAC n. -/
def execEthLinkChange (n : Nat) (up : Bool) (speed : Nat) (s : State) : Host.Outcome State Fault Refusal :=
  s.runIf (n < 2) (fun s => (s.wrB ETH.STAT_LINK up n).wr ETH.STAT_PHY_SPEED speed n)

/-- The counters of MAC n clear. -/
def State.ethCntClr (s : State) (n : Nat) : State :=
  s.each [ETH.RX_OK, ETH.RX_DROP, ETH.RX_ERR, ETH.RX_OTHER, ETH.TX_OK] (fun f s => s.wr f 0 n)

/-- ETH_CNT_CLR: a write of 1 to ETH[n].CTRL.CNT_CLR. -/
def execEthCntClr (n : Nat) (s : State) : Host.Outcome State Fault Refusal :=
  s.runIf (n < 2) (fun s => s.hostWrite (·.ethCntClr n))

/-- A write of 1 to MDIO_CMD.GO with these fields: discarded while an access is in progress. -/
def State.mdioGo (s : State) (op phy reg data : Nat) : State :=
  if s.rdB MDIO.STAT_BUSY then s.accessError 0 4 1 0x130200
  else if op ≠ 1 ∧ op ≠ 2 then s
  else { s with eth := { s.eth with mdio := some (op = 1, phy, reg, data, s.now) } }.wrB MDIO.STAT_BUSY true

/-- MDIO_ACCESS_DONE (R444): 25.6 µs after GO; a read has found `data`. -/
def execMdioAccessDone (data : Nat) (s : State) : Host.Outcome State Fault Refusal :=
  s.run (fun s =>
    match s.eth.mdio with
    | none => s
    | some (w, _, _, _, t) =>
      let s := ({ s with eth := { s.eth with mdio := none } }.to (t + 327680)).wrB MDIO.STAT_BUSY false
      if w then s else s.wr MDIO.STAT_DATA data)

/-- The counters of the safe frames clear. -/
def State.safCntClr (s : State) : State :=
  s.each [0, 1] (fun n s => s.each [SAF.RX_OK, SAF.RX_BAD, SAF.MISS] (fun f s => s.wr f 0 0 n))

/-- SAF_CNT_CLR (R404): a write of 1 to SAF.CTRL.CNT_CLR. -/
def execSafCntClr (s : State) : Host.Outcome State Fault Refusal :=
  s.run (fun s => s.hostWrite (fun s => if s.has 16 then s.safCntClr else s))

end Sys2Proof.Machine
end

