-- ==== Sys2Proof/Machine/Mem.lean ====
section
/-!
DEFINITION. The capture memory (spec 15): words with their error correction, the leaky bucket, remap entries, the
flip mask and the test port, initialisation and scrubbing. Clients reach it by memRead and memWrite alone; those
of Sieve, Trellis and the dump are in their own files.
-/
namespace Sys2Proof.Machine

/-! ### Where a word lies (R353) -/

/-- The remap entry that redirects a granule. -/
def State.remapOf (s : State) (g : Nat) : Option Nat :=
  (List.range 16).find? (fun i => s.rdB MEM.REMAP_VALID 0 i && s.rd MEM.REMAP_GRANULE 0 i = g)

/-- The place of the word at CA 8·w: its number in the die, and whether PMASK marks it uncorrectable. -/
def State.memPlace (s : State) (w : Nat) : Nat × Bool :=
  match s.remapOf (w / 8) with
  | some i => (8 * i + w % 8, bit (s.rd MEM.REMAP_PMASK 0 i) (w % 8))
  | none => (w, false)

def State.memCell (s : State) (p : Nat) : MemWord := tgetD s.capmem p {}
def State.memSet (s : State) (p : Nat) (m : MemWord) : State := { s with capmem := tput s.capmem p m {} }

/-- What an uncorrectable word delivers (R351). -/
def memBad : Nat := 2 ^ 64 - 1

/-- What the code gives for a stored word: 0 no error, 1 corrected, 2 uncorrectable, with its data. With three or
more bits in error the result is whatever SECDED yields (R357): a free value. -/
def State.secded (s : State) (m : MemWord) : Nat × Nat :=
  match (onesOf m.err 72).length with
  | 0 => (0, m.data)
  | 1 => (1, m.data)
  | 2 => (2, memBad)
  | _ => let k := s.freeVal % 3; (k, if k = 2 then memBad else Config.freeValue (s.free + 1) % 2 ^ 64)

/-! ### Counting and remapping (R350 to R354) -/

/-- The leaks that are due by now are applied (R352). -/
def State.bucketLeaks (s : State) : State :=
  let p := s.rd MEM.BUCKET_LEAK * msH
  let n := if p = 0 then 0 else (s.now - s.mem.leakAt) / p
  if n = 0 then s
  else ({ s with mem := { s.mem with leakAt := s.mem.leakAt + n * p } }).wr MEM.BUCKET_LEVEL (s.rd MEM.BUCKET_LEVEL - n)

/-- A corrected word goes into the bucket, after a leak of the same cycle. -/
def State.bucketAdd (s : State) : State :=
  let s := s.bucketLeaks
  let l := s.rd MEM.BUCKET_LEVEL + 1
  if s.rd MEM.BUCKET_SIZE < l then ((s.wr MEM.BUCKET_LEVEL 0).count MEM.OVF_CNT).fltOccur fsCmCeOvf 0
  else s.wr MEM.BUCKET_LEVEL l

/-- A read of the word at w corrects it (R350). -/
def State.memCorrected (s : State) (w : Nat) : State := ((s.count MEM.CE_CNT).wr MEM.CE_ADDR (8 * w)).bucketAdd

/-- A read of the word at w finds it uncorrectable (R351). -/
def State.memFailed (s : State) (w : Nat) : State :=
  let s := (s.count MEM.UE_CNT).fltOccur fsCmUe 0
  if s.rdB MEM.UE_ADDR_VALID then s else (s.wrB MEM.UE_ADDR_VALID true).wr MEM.UE_ADDR_CA (8 * w)

/-- The copy of the word at w reads it for place p, and errors count as on every read (R350, R354). -/
def State.memCopy (s : State) (w p : Nat) : State :=
  let r := s.secded (s.memCell w)
  match r.1 with
  | 0 => s.memSet p { data := r.2 }
  | 1 => (s.memCorrected w).memSet p { data := r.2 }
  | _ => (s.memFailed w).memSet p {}

/-- An entry is installed for a granule: the lowest free one, with the granule's words copied to its spare. -/
def State.memInstall (s : State) (g : Nat) (copy : Bool) : State :=
  if (s.remapOf g).isSome then s
  else
    let free := (List.range 16).filter (fun i => !s.rdB MEM.REMAP_VALID 0 i && !s.rdB MEM.REMAP_BAD 0 i)
    let full (s : State) : State := (s.wrB MEM.STAT_REMAP_FULL true).fltLevel fsCmRemapFull 0 true
    match free with
    | [] => full s
    | i :: rest =>
      let bad := (List.range 8).filter (fun j => (s.secded (s.memCell (8 * g + j))).1 = 2)
      let s := s.when copy (fun s => s.each (List.range 8) (fun j s => s.memCopy (8 * g + j) (8 * i + j)))
      let s := ((s.wrB MEM.REMAP_VALID true 0 i).wr MEM.REMAP_GRANULE g 0 i).wr MEM.REMAP_PMASK
        (if copy then maskOf bad else 0) 0 i
      let s := s.when (copy && !s.mem.nvmRemap.contains g) (fun s =>
        { s with mem := { s.mem with nvmRemap := s.mem.nvmRemap ++ [g] } })
      s.when rest.isEmpty full

/-- What a read of the word at w that met an error brings about. -/
def State.memError (s : State) (w kind : Nat) : State :=
  if kind = 1 then s.memCorrected w
  else if kind = 2 then (s.memFailed w).when (s.rdB MEM.CFG_AUTO_REMAP) (·.memInstall (w / 8) true)
  else s

/-- A client reads the word at CA 8·w: what is delivered, and whether it is uncorrectable. -/
def State.memRead (s : State) (w : Nat) : State × Nat × Bool :=
  let p := s.memPlace w
  let r := if p.2 then (2, memBad) else s.secded (s.memCell p.1)
  if r.1 = 0 then (s, r.2, false) else ((s.useFree.useFree.memError w r.1), r.2, decide (r.1 = 2))

/-- The word m is stored at place p for the word at CA 8·w: an armed flip of that word is applied and used up (R357). -/
def State.memStore (s : State) (w p : Nat) (m : MemWord) : State :=
  if s.rdB MEM.FLIP_CTRL && s.rd MEM.FLIP_ADDR = w then
    (s.memSet p { m with err := m.err ^^^ (s.rd MEM.FLIP_LO + s.rd MEM.FLIP_HI <<< 64) }).wrB MEM.FLIP_CTRL false
  else s.memSet p m

/-- A client writes the whole word at CA 8·w. -/
def State.memWrite (s : State) (w v : Nat) : State :=
  let p := (s.memPlace w).1
  let s := match s.remapOf (w / 8) with
    | some i => s.wr MEM.REMAP_PMASK (putBits (s.rd MEM.REMAP_PMASK 0 i) (w % 8) 1 0) 0 i
    | none => s
  s.memStore w p { data := v % 2 ^ 64 }

/-- A write of n bytes at byte o of the word at w, which merges into what a read delivers; an uncorrectable word
stays so, by its check bits (R351). -/
def State.memMerge (s : State) (w o n v : Nat) : State :=
  let r := s.memRead w
  let v := putBits r.2.1 (8 * o) (8 * n) (v % 2 ^ (8 * n))
  if r.2.2 then
    r.1.memStore w (r.1.memPlace w).1 { data := v, err := 3 <<< 64 }
  else r.1.memWrite w v

/-- Bytes written from CA a on, word by word. -/
def State.memPut (s : State) (a : Nat) (b : List Nat) : State :=
  let w0 := a / 8
  let w1 := (a + b.length + 7) / 8
  s.each ((List.range (w1 - w0)).map (w0 + ·)) (fun w s =>
    let lo := Nat.max a (8 * w)
    let hi := Nat.min (a + b.length) (8 * w + 8)
    let v := leAt b (lo - a) (hi - lo)
    if hi - lo = 8 then s.memWrite w v else s.memMerge w (lo - 8 * w) (hi - lo) v)

/-- Words read from CA 8·w on: the state, the words, and the CA of the first granule with an uncorrectable one. -/
def State.memGet (s : State) (w n : Nat) : State × List Nat × Option Nat :=
  (List.range n).foldl (fun a i =>
    let r := a.1.memRead (w + i)
    (r.1, a.2.1 ++ [r.2.1], if r.2.2 && a.2.2.isNone then some ((w + i) / 8 * 64) else a.2.2)) (s, [], none)

/-- Bits of the die flip by themselves: a mask over the 72-bit code word at CA 8·w. -/
def State.memDecay (s : State) (w mask : Nat) : State :=
  let p := (s.memPlace w).1
  let m := s.memCell p
  s.memSet p { m with err := (m.err ^^^ mask) % 2 ^ 72 }

/-- A system client has made n requests of the memory, each of one burst of 64 B, and for a read has had their returns
(queues 83 and 84 of Table 1.6; log 111). -/
def State.memReq (s : State) (n : Nat) (read : Bool) : State :=
  (s.queuePass 83 n).when read (·.queuePass 84 n)

/-! ### Initialisation (R349) -/

/-- The n-th MiB is written with zeros and valid check bytes (R349): a redirected granule in its spare, which full
writes also clear of PMASK (R354), and with them an armed flip of one of its words is used up (R357). -/
def State.memZero (s : State) (n : Nat) : State :=
  let mine (g : Nat) : Bool := g / 16384 = n
  let spares := (List.range 16).filter (fun i => s.rdB MEM.REMAP_VALID 0 i && mine (s.rd MEM.REMAP_GRANULE 0 i))
  let zeroed (p : Nat) : Bool := (mine (p / 8) && (s.remapOf (p / 8)).isNone) || (decide (p < 128) && spares.contains (p / 8))
  let s := { s with capmem := tkeep s.capmem (fun p => !zeroed p) }
  let s := s.each spares (fun i s => s.wr MEM.REMAP_PMASK 0 0 i)
  let w := s.rd MEM.FLIP_ADDR
  s.when (s.rdB MEM.FLIP_CTRL && w / 131072 = n) (fun s => s.memStore w (s.memPlace w).1 {})

/-- MEMORY_INIT_STEP (R349, R353): another MiB has been written with zeros by the instant `at_`; in the first one
the spare granules have been tested, and those of the mask `bad` failed. Before READY.MEM the logged granules are
installed again (R354). -/
def execMemoryInitStep (at_ bad : Nat) (s : State) : Host.Outcome State Fault Refusal :=
  s.run (fun s =>
    let n := s.rd MEM.STAT_INIT_MIB
    if 112 ≤ n then s
    else
      let s := ((s.to at_).memZero n).wr MEM.STAT_INIT_MIB (n + 1)
      let s := s.when (n = 0) (fun s => s.each (onesOf bad 16) (fun i s =>
        (s.wrB MEM.REMAP_BAD true 0 i).fltOccur fsCmSpareBad i))
      let s := s.when (n + 1 = 16) (fun s =>
        (s.each s.mem.nvmRemap (fun g s => s.memInstall g false)).readySet 39)
      s.when (n + 1 = 112) (fun s => ((s.wrB MEM.STAT_INIT_DONE true).readySet 44).fltLevel fsCmInitLate 0 false))

/-- MEMORY_INIT_LATE (R349): READY.MEM_ALL is still clear 1.5 s after main supplies good. -/
def execMemoryInitLate (s : State) : Host.Outcome State Fault Refusal :=
  s.run (fun s =>
    if s.ready 44 then s else (s.to (s.mm.goodAt + 1500 * msH)).fltSet fsCmInitLate 0)

/-! ### Bucket, scrub (R352, R355) -/

/-- BUCKET_LEAK (R352). -/
def execBucketLeak (s : State) : Host.Outcome State Fault Refusal :=
  s.run (fun s =>
    (s.to (s.mem.leakAt + s.rd MEM.BUCKET_LEAK * msH)).bucketLeaks)

/-- The granules, by CA / 64, in which a word of the initialised memory is in error. -/
def State.badGranules (s : State) : List Nat :=
  let die := (s.capmem.filter (fun e => e.2.err ≠ 0)).map (fun e => e.1 / 8)
  let l := die.flatMap (fun g =>
    (if g < 16 && s.rdB MEM.REMAP_VALID 0 g then [s.rd MEM.REMAP_GRANULE 0 g] else [])
      ++ (if (s.remapOf g).isSome then [] else [g]))
  let marked := (List.range 16).filter (fun i => s.rdB MEM.REMAP_VALID 0 i && s.rd MEM.REMAP_PMASK 0 i ≠ 0)
  (l ++ marked.map (fun i => s.rd MEM.REMAP_GRANULE 0 i)).eraseDups.filter
    (fun g => g < 16384 * s.rd MEM.STAT_INIT_MIB)

/-- The scrub reads one granule: single-bit words are written back corrected; whether one was. -/
def State.scrubGranule (s : State) (g : Nat) : State × Bool :=
  (List.range 8).foldl (fun a j =>
    let w := 8 * g + j
    let p := a.1.memPlace w
    let k := if p.2 then 2 else (a.1.secded (a.1.memCell p.1)).1
    let v := (a.1.secded (a.1.memCell p.1)).2
    if k = 0 then a
    else
      let s := a.1.useFree.useFree.memError w k
      if k = 1 then (s.memSet (s.memPlace w).1 { data := v }, true) else (s, a.2)) (s, false)

/-- SCRUB_PASS (R354, R355): the pass in hand, which reads every granule once within SCRUB_H hours, is complete. -/
def execScrubPass (s : State) : Host.Outcome State Fault Refusal :=
  s.run (fun s =>
    match s.mem.scrubAt, s.hoeRuns && !s.rdB HOE.STAT_SHED with
    | none, _ => s
    | some _, false => s
    | some t, true =>
      let s := s.to (t + s.mem.scrubH * 3600 * secH)
      let r := s.badGranules.foldl (fun (a : State × List Nat) g =>
        let x := a.1.scrubGranule g
        let again := x.2 && s.mem.corrected.contains g && s.rdB MEM.CFG_AUTO_REMAP
        (if again then x.1.memInstall g true else x.1, if x.2 then a.2 ++ [g] else a.2)) (s, [])
      let s := r.1
      let s := { s with mem := { s.mem with corrected := r.2, scrubAt := some s.now, scrubH := s.rd MEM.CFG_SCRUB_H } }
      (((s.count MEM.SCRUB_PASS).wr MEM.SCRUB_DT s.dtNs).memReq 1 true).hoeDone 0)

/-- The scrub begins, from READY.HOE on. -/
def State.scrubStart (s : State) : State :=
  if s.mem.scrubAt.isSome then s
  else
    ({ s with mem := { s.mem with scrubAt := some s.now, scrubH := s.rd MEM.CFG_SCRUB_H } }).wrB MEM.STAT_SCRUBBING
      true

/-! ### Flip mask, test port, remap command (R354, R357, R358) -/

/-- FLIP_ARM (R357): FLIP_CTRL.ARM is written 1 in SERVICE or FACTORY; elsewhere the write is refused (R12). -/
def execFlipArm (s : State) : Host.Outcome State Fault Refusal :=
  s.run (fun s => s.hostWrite (fun s =>
    if s.modeAdmits .sf then s.wrB MEM.FLIP_CTRL true
    else
      let v := s.rd MEM.FLIP_CTRL
      s.checkRec 3 .bar0 (MEM.FLIP_CTRL.addr 0 0) 0 1 v))

/-- A test port access begins (R358): it ends within 2 µs. -/
def State.testGo (s : State) (write : Bool) : State :=
  let s := s.each [MEM.TEST_STAT_DONE, MEM.TEST_STAT_CE, MEM.TEST_STAT_UE] (fun f s => s.wr f 0)
  { s with mem := { s.mem with test := some (s.now, write) } }

/-- TEST_PORT_GO (R358): TEST_CTRL is written with GO, in SERVICE or FACTORY. -/
def execTestPortGo (write : Bool) (s : State) : Host.Outcome State Fault Refusal :=
  s.run (fun s => s.hostWrite (fun s => if s.modeAdmits .sf then s.testGo write else s))

/-- TEST_PORT_DONE (R358): the access is made and DONE sets, with CE or UE, 2 µs after its start at the latest. -/
def execTestPortDone (s : State) : Host.Outcome State Fault Refusal :=
  s.run (fun s =>
    match s.mem.test with
    | none => s
    | some (t, write) =>
      let s := s.to (t + 2 * usH)
      let s := { s with mem := { s.mem with test := none } }
      let w := s.rd MEM.TEST_ADDR
      if write then (s.memWrite w (s.rd MEM.TEST_DATA)).wrB MEM.TEST_STAT_DONE true
      else
        let p := s.memPlace w
        let ce := !p.2 && (s.secded (s.memCell p.1)).1 = 1
        let r := s.memRead w
        let s := (r.1.wr MEM.TEST_DATA r.2.1).wrB MEM.TEST_STAT_DONE true
        (s.wrB MEM.TEST_STAT_CE ce).wrB MEM.TEST_STAT_UE r.2.2)

/-- REMAP_CMD with GO for a granule of the memory. -/
def State.remapCmd (s : State) (g : Nat) : State := if g < 0x1C0000 then s.memInstall g true else s

/-- REMAP_CMD (R354): outside SERVICE and FACTORY it is ignored and reported under R12. -/
def execRemapCmd (g : Nat) (s : State) : Host.Outcome State Fault Refusal :=
  s.run (fun s => s.hostWrite (fun s =>
    if s.modeAdmits .sf then s.remapCmd (g % 2 ^ 21)
    else s.checkRec 3 .bar0 (MEM.REMAP_CMD_GO.addr 0 0) 31 1 0))

def State.memCntClr (s : State) : State := s.each [MEM.CE_CNT, MEM.UE_CNT, MEM.OVF_CNT] (fun f s => s.wr f 0)

/-- MEM_CNT_CLR (R359). -/
def execMemCntClr (s : State) : Host.Outcome State Fault Refusal :=
  s.run (fun s => s.hostWrite (·.memCntClr))

/-- Entry into WAKE: every word is to be written with zeros, and the remap table is empty (R349). -/
def State.memWake (s : State) : State :=
  { s with capmem := [], mem := { leakAt := s.now, nvmRemap := s.mem.nvmRemap } }

end Sys2Proof.Machine
end

