-- ==== Sys2Proof/Machine/Sieve.lean ====
section
/-!
DEFINITION. Sieve's capture engines and trace streams (spec 14) and their bursts into capture memory (R337, R348).
The trigger units are in Machine/Store.lean.
-/
namespace Sys2Proof.Machine

/-- The capture address of the Sieve region (Table 15.1). -/
def sieveBase : Nat := 0x490000

/-- SIE.REGION: the initialised units of the region (R349). -/
def State.sieRegion (s : State) : Nat := 256 * s.rd MEM.STAT_INIT_MIB - 1168

/-- Sieve works (R326, R370). -/
def State.sieRuns (s : State) : Bool := s.ready 40 && !s.rdB FLT.STAT_FATAL_HOLD

/-- Bytes written to a ring from a byte count on. -/
def State.ringPut (s : State) (base len count : Nat) (b : List Nat) : State :=
  let o := count % len
  (s.memPut (base + o) (b.take (len - o))).memPut base (b.drop (len - o))

/-! ### Staging (R337) -/

def State.cap (s : State) (e : Nat) : Option CapSt := tgetD s.caps e none
def State.setCap (s : State) (e : Nat) (c : Option CapSt) : State := { s with caps := tput s.caps e c none }
def State.trs (s : State) (t : Nat) : TrsSt := tgetD s.trss t {}
def State.setTrs (s : State) (t : Nat) (x : TrsSt) : State := { s with trss := tput s.trss t x {} }

/-- The staged bytes of producer p: engines 0 to 7, then the streams. -/
def State.stagedOf (s : State) (p : Nat) : List Nat :=
  if p < 8 then (match s.cap p with
    | some c => c.staged
    | none => []) else (s.trs (p - 8)).staged

/-- The bursts of 64 B that wait. -/
def State.sieBursts (s : State) : Nat := (List.range 24).foldl (fun a p => a + ceilDiv (s.stagedOf p).length 64) 0

/-- Where `was` bursts waited, more do: those beyond the 64 credits of queue 74 wait for one, and each counts once (R25). -/
def State.sieQueue (s : State) (was : Nat) : State :=
  let n := s.sieBursts
  (s.queueHolds 74 (Nat.min 64 n)).each (List.range (Nat.max 64 n - Nat.max 64 was)) (fun _ s => s.stallCount 74)

def CapSt.ringBase (c : CapSt) : Nat := sieveBase + 4096 * c.cfg.base + 128
def CapSt.ringLen (c : CapSt) : Nat := 4096 * c.cfg.size - 128

/-- Engine e writes up to n staged bytes to memory; WOFF follows (R336). -/
def State.capFlush (s : State) (e n : Nat) : State :=
  match s.cap e with
  | none => s
  | some c =>
    let s := s.ringPut c.ringBase c.ringLen c.written (c.staged.take n)
    let w := c.written + (c.staged.take n).length
    let whole := c.items.foldl (fun a x => if x.start + x.len ≤ w then Nat.max a (x.start + x.len) else a) c.whole
    (s.setCap e (some { c with written := w, staged := c.staged.drop n, whole := whole })).wr CAP.WOFF
      (whole % c.ringLen) e

/-- Stream t writes a burst to memory. -/
def State.trsFlush (s : State) (t : Nat) : State :=
  let x := s.trs t
  let b := x.staged.take 64
  (s.ringPut (sieveBase + 4096 * x.base) (4096 * x.size) x.written b).setTrs t
    { x with written := x.written + b.length, staged := x.staged.drop 64 }

/-- CAPTURE_MEMORY_ACCESS (R337, R348): in round robin, the next producer with a burst writes it. Before it, the
bits of `mask` of the code word at CA 8·w have flipped in the die. -/
def execCaptureMemoryAccess (w mask : Nat) (s : State) : Host.Outcome State Fault Refusal :=
  s.runIf (w < 0xE00000) (fun s =>
    let s := s.when (mask != 0) (·.memDecay w mask)
    let order := (List.range 24).map (fun i => (s.mem.rr + 1 + i) % 24)
    match order.find? (fun p => !(s.stagedOf p).isEmpty) with
    | none => s
    | some p =>
      let s : State := { s with mem := { s.mem with rr := p } }
      if p < 8 then s.capFlush p 64 else s.trsFlush (p - 8))

/-! ### Trace streams (R340, R341) -/

/-- The bytes of a trace record. -/
def traceBytes (node dropped num dt : Nat) (vals : List Nat) : List Nat :=
  let b := leBytes node 2 ++ [vals.length, dropped] ++ leBytes num 4 ++ leBytes dt 8 ++ vals.flatMap (leBytes · 4)
  b ++ List.replicate (vals.length % 2 * 4) 0

/-- A record of stream t is dropped. -/
def State.traceDrop (s : State) (t : Nat) : State :=
  let x := s.trs t
  let s := s.count TRS.DROP_CNT t
  let due := match x.evtAt with
    | some a => decide (a + msH ≤ s.now)
    | none => true
  let s := s.setTrs t { x with dropped := Nat.min 255 (x.dropped + 1), evtAt := if due then some s.now else x.evtAt }
  s.when due (·.post 0x53 [(1, 1, t), (8, 4, s.rd TRS.DROP_CNT t)])

/-- A TRC firing hands its record to stream t. -/
def State.traceRecord (s : State) (t node num dt : Nat) (vals : List Nat) : State :=
  let x := s.trs t
  let b := traceBytes node x.dropped num dt vals
  let ring := 4096 * x.size
  let used := (x.formed + ring - s.rd TRS.RIDX t % ring) % ring
  let room := !s.rdB TRS.CFG_MODE t || decide (b.length ≤ ring - used - 8)
  if !s.sieRuns || !s.rdB TRS.CFG_EN t || 1024 < x.staged.length + b.length || !room then s.traceDrop t
  else
    let was := s.sieBursts
    let n := x.formed + b.length
    let items := (x.items ++ [(⟨x.formed, b.length⟩ : RingItem)]).filter (fun i => n ≤ i.start + ring)
    let s := s.setTrs t { x with dropped := 0, formed := n, staged := x.staged ++ b, items := items }
    let first := match items.head? with
      | some i => i.start
      | none => n
    ((s.wr TRS.WIDX (n % ring) t).wr TRS.FIRST (first % ring) t).sieQueue was

/-- Stream t is being enabled: its buffer must lie in the region (R343). What it still has staged goes to the ring it was
formed for. -/
def State.traceEnable (s : State) (t : Nat) : State :=
  let b := s.rd TRS.BASE t
  let n := s.rd TRS.SIZE t
  if s.sieRegion < b + n then (s.wrB TRS.CFG_EN false t).wrB TRS.CFG_BAD_BUF true t
  else
    let x := s.trs t
    let s := s.ringPut (sieveBase + 4096 * x.base) (4096 * x.size) x.written x.staged
    let w := s.rd TRS.WIDX t % (4096 * n)
    let s := (s.wrB TRS.CFG_EN true t).wrB TRS.CFG_BAD_BUF false t
    s.setTrs t { x with base := b, size := n, formed := w, written := w, staged := [], items := [] }

/-! ### Capture engines (R331 to R339) -/

/-- The header of a capture (Table 14.3). `x` is what stands in TRIG_IDX, TRIG_OFF and TRIG_FRAC without a
trigger, and in FIRST_OFF without a frame: the spec states none of them. -/
def capHeader (e skip x : Nat) (c : CapSt) : List Nat :=
  let k : CapCause := c.cause.getD ⟨0, 0, 0, 0, 0, 0⟩
  let trig := c.trigIdx.isSome
  let flags := b2n trig + 2 * b2n (trig && k.kind = 2) + 4 * b2n (trig && k.kind = 1) + 8 * b2n c.fbIdx.isSome
    + 16 * b2n (c.ending = some 1) + 32 * b2n (c.ending = some 2) + 64 * b2n (c.ending = some 3) + 128 * b2n c.wrapped
  let first := match c.items.head? with
    | some i => i.start % c.ringLen
    | none => x
  let toff := match c.trigOff with
    | some o => o % c.ringLen
    | none => x
  [0x53, 0x49, 0x45, 0x56] ++ leBytes 0x0100 2
    ++ [e, flags, c.cfg.chans.length, if !trig then 0xFF else if k.kind = 0 then k.unit else 0xFE,
        (if trig then k.frac else x) % 256, b2n c.ending.isSome]
    ++ leBytes c.cfg.interval 4 ++ leBytes c.armDt 8 ++ leBytes (if trig then k.trigDt else 0) 8
    ++ leBytes (c.trigIdx.getD x) 4 ++ leBytes (c.fbIdx.getD 0xFFFFFFFF) 4 ++ leBytes c.endIdx 4
    ++ leBytes first 4 ++ leBytes toff 4 ++ leBytes (c.formed % c.ringLen) 4 ++ leBytes skip 4 ++ leBytes 0 4
    ++ (List.range 16).flatMap (fun i => leBytes (c.cfg.chans.getD i 0) 4)

/-- The header of the capture of engine e is written. -/
def State.putHeader (s : State) (e : Nat) (c : CapSt) : State :=
  (s.memPut (sieveBase + 4096 * c.cfg.base) (capHeader e (s.rd CAP.SKIP_CNT e) s.freeVal c)).useFree

/-- A frame (Table 14.4): its index, type, N, DT and values. -/
def frameBytes (idx ty n dt : Nat) (vals : List Nat) : List Nat :=
  let v := if ty = 0 then vals else 0 :: vals
  let b := leBytes idx 4 ++ [ty, 0] ++ leBytes n 2 ++ leBytes dt 4 ++ v.flatMap (leBytes · 4)
  b ++ List.replicate ((8 - b.length % 8) % 8) 0

/-- A frame is formed into staging, or ends the capture: OVERFLOW where it does not fit (R338), TRUNC where it would
overwrite the trigger frame (R336). `upto` is the index after the last sample it holds. -/
def CapSt.form (c : CapSt) (b : List Nat) (trig : Bool) (upto : Nat) : CapSt :=
  let n := c.formed + b.length
  let trunc := match c.trigOff with
    | some t => decide (t + c.ringLen < n)
    | none => false
  if c.ending.isSome then c
  else if 8192 < c.staged.length + b.length then { c with ending := some 1, endIdx := upto - 1 }
  else if trunc then { c with ending := some 3 }
  else
    let keep := c.items.filter (fun i => n ≤ i.start + c.ringLen)
    { c with
      formed := n
      staged := c.staged ++ b
      items := keep ++ [(⟨c.formed, b.length⟩ : RingItem)]
      wrapped := c.wrapped || keep.length < c.items.length
      trigOff := if trig then some c.formed else c.trigOff
      endIdx := upto % 2 ^ 32 }

/-- A value goes into the reduction of its channel; a NaN or infinity is left out (R335). -/
def ChanAcc.add (a : ChanAcc) (x : Nat) : ChanAcc :=
  if !fFinite x then a
  else
    { n := a.n + 1
      sum := dAdd a.sum (fOpen x)
      sq := dAdd a.sq (dMul (fOpen x) (fOpen x))
      min := if a.n = 0 || fLt x a.min then x else a.min
      max := if a.n = 0 || fLt a.max x then x else a.max }

/-- Mean, minimum, maximum and RMS of a channel, or minimum and maximum alone (R335, R465). -/
def ChanAcc.values (a : ChanAcc) (all : Bool) : List Nat :=
  if a.n = 0 then List.replicate (if all then 4 else 2) fNaN
  else if all then [fClose (dDivN a.sum a.n), a.min, a.max, fSqrtV (dDivN a.sq a.n)]
  else [a.min, a.max]

/-- The interval in progress is written as its frame: a MINMAX frame in fall-back, else a reduction frame where
RED_EN asks for one; a new interval begins. The trigger frame is this one when no raw frame was. -/
def CapSt.closeInterval (c : CapSt) : CapSt :=
  if c.intN = 0 then c
  else
    let fb := c.fbIdx.isSome
    let b := frameBytes c.intFirst (if fb then 2 else 1) c.intN c.intDt (c.acc.flatMap (·.values (!fb)))
    let c := if fb || c.cfg.red then
        c.form b (c.trigOff.isNone && c.trigIdx.isSome) (c.intFirst + c.intN) else c
    { c with intN := 0, acc := [] }

/-- The trigger that engine e takes at a sample of DT dt (R333). -/
def CapSt.triggered (c : CapSt) (dt : Nat) : Bool :=
  c.trigIdx.isNone && match c.cause with
    | some k => decide (k.dt ≤ dt)
    | none => false

/-- The frames and the state of a sample of values `vals` at DT dt. -/
def CapSt.sample (c : CapSt) (vals : List Nat) (dt : Nat) : CapSt :=
  let i := c.idx
  let c := if c.triggered dt then { c with trigIdx := some i } else c
  let c := if c.intN = 0 then { c with intFirst := i, intDt := dt, acc := vals.map (fun _ => {}) } else c
  let c := { c with idx := (i + 1) % 2 ^ 32, intN := c.intN + 1, acc := List.zipWith ChanAcc.add c.acc vals }
  let c := if c.cfg.raw && c.fbIdx.isNone then
      c.form (frameBytes i 0 1 dt vals) (c.trigIdx = some i) (i + 1) else c
  let c := if c.ending.isNone && c.intN = c.cfg.interval then c.closeInterval else c
  let done := match c.trigIdx with
    | some t => decide ((i + 2 ^ 32 - t) % 2 ^ 32 = c.cfg.post)
    | none => false
  if c.ending.isSome || !(done || c.abort) then c
  else
    let c := c.closeInterval
    { c with ending := some (c.ending.getD (if done then 0 else 2)) }

/-- CAPTURE_ENGINE_SAMPLE (R331 to R338): the oldest clock event that waits is taken up. -/
def execCaptureEngineSample (s : State) : Host.Outcome State Fault Refusal :=
  s.run (fun s =>
    match s.engTrigs with
    | [] => s
    | (e, dt) :: rest =>
      let s := { s with engTrigs := rest }
      match s.capOf e with
      | none => s
      | some c =>
        let near := match c.lastEv with
          | some d => decide (d ≤ dt) && decide (dt < d + 250)
          | none => false
        if c.ending.isSome || !s.sieRuns then s
        else if near then s.count CAP.SKIP_CNT e
        else
          let c := { c with events := c.events + 1, lastEv := some dt }
          if c.events % c.cfg.div ≠ 0 then s.setCap e (some c)
          else
            let was := s.sieBursts
            let fb := c.fbIdx.isNone && decide (4096 ≤ c.staged.length)
            let c := if fb then { c with fbIdx := some c.idx } else c
            let s := s.when fb (fun s =>
              (s.wrB CAP.STAT_FALLBACK true e).post 0x52 [(1, 1, e), (8, 4, c.idx)])
            let c := c.sample (c.cfg.chans.map s.sp) dt
            let st := s.rd CAP.STAT_STATE e
            let arm := decide (st = 1) && c.trigIdx.isNone && decide (c.cfg.pre ≤ c.idx)
            let st := if c.trigIdx.isSome then 3 else if arm then 2 else st
            let c := if arm then { c with armedAt := some s.now } else c
            let s := ((s.wr CAP.STAT_STATE st e).wr CAP.IDX c.idx e).setCap e (some c)
            (s.wrB CAP.STAT_OVERFLOW (c.ending = some 1) e).sieQueue was)

/-- AUTO_TRIGGER_EXPIRY (R333): AUTO_MS of engine e expires in ARMED. -/
def execAutoTriggerExpiry (e : Nat) (s : State) : Host.Outcome State Fault Refusal :=
  s.runIf (e < 8) (fun s =>
    match s.capOf e with
    | none => s
    | some c => match c.armedAt with
      | none => s
      | some a =>
        if c.cfg.auto = 0 || c.cause.isSome || s.rd CAP.STAT_STATE e ≠ 2 then s
        else
          let s := s.to (a + c.cfg.auto * msH)
          s.offerCause e ⟨2, 0, s.dtNs, s.dtNs, 0, fabCycle s.now⟩)

/-- CAPTURE_END (R339): the lowest engine whose capture has reached its end writes what it still holds and its
header, and completes its command. -/
def execCaptureEnd (s : State) : Host.Outcome State Fault Refusal :=
  s.run (fun s =>
    match (List.range 8).find? (fun e => match s.capOf e with
      | some c => c.ending.isSome
      | none => false) with
    | none => s
    | some e =>
      let s := s.capFlush e 8192
      match s.cap e with
      | none => s
      | some c =>
        let code := c.ending.getD 0
        let h := capHeader e (s.rd CAP.SKIP_CNT e) s.freeVal c
        let s := (s.putHeader e c).wr CAP.STAT_STATE 4 e
        let s := s.post 0x50 [(1, 1, e), (2, 1, code), (3, 1, h.getD 7 0), (8, 4, leAt h 32 4), (12, 4, c.endIdx),
          (16, 8, leAt h 24 8)]
        let s := s.setCap e none
        match c.ring with
        | some q => s.complete q (if code = 1 then stOverflow else stOk) (code * 2 ^ 24 + c.endIdx % 2 ^ 24)
        | none => s)

/-! ### Ring commands (Table 14.9) -/

/-- SIE_CAPTURE (R333, R344). -/
def execSieCapture (q : Nat) (s : State) : Host.Outcome State Fault Refusal :=
  s.cmd q 0x50 (fun x _ s =>
    let e := bits x.d.arg 0 3
    let cfg : CapCfg :=
      { raw := s.rdB CAP.CFG_RAW_EN e, red := s.rdB CAP.CFG_RED_EN e, src := s.rd CAP.CFG_SRC e
        arg := s.rd CAP.CFG_ARG e, div := s.rd CAP.DIV e, interval := s.rd CAP.INTERVAL e
        auto := s.rd CAP.TRIG_AUTO_MS e, mask := s.rd CAP.TRIG_MASK e, pre := s.rd CAP.PRE e, post := s.rd CAP.POST e
        base := s.rd CAP.BASE e, size := s.rd CAP.SIZE e
        chans := (List.range (s.rd CAP.CFG_N_CH e)).map (fun j => s.rd CAP.CH e j) }
    let bad (c : Nat) : State := s.complete q stBadField (c * 2 ^ 24)
    if (s.capOf e).isSome then bad 0x80
    else if s.sieRegion < cfg.base + cfg.size then bad 0x81
    else if !cfg.raw && !cfg.red then bad 0x82
    else if cfg.src = 0 then bad 0x83
    else
      let c : CapSt := { cfg := cfg, ring := some q, armDt := s.dtNs, armedAt := if cfg.pre = 0 then some s.now else none }
      let s := s.each [CAP.STAT_OVERFLOW, CAP.STAT_FALLBACK, CAP.WOFF, CAP.IDX] (fun f s => s.wr f 0 e)
      (((s.putHeader e c).wr CAP.STAT_STATE (if cfg.pre = 0 then 2 else 1) e).setCap e (some c)).cmdWaits q)

/-- A force on engine e (R333); in IDLE and ENDED it does nothing. -/
def State.capForce (s : State) (e : Nat) : State := s.offerCause e ⟨1, 0, s.dtNs, s.dtNs, 0, fabCycle s.now⟩

/-- An abort on engine e (R334). -/
def State.capAbort (s : State) (e : Nat) : State :=
  match s.capOf e with
  | some c => s.setCap e (some { c with abort := true })
  | none => s

/-- SIE_FORCE (R344). -/
def execSieForce (q : Nat) (s : State) : Host.Outcome State Fault Refusal :=
  s.cmd q 0x51 (fun x _ s =>
    let e := bits x.d.arg 0 3
    (s.capForce e).complete q stOk (s.rd CAP.STAT_STATE e))

/-- SIE_ABORT (R344). -/
def execSieAbort (q : Nat) (s : State) : Host.Outcome State Fault Refusal :=
  s.cmd q 0x52 (fun x _ s =>
    let e := bits x.d.arg 0 3
    (s.capAbort e).complete q stOk (s.rd CAP.STAT_STATE e))

/-- SIE_READ (R345). -/
def execSieRead (q : Nat) (s : State) : Host.Outcome State Fault Refusal :=
  s.cmdHost q 0x53 (fun x _ s =>
    let o := bits x.d.arg 0 32
    let r := s.memGet ((sieveBase + o) / 8) (x.d.len / 8)
    let s := (r.1.memReq (ceilDiv x.d.len 64) true).hostPut x.d.ptr (r.2.1.flatMap (leBytes · 8))
    match r.2.2 with
    | some a => s.complete q stEcc (a - sieveBase)
    | none => s.complete q stOk x.d.len)

/-! ### Registers -/

/-- CAP_FORCE (R333): a write of CAP[e].CTRL.FORCE. -/
def execCapForce (e : Nat) (s : State) : Host.Outcome State Fault Refusal :=
  s.runIf (e < 8) (fun s => s.bridgeWrite 78 CAP.CTRL_FORCE e 0 1 (·.capForce e))

/-- CAP_ABORT (R334). -/
def execCapAbort (e : Nat) (s : State) : Host.Outcome State Fault Refusal :=
  s.runIf (e < 8) (fun s => s.bridgeWrite 78 CAP.CTRL_ABORT e 0 1 (·.capAbort e))

/-- SIE.CTRL.CNT_CLR. -/
def State.sieCntClr (s : State) : State :=
  let s := s.each (List.range 16) (fun u s => (s.wr TRG.FIRE_CNT 0 u).wr TRS.DROP_CNT 0 u)
  s.each (List.range 8) (fun e s => s.wr CAP.SKIP_CNT 0 e)

/-- SIE_CNT_CLR (R343). -/
def execSieCntClr (s : State) : Host.Outcome State Fault Refusal :=
  s.run (fun s => s.bridgeWrite 78 SIE.CTRL 0 0 1 (·.sieCntClr))

/-- TRACE_STREAM_ENABLE (R343): EN of stream t is written 1 where it is 0. -/
def execTraceStreamEnable (t : Nat) (s : State) : Host.Outcome State Fault Refusal :=
  s.runIf (t < 16) (fun s => s.bridgeWrite 78 TRS.CFG_EN t 0 1 (fun s =>
    s.when (!s.rdB TRS.CFG_EN t) (·.traceEnable t)))

/-- Entry into WAKE (R326). -/
def State.sieWake (s : State) : State := { s with trgs := [], caps := [], trss := [], engTrigs := [] }

end Sys2Proof.Machine
end

