-- ==== Sys2Proof/Machine/Tasks.lean ====
section
/-!
DEFINITION. The end of a task (R189 to R192): the node computes, the NaN rule is applied, the outputs and
states are written, the units behind the node are told, and the nodes that depend on it fire.
-/
namespace Sys2Proof.Machine

/-- What a firing leaves: its result, the new memories of its node, the writes to the RPC tables, and what it tells
the unit behind the node (`tell`). -/
structure Effect where
  fired : Fired
  seq : Option SeqMem := none
  mpt : Option MptMem := none
  table : List (Nat × Nat) := []
  tell : State → State := id

/-- An entry of an RPC table (R223, R240). -/
def State.rpcAt (s : State) (t i : Nat) : Nat := tgetD s.esp.rpc (1024 * t + i) 0

/-- The firing that a task computes. -/
def State.firingOf (s : State) (n : NodeCfg) (t : TaskSt) : Firing :=
  let nom := s.nominal t.cad
  { param := n.param, ins := t.ins, coefs := t.coefs, st := t.st, first := t.first
    dt := if t.first then nom else t.step.getD nom }

/-- SHR (R224). -/
def State.effShr (f : Firing) (env : List Nat) : Effect :=
  let r := nodeShr f (env.getD 0 0) (env.getD 1 0 = LegSup.shadow.code) (env.getD 2 0)
  let low := shrLow f (r.outs.getD 0 0)
  { fired := r, tell := fun s => s.shrFired (bits f.param 0 7) (r.outs.getD 1 0) (r.outs.getD 2 0) low }

/-- MPT (R275 to R280): the map is usable when map_en = 1, Q ≥ Q_MIN and the age at most MAP_AGE, and never in an
AX9600-N (R4, R278). -/
def State.effMpt (s : State) (i : Nat) (f : Firing) (env : List Nat) : Effect :=
  let k := bits f.param 0 5
  let e : MptEnv :=
    { input := (fTrunc (env.getD 0 0)).toNat, vmap := env.getD 1 0, pmap := env.getD 2 0
      ok := s.variant ≠ .N && fEq (nClamp 0 fOne (f.c 9)) fOne && fGe (env.getD 3 0) (s.rd DCS.MODEL 0 9) && fLe (env.getD 4 0) (s.rd DCS.MODEL 0 8)
      host := (s.dci k).sweep }
  let r := nodeMpt f e (s.nodeSt i).mpt
  { fired := r.1, mpt := some r.2.1, tell := fun s => s.when r.2.2 (·.modDci k (fun d => { d with sweep := false })) }

/-- SEQ (R240); the one with REPORT tells the grid supervisor (R248). -/
def State.effSeq (s : State) (i : Nat) (f : Firing) : Effect :=
  let t := bits f.param 0 7
  let r := nodeSeq f (s.rpcAt t) (s.nodeSt i).seq
  { fired := r.1, seq := some r.2.2, table := r.2.1.map (fun p => (1024 * t + p.1, p.2))
    tell := fun s => s.when (bit f.param 7) (·.seqReport (r.1.outs.getD 4 0) (r.1.outs.getD 5 0)) }

/-- The effect of every node but CRV, PWO and TRC. -/
def State.effect (s : State) (n : NodeCfg) (t : TaskSt) (f : Firing) : Effect :=
  let leg := bits f.param 0 7
  match n.type with
  | 0x03 =>
    let r := nodeRpc f (s.rpcAt leg)
    { fired := r.1, table := r.2.map (fun p => (1024 * leg + p.1, p.2)) }
  | 0x0F => State.effShr f t.env
  | 0x12 => s.effSeq t.node f
  | 0x13 => { fired := ⟨t.env, [], []⟩ }
  | 0x14 => s.effMpt t.node f t.env
  | 0x15 =>
    let r := nodeThm f (t.env.getD 0 0 = 1)
    { fired := r, tell := fun s => s.thmFired leg (r.outs.getD 0 0) }
  | ty =>
    { fired := nodePlain ty f t.fresh false }

/-- The outputs and states of a firing are written in one cycle, with its sample number (R188, R207); a scratch point that
the host has written in that cycle keeps the host's value (R183). -/
def State.writeNode (s : State) (n : NodeCfg) (num : Nat) (outs st : List Nat) : State :=
  let dt := s.dtNs
  let s := s.each outs.zipIdx (fun p s =>
    if s.hostStands (n.outBase + p.2) then s else s.writeOne (n.outBase + p.2) p.1 dt (some num))
  s.each st.zipIdx (fun p s => s.writeOne (n.stateBase + p.2) p.1 dt (some num))

/-- R192: the firing of node t.node yields the NaN or infinity x. -/
def State.nodeFault (s : State) (n : NodeCfg) (t : TaskSt) (x : Nat) : State :=
  let w := t.node / 32
  let b := t.node % 32
  let old := bit (s.rd ESP.NFLT w) b
  let s := (s.count ESP.NFLT_CNT).wr ESP.NFLT (putBits (s.rd ESP.NFLT w) b 1 1) w
  s.when (!old) (fun s =>
    (s.post 0x22 [(1, 1, n.type), (2, 2, t.node), (8, 4, t.num), (12, 1, b2n (!fIsNaN x))]).fltOccur fsNodeFault n.type)

/-- EVT posts its record, at most one per node in 1 ms (R197). -/
def State.evtPost (s : State) (t : TaskSt) (f : Firing) : State :=
  let k := s.nodeSt t.node
  let due := match k.evtAt with
    | some a => decide (a + msH ≤ s.now)
    | none => true
  if !due then s
  else
    (s.setNode t.node { k with evtAt := some s.now }).post 0x25
      [(1, 1, bits f.param 0 8), (2, 2, t.node), (8, 4, f.x 0), (12, 4, t.num)]

/-- The types of Table 9.5, whose NaN coefficients yield a NaN result wherever they enter (R219). -/
def nanTypes : List Nat := [0x03, 0x0B, 0x0C, 0x0D, 0x0E, 0x0F, 0x15]

/-- The value of a firing on which R192 acts, none where it is valid. -/
def Effect.badValue (e : Effect) (n : NodeCfg) (f : Firing) : Option Nat :=
  if nanTypes.contains n.type && f.coefs.any fIsNaN then some fNaN else e.fired.judge.find? (fun x => !fFinite x)

/-- A node of the usual kind completes; answers its outputs. -/
def State.endPlain (s : State) (n : NodeCfg) (t : TaskSt) (f : Firing) : State × List Nat :=
  let e := s.effect n t f
  match e.badValue n f with
  | some x =>
    let o := s.heldOuts n t.node
    ((s.nodeFault n t x).writeNode n t.num o [], o)
  | none =>
    let s := s.writeNode n t.num e.fired.outs (if t.reset then [] else e.fired.st)
    let k := s.nodeSt t.node
    let k := { k with outs := e.fired.outs }
    let s := if t.reset then s.setNode t.node k
      else
        let s := s.setNode t.node { k with seq := e.seq.getD k.seq, mpt := e.mpt.getD k.mpt }
        { s with esp := { s.esp with rpc := e.table.foldl (fun m p => tput m p.1 p.2 0) s.esp.rpc } }
    let s := s.when (n.type = 0x18 && evtFires f) (·.evtPost t f)
    (e.tell s, e.fired.outs)

/-- CRV completes (R244): a NaN or infinite x is held by R192. -/
def State.endCrv (s : State) (n : NodeCfg) (t : TaskSt) (f : Firing) : State × List Nat :=
  let x := f.x 0
  if !fFinite x then
    let o := s.heldOuts n t.node
    ((s.nodeFault n t x).writeNode n t.num o [], o)
  else
    let nom := (fNearest (fMul (s.nominal t.cad) (fOfNat 1000000000))).toNat
    let r := s.crvFire (bits f.param 0 2) x t.openDt t.era nom
    let s := r.1.writeNode n t.num [r.2.1, r.2.2] []
    let k := s.nodeSt t.node
    (s.setNode t.node { k with outs := [r.2.1, r.2.2] }, [r.2.1, r.2.2])

/-- PWO completes (R198, R199): on a NaN its last valid pair is committed again; without one nothing is. The spec
says nothing of what its state holds: a free value. Latency without a sensor input is free too. -/
def State.endPwo (s : State) (n : NodeCfg) (t : TaskSt) (f : Firing) : State × List Nat :=
  let leg := bits f.param 0 7
  let mode := bits f.param 8 2
  let k := s.nodeSt t.node
  let a := nClamp 0 fOne (f.x 0)
  let b := nClamp 0 fOne (f.x 1)
  let bad := fIsNaN a || (mode = 2 && fIsNaN b)
  let s := if bad then s.nodeFault n t fNaN else s
  let pair := if bad then k.pair else some (pwoPair mode (t.env.getD 0 0) a b)
  match pair with
  | none => (s.writeNode n t.num (s.heldOuts n t.node) [], s.heldOuts n t.node)
  | some (on, off) =>
    let s := s.cmpPush leg (.pwo leg on off)
    let lat := match t.tag with
      | some d => fOfInt ((s.dtNs : Int) - d)
      | none => s.freeVal % 2 ^ 32
    let o := [s.dtLo, lat, on, off]
    let s := (s.writeNode n t.num o
      (if bad || t.reset then [] else [Config.freeValue (s.free + 1) % 2 ^ 32])).useFree.useFree
    (s.setNode t.node { k with outs := o, pair := some (on, off) }, o)

/-- TRC completes (R200, R340). -/
def State.endTrc (s : State) (t : TaskSt) (f : Firing) : State × List Nat :=
  (s.traceRecord (bits f.param 0 4) t.node t.num t.openDt t.ins, [])

/-- A completed node's outputs reach its sample, what stood there before is kept for PREV, and the nodes that
depend on it fire (R187, R190). -/
def State.nodeDone (s : State) (n : NodeCfg) (t : TaskSt) (before outs : List Nat) : State :=
  let put (m : Tbl Nat) (l : List Nat) : Tbl Nat := l.zipIdx.foldl (fun m p => tins m (n.outBase + p.2) p.1) m
  let k := s.cadSt t.cad
  (s.setCad t.cad { k with samples := k.samples.map (fun m =>
    if m.num = t.num then
      { m with outs := put m.outs outs, prev := put m.prev before, done := m.done ++ [t.node], endAt := s.now }
    else m) }).fire.endSamples t.cad

/-- A task completes and leaves the table; one of an abandoned sample like any other (R185). -/
def State.completeTask (s : State) (n : NodeCfg) (t : TaskSt) : State :=
  let s := ({ s with esp := { s.esp with tasks := s.esp.tasks.filter (fun x => !(x.node = t.node && x.num = t.num)) } } :
    State).taskCount
  let f := s.firingOf n t
  let before := s.heldOuts n t.node
  let r := if n.type = 0x11 then s.endCrv n t f
    else if n.type = 0x16 then s.endPwo n t f
    else if n.type = 0x17 then s.endTrc t f
    else s.endPlain n t f
  r.1.nodeDone n t before r.2

/-- The compare queue of a PWO node's brick is full. -/
def State.pwoBlocked (s : State) (n : NodeCfg) : Bool :=
  n.type = 0x16 && 16 ≤ (tgetD s.cmpQ (bits n.param 0 7 / 12) []).length

/-- The mailbox updates that the node's points bring. -/
def State.boxNeed (s : State) (n : NodeCfg) : Nat :=
  (((List.range n.nOut).map (n.outBase + ·) ++ (List.range n.nState).map (n.stateBase + ·)).map
    (fun p => (s.boxesOf p).length)).foldl (· + ·) 0

/-- The posting task has no credits of queue 81 for its updates; it never waits for more than the queue holds. -/
def State.boxBlocked (s : State) (n : NodeCfg) : Bool :=
  let k := Nat.min 32 (s.boxNeed n)
  0 < k && (!s.esp.mboxHold.isEmpty || decide (32 < s.esp.mboxQ.length + k))

/-- A task of the node waits at its end for a queue (R25, Table 1.6). -/
def State.taskBlocked (s : State) (n : NodeCfg) : Bool := s.pwoBlocked n || s.boxBlocked n

/-- The task that ends first: one that waits for a queue with room now, or the running one with the earliest
end. -/
def State.firstEnd (s : State) : Option (TaskSt × NodeCfg × Nat) :=
  let ends := s.esp.tasks.filterMap (fun t => match s.nodes[t.node]?, t.stage with
    | some n, .running a => some (t, n, a + cyclesH (48 + n.cost))
    | some n, .waiting _ => if s.taskBlocked n then none else some (t, n, s.now)
    | _, _ => none)
  ends.foldl (fun b x => match b with
    | none => some x
    | some y => if x.2.2 < y.2.2 then some x else b) none

/-- TASK_COMPLETE (R189, R190). -/
def execTaskComplete (s : State) : Host.Outcome State Fault Refusal :=
  s.run (fun s =>
    if s.espHalted then s
    else
      match s.firstEnd with
      | none => s
      | some (t, n, due) =>
        let s := s.to due
        if s.taskBlocked n then
          let l := s.esp.tasks.map (fun x =>
            if x.node = t.node && x.num = t.num then { x with stage := .waiting s.now } else x)
          ({ s with esp := { s.esp with tasks := l } }).stallCount (if s.pwoBlocked n then 34 + bits n.param 0 7 / 12 else 81)
        else s.completeTask n t)

end Sys2Proof.Machine
end

