-- ==== Sys2Proof/Machine/Trellis.lean ====
section
/-!
DEFINITION. Trellis (spec 12): downlink frames and signalling pulses, polling, the rapid-shutdown keep-alive, the
array map with its ring commands, and the fold of the map that the DC stage makes (R281).
-/
namespace Sys2Proof.Machine

/-! ### Frames (R291, R292) -/

/-- CRC-16 with polynomial 0x1021, most significant bit first. -/
def crc16Bit (c : Nat) : Nat := if bit c 15 then (2 * c ^^^ 0x1021) % 65536 else 2 * c
def crc16 (l : List Nat) : Nat :=
  l.foldl (fun c b => (List.range 8).foldl (fun c _ => crc16Bit c) (c ^^^ (b % 256) <<< 8)) 0xFFFF

/-- CRC-8 with polynomial 0x07. -/
def crc8Bit (c : Nat) : Nat := if bit c 7 then (2 * c ^^^ 0x07) % 256 else 2 * c
def crc8 (l : List Nat) : Nat :=
  l.foldl (fun c b => (List.range 8).foldl (fun c _ => crc8Bit c) (c ^^^ b % 256)) 0

/-- The bits of a frame in the order sent. -/
def TrlFrame.bits (f : TrlFrame) : List Bool :=
  let body := [f.type + 16 * f.payload.length, f.addr % 256, f.addr / 256] ++ f.payload
  let crc := crc16 body
  (([0xAA, 0x2D] ++ body ++ [crc % 256, crc / 256]).flatMap (fun b => (List.range 8).map (fun i => bit b i)))

/-- How long a frame lasts on segment k, in h. -/
def State.frameTime (s : State) (k : Nat) (f : TrlFrame) : Nat :=
  f.bits.foldl (fun a b => a + 10 * (if b then s.rd SEG.PER1 k else s.rd SEG.PER0 k)) 0

/-! ### When the downlink can run (R287 to R290, R302) -/

/-- Trellis runs: present, ready and enabled (Table 12.6). -/
def State.trlRuns (s : State) : Bool := s.has 10 && s.ready 42 && s.rdB TRL.CFG

/-- The modes in which Trellis sends frames (R33). -/
def trlModes : List Mode := [.standby, .prestart, .cease, .service, .factory] ++ runModes
def State.trlMode (s : State) : Bool := s.modeIn trlModes

def State.dlLeg (s : State) (k : Nat) : Nat := s.rd DCI.CFG_LEG k

/-- How segment k carries its downlink: 0 not, 1 by period shifting, 2 by signalling pulses (R289). -/
def State.dlKind (s : State) (k : Nat) : Nat :=
  let v := s.dcState k
  if !s.rdB SEG.CFG_EN k || s.rdB SEG.STAT_NO_DL k then 0
  else if !s.modeIn runModes then (if v = dcBlocked then 0 else 2)
  else if v = dcStart || v = dcSoft || v = dcRun || v = dcBurstOn then 1
  else if v = dcOff || v = dcWait then 2
  else 0

/-- A frame may be sent on segment k now; the hold of a fatal fault (R373) is none of those that signalling pulses pass. -/
def State.dlOk (s : State) (k : Nat) : Bool :=
  let n := s.dlLeg k
  s.trlRuns && s.trlMode && s.dlKind k ≠ 0 && !(s.mm.cur = .prestart && s.mm.step = 3)
    && (s.leg n).trips.isEmpty && !(s.leg n).tripHold && !s.inhibited && !s.rdB FLT.STAT_FATAL_HOLD

/-- A frame waits or is being sent. -/
def TrlSeg.busy (g : TrlSeg) : Bool := g.frame.isSome || g.kaWait || !g.cmds.isEmpty || g.poll.isSome

/-- The DC stage learns that a frame is due, or that none is (R284). -/
def State.dlDue (s : State) (k : Nat) : State := s.dcFrame k (s.seg k).busy

/-! ### Keep-alive (R297, R298) -/

/-- The keep-alive is being sent, as far as the whole device is concerned. -/
def State.kaOn (s : State) : Bool := s.trlRuns && s.trlMode && !s.rdB TRL.STAT_KA_HOST_STOP

/-- KA_STATE. -/
def State.kaState (s : State) (what : Nat) : State := s.post 0x63 [(1, 1, what), (8, 4, s.rd TRL.KA_SEQ)]

/-- The keep-alive that waits on segment k is withdrawn. -/
def State.kaDrop (s : State) (k : Nat) : State :=
  if (s.seg k).kaWait then (s.modSeg k (fun g => { g with kaWait := false, kaDue := none })).dlDue k else s

/-- The host stops the keep-alive: none that waits is sent any more. -/
def State.kaStop (s : State) : State :=
  if s.rdB TRL.STAT_KA_HOST_STOP then s
  else ((s.each (List.range 24) (fun k s => s.kaDrop k)).wrB TRL.STAT_KA_HOST_STOP true).kaState 0

/-- The host resumes it; in SAFESTOP that is not latched. -/
def State.kaResume (s : State) : State :=
  if s.mm.cur = .safestop || !s.rdB TRL.STAT_KA_HOST_STOP then s
  else (s.wrB TRL.STAT_KA_HOST_STOP false).kaState 2

/-- KA_STOP (R298). -/
def execKaStop (s : State) : Host.Outcome State Fault Refusal :=
  s.run (fun s => s.hostWrite (fun s => s.when (s.has 10) (·.kaStop)))

/-- KA_RESUME (R298). -/
def execKaResume (s : State) : Host.Outcome State Fault Refusal :=
  s.run (fun s => s.hostWrite (fun s => s.when (s.has 10) (·.kaResume)))

/-- KA_CTRL (R298, R304): other codes of byte 0 keep nothing and count as clamped to none (R49). -/
def execKaCtrl (q : Nat) (s : State) : Host.Outcome State Fault Refusal :=
  s.cmd q 0x63 (fun x _ s =>
    let old := if s.rdB TRL.STAT_KA_HOST_STOP then 0 else 1
    let r := s.param q x 0 8 (.codes [0, 1]) old (bits x.d.inl 0 8)
    let s := r.2.2
    if r.1 = 1 && s.mm.cur = .safestop then s.complete q stSafetyDenied (s.rd TRL.KA_SEQ)
    else
      let s := if r.1 = 0 then s.kaStop else s.kaResume
      s.complete q (clampedIf r.2.1) (s.rd TRL.KA_SEQ))

/-- A keep-alive of the segment waits or is being sent. -/
def TrlSeg.alive (g : TrlSeg) : Bool :=
  g.kaWait || g.frame.any (fun f => f.1.type = 1) || g.ended.any (fun f => f.1.type = 1)

/-- KEEPALIVE_FRAME (R297): 100 ms after the end of the last one the keep-alive of segment k falls due. KA_SEQ
counts intervals of all segments together. -/
def execKeepaliveFrame (k : Nat) (s : State) : Host.Outcome State Fault Refusal :=
  s.runIf (dcOk k) (fun s =>
    let g := s.seg k
    if !s.kaOn || !s.rdB SEG.CFG_EN k || g.alive then s
    else
      let s := s.to (g.kaAt.getD s.now)
      let fresh := match s.trl.kaInt with
        | some t => decide (t + 100 * msH ≤ s.now)
        | none => true
      let s := if fresh then
          ({ s with trl := { s.trl with kaInt := some s.now } }).wr TRL.KA_SEQ ((s.rd TRL.KA_SEQ + 1) % 2 ^ 32)
        else s
      (s.modSeg k (fun g => { g with kaWait := true, kaDue := some s.now, kaAt := none })).dlDue k)

/-! ### At a START of the downlink leg (R288 to R291) -/

/-- The segment whose downlink leg is n. -/
def State.segOf (s : State) (n : Nat) : Option Nat :=
  if !s.has 10 then none else (List.range 24).find? (fun k => s.rdB SEG.CFG_EN k && s.dlLeg k = n)

/-- The next frame of segment k, in the order of R296. -/
def State.dlTake (s : State) (k : Nat) : State :=
  let g := s.seg k
  if g.kaWait then
    let hold := s.rd TRL.KA
    let f : TrlFrame := { type := 1, addr := 0x7FFF, payload := [s.rd TRL.KA_SEQ % 256, hold % 256, hold / 256] }
    s.setSeg k { g with kaWait := false, frame := some (f, 0) }
  else
    match g.cmds, g.poll with
    | f :: rest, _ => s.setSeg k { g with cmds := rest, frame := some (f, 0) }
    | [], some p => s.setSeg k { g with frame := some (p.1, 0) }
    | [], none => s

/-- The frame being sent is abandoned: a keep-alive is dropped and the next falls due on schedule, another waits
again (R290, R297). -/
def State.dlAbandon (s : State) (k : Nat) : State :=
  let g := s.seg k
  match g.frame with
  | none => s
  | some (f, _) =>
    let g := { g with frame := none, idle := 0 }
    let g := if f.type = 1 then { g with kaAt := g.kaDue.map (· + 100 * msH), kaDue := none }
      else if f.type = 3 then { g with cmds := f :: g.cmds }
      else g
    ((s.setSeg k g).wr LEG.LPERIOD (s.rd SEG.PER0 k) (s.dlLeg k)).dlDue k

/-- The leg of segment k, or what R287 asks of it, may have changed: NO_DL follows, and a frame that the segment can no
longer send on its leg is abandoned (R290). -/
def State.dlCheck (s : State) (k : Nat) : State :=
  if !s.has 10 then s
  else
    let n := s.dlLeg k
    let s := s.linkState k SEG.STAT_NO_DL (s.rdB SEG.CFG_EN k && !(s.role n = roleDc && s.rdB LEG.CFG_OWNPER n))
    if s.dlKind k = 0 then s.dlAbandon k else s

/-- The frame moves on by one START: the period of the next bit is written in the last period of each bit. -/
def State.dlBit (s : State) (k n : Nat) (f : TrlFrame) (pos : Nat) : State :=
  let b := f.bits
  let per (i : Nat) : Nat := match b[i]? with
    | some true => s.rd SEG.PER1 k
    | _ => s.rd SEG.PER0 k
  let p := pos + 1
  if 10 * b.length < p then
    s.modSeg k (fun g => { g with frame := none, ended := some (f, s.now), idle := 0 })
  else
    let s := s.modSeg k (fun g => { g with frame := some (f, p) })
    if p % 10 = 0 then s.wr LEG.LPERIOD (per (p / 10)) n else s

/-- One signalling pulse (R289): a turn-on of the low side, which the interlock can delay or time out, with its end
SIG_PW after the START. -/
def State.sigPulse (s : State) (k n : Nat) : State :=
  let l := s.leg n
  if l.low.on || l.low.turnOn.isSome then s
  else
    let e := s.pw + 32 * s.rd SEG.CFG_SIG_PW k
    let s := s.modLeg n (fun l => { l with sigPulse := some (e + pipeH) })
    (s.modSide n .low (fun v =>
      { v with turnOn := some s.pw, waiting := false, turnOff := some e, dropped := false })).tryOn n .low

/-- Trellis at an own START of leg n. -/
def State.trlStart (s : State) (n : Nat) : State :=
  match s.segOf n with
  | none => s
  | some k =>
    let g := s.seg k
    let ok := s.dlOk k
    let s := match g.frame with
      | some (f, p) => if ok then s.dlBit k n f p else s.dlAbandon k
      | none =>
        if ok && g.busy && g.ended.isNone && 18 ≤ g.idle then
          (s.dlTake k).wr LEG.LPERIOD (s.rd SEG.PER0 k) n
        else if g.idle < 20 then s.setSeg k { g with idle := g.idle + 1 } else s
    if ok && s.dlKind k = 2 && (s.seg k).busy then s.sigPulse k n else s

/-! ### TRL_CMD (R304) -/

/-- The command of ring q has one frame fewer to wait for. -/
def State.trlCmdSent (s : State) (q : Nat) : State :=
  let l := s.trl.cmds.map (fun c => if c.q = q then { c with sent := c.sent + 1, left := c.left - 1 } else c)
  match l.find? (fun c => c.q = q && c.left = 0) with
  | some c => ({ s with trl := { s.trl with cmds := l.filter (fun c => c.q ≠ q) } }).complete q (clampedIf c.clamped) c.sent
  | none => { s with trl := { s.trl with cmds := l } }

/-- TRL_CMD: a CMD frame for one segment or for all enabled ones; the command ends when the last bit of its last
frame has been sent. -/
def execTrlCmd (q : Nat) (s : State) : Host.Outcome State Fault Refusal :=
  s.cmd q 0x60 (fun x _ s =>
    if s.mm.cur = .safestop then s.complete q stSafetyDenied 0
    else
      let sg := bits x.d.arg 16 5
      let r := s.param q x 2 4 (.rng 1 8) 0 (bits x.d.arg 28 4)
      let s := r.2.2
      let segs := if sg = 31 then (List.range 24).filter (fun k => s.rdB SEG.CFG_EN k) else [sg]
      let f : TrlFrame :=
        { type := 3, addr := bits x.d.arg 0 15, payload := (leBytes x.d.inl 8).take r.1, ring := some q }
      if segs.isEmpty then s.complete q (clampedIf r.2.1) 0
      else
        let s := s.each segs (fun k s => (s.modSeg k (fun g => { g with cmds := g.cmds ++ [f] })).dlDue k)
        let c : TrlCmd := { q := q, at_ := s.now, sent := 0, left := segs.length, clamped := r.2.1 }
        ({ s with trl := { s.trl with cmds := s.trl.cmds ++ [c] } }).cmdWaits q)

/-- TRL_CMD_TIMEOUT (R304): a frame of the command has not been sent within 1 s; what still waits is withdrawn, and a
frame being sent goes on without the command. -/
def execTrlCmdTimeout (q : Nat) (s : State) : Host.Outcome State Fault Refusal :=
  s.runIf (sqOk q) (fun s =>
    match s.trl.cmds.find? (fun c => c.q = q) with
    | none => s
    | some c =>
      let s := s.to (c.at_ + secH)
      let mine (f : TrlFrame) : Bool := f.ring = some q
      let s := s.each (List.range 24) (fun k s =>
        let g := s.seg k
        let g := { g with frame := g.frame.map (fun (p : TrlFrame × Nat) =>
          if mine p.1 then ({ p.1 with ring := none }, p.2) else p) }
        if g.cmds.any mine then (s.setSeg k { g with cmds := g.cmds.filter (fun f => !mine f) }).dlDue k
        else if g = s.seg k then s else s.setSeg k g)
      let s := { s with trl := { s.trl with cmds := s.trl.cmds.filter (fun c => c.q ≠ q) } }
      s.complete q stTimeout c.sent)

/-! ### Rounds (R295, R296) -/

/-- POLL_ROUND_START (R295): a round of segment k starts ROUND_S after the start of the last one, at once when that
ran longer or for POLL_NOW. -/
def execPollRoundStart (k : Nat) (s : State) : Host.Outcome State Fault Refusal :=
  s.runIf (dcOk k) (fun s =>
    let g := s.seg k
    let live := s.trlRuns && (s.trlMode || s.mm.cur = .safestop) && s.rdB SEG.CFG_EN k && s.rdB SEG.CFG_POLL_EN k
    if !live || g.round.isSome then s
    else
      let due := if g.now_ then s.now else match g.roundAt with
        | some t => t + s.rd SEG.ROUND_ROUND_S k * secH
        | none => s.now
      let s := s.to due
      let r : TrlRound := { at_ := s.now, next := s.rd SEG.POLL_BASE k, left := s.rd SEG.POLL_COUNT k }
      (s.setSeg k { g with round := some r, roundAt := some s.now, now_ := false }).wrB SEG.STAT_POLLING true k)

/-- The entries of queue 75 in use: the decoded frames it holds, and the credits that polling segments hold (R295). -/
def State.trlFrames (s : State) : Nat := s.trl.frames.length + (List.range 24).countP (fun k => (s.seg k).credit)

/-- The segment takes a credit for its next slot, where one is free and it holds none (R295). -/
def State.creditTake (s : State) (k : Nat) : State :=
  if (s.seg k).credit || 64 ≤ s.trlFrames then s
  else (s.modSeg k (fun g => { g with credit := true })).queueHolds 75 (s.trlFrames + 1)

/-- A poll of segment k waits for a credit of queue 75, and counts once (R25). -/
def State.pollStall (s : State) (k : Nat) (r : TrlRound) : State :=
  if r.waits then s
  else (s.stallCount 75).modSeg k (fun g => { g with round := some { r with waits := true } })

/-- POLL_FRAME (R295, R298): the poll frame that opens the next batch falls due, so that it ends when the last slot of
the batch in hand does; its segment holds a credit of queue 75, or it waits for one, waits its turn, or, in SAFESTOP,
is not sent. -/
def execPollFrame (k : Nat) (s : State) : Host.Outcome State Fault Refusal :=
  s.runIf (dcOk k) (fun s =>
    let g := s.seg k
    match g.round with
    | none => s
    | some r =>
      if r.left = 0 || g.poll.isSome || 2 ≤ r.batches.length then s
      else if !g.credit && decide (64 ≤ s.trlFrames) then s.pollStall k r
      else
        let n := Nat.min 64 r.left
        let slot := s.rd SEG.CFG_SLOT k
        let f : TrlFrame := { type := 2, addr := r.next, payload := [n, slot] }
        let dur := s.frameTime k f
        let due := match r.batches.getLast? with
          | some b => b.t0 + msH + b.n * b.len * 1280000 - dur
          | none => s.now
        let s := s.to due
        let b : TrlBatch := { addr := r.next, n := n, t0 := s.now + dur, sent := s.mm.cur ≠ .safestop, len := slot }
        let r := { r with next := r.next + n, left := r.left - n, waits := false }
        let s := s.creditTake k
        if b.sent then (s.modSeg k (fun g => { g with round := some r, poll := some (f, b) })).dlDue k
        else
          let r := { r with batches := r.batches ++ [b] }
          s.modSeg k (fun g => { g with round := some r }))

/-- DOWNLINK_FRAME_END (R291, R295, R297, R304): the last bit of the frame of segment k has been sent. -/
def execDownlinkFrameEnd (k : Nat) (s : State) : Host.Outcome State Fault Refusal :=
  s.runIf (dcOk k) (fun s =>
    let g := s.seg k
    match g.ended with
    | none => s
    | some (f, t) =>
      let g := { g with ended := none }
      let s :=
        if f.type = 1 then s.setSeg k { g with kaAt := some (t + 100 * msH), kaDue := none }
        else if f.type = 2 then
          match g.poll, g.round with
          | some p, some r =>
            let r := { r with batches := r.batches ++ [{ p.2 with t0 := t }] }
            s.setSeg k { g with poll := none, round := some r }
          | _, _ => s.setSeg k { g with poll := none }
        else
          let s := s.setSeg k g
          match f.ring with
          | some q => s.trlCmdSent q
          | none => s
      s.dlDue k)

/-! ### The array map (R299 to R301) -/

/-- The word of capture memory where the entry of address a begins. -/
def mapWord (a : Nat) : Nat := (0x10000 + 16 * a) / 8

/-- The entry of address a as its two words; whether one is uncorrectable. Such an entry reads with EXPIRED set (R351). -/
def State.mapRead (s : State) (a : Nat) : State × Nat × Nat × Bool :=
  let x := s.memRead (mapWord a)
  let y := x.1.memRead (mapWord a + 1)
  let bad := x.2.2 || y.2.2
  (y.1, x.2.1, if bad then y.2.1 ||| 2 ^ 22 else y.2.1, bad)

def State.mapWrite (s : State) (a lo hi : Nat) : State :=
  ((s.memWrite (mapWord a) lo).memWrite (mapWord a + 1) hi).memReq 1 false

/-- The fields of the second word of an entry (Table 12.4). -/
def mapT (hi : Nat) : Int := sext (bits hi 0 16) 16
def mapNstat (hi : Nat) : Nat := bits hi 16 6
def mapExpired (hi : Nat) : Bool := bit hi 22
def mapValid (hi : Nat) : Bool := bit hi 23
def mapSeg (hi : Nat) : Nat := bits hi 24 5
def mapString (hi : Nat) : Nat := bits hi 32 8
def mapUpd (hi : Nat) : Nat := bits hi 40 24

/-- ⌊DT / 10⁸⌋ mod 2²⁴. -/
def updOf (dt : Nat) : Nat := dt / 100000000 % 2 ^ 24

/-- The age of an entry in units of 0.1 s. -/
def State.mapAge (s : State) (hi : Nat) : Nat := (updOf s.dtNs + 2 ^ 24 - mapUpd hi) % 2 ^ 24

/-- A reply has come in the slot in hand of segment k, a good one or another. -/
def State.slotHeard (s : State) (k : Nat) (good : Bool) : State :=
  s.modSeg k (fun g => { g with round := g.round.map (fun r =>
    { r with good := r.good + b2n good
             batches := match r.batches with
               | b :: l => { b with got := b.got || good, heard := true } :: l
               | [] => [] }) })

/-- Trellis framing takes a decoded frame: it answers for the slot in hand, and a good one updates its map entry (R294, R300,
R301). -/
def State.framing (s : State) (f : UlFrame) : State :=
  let k := f.seg
  let a := f.addr
  if crc8 (leBytes f.payload 5) ≠ f.crc || bits f.payload 36 4 ≠ a % 16 then (s.count SEG.RX_CRC k).slotHeard k false
  else
    let e := s.mapRead a
    let s := e.1
    let hi := e.2.2.1
    if e.2.2.2 then s.slotHeard k false
    else if 0x7FFF ≤ a || !mapValid hi || mapSeg hi ≠ k then (s.count SEG.RX_UNK k).slotHeard k false
    else
      let v := fRatio false (bits f.payload 0 12) 40
      let i := fRatio false (bits f.payload 12 10) 50
      let t := tcode (10 * ((bits f.payload 22 8 : Int) - 40)) 16
      let ns := bits f.payload 30 6
      let hi' := t + ns <<< 16 + 2 ^ 23 + bits hi 24 5 <<< 24 + mapString hi <<< 32 + updOf f.dt <<< 40
      let s := (s.mapWrite a (v + i <<< 32) hi').count SEG.RX_OK k
      let s := { s with trl := { s.trl with miss := tput s.trl.miss a 0 0, lost := s.trl.lost.filter (· ≠ a) } }
      let old := mapNstat hi
      let s := s.when (decide (old % 4 ≠ ns % 4) || bit old 2 != bit ns 2) (fun s =>
        s.post 0x62 [(1, 1, k), (2, 2, a), (8, 1, old), (9, 1, ns)])
      s.slotHeard k true

/-- Trellis framing takes the frames of queue 75, while CK_SYS runs. -/
def State.framingGo (s : State) : State :=
  if s.halts.contains .ckSys then s
  else
    let l := s.trl.frames
    ({ s with trl := { s.trl with frames := [] } }).each l (fun f s => s.framing f)

/-- UPLINK_REPLY (R293 to R295, R300, R301): the demodulator has decoded a frame of segment k, from the results that
landed since `at_`: its 40 payload bits and its CRC. It uses the credit of the segment and enters queue 75, from which
framing takes it; a frame without a credit is lost (DEDUCED, log 88), and one in a batch whose poll was not sent
leaves the map unchanged (R298). -/
def execUplinkReply (k payload crc at_ : Nat) (s : State) : Host.Outcome State Fault Refusal :=
  s.runIf (dcOk k) (fun s =>
    if !s.trlRuns || s.rdB SEG.STAT_UL_RATE k || !s.hears k payload crc at_ || !(s.seg k).credit then s
    else
      match (s.seg k).round with
      | none => s
      | some r => match r.batches with
        | [] => s
        | b :: _ =>
          if !b.sent then s
          else
            let f : UlFrame := { seg := k, payload := payload, crc := crc, dt := s.dtAt at_, addr := b.addr + b.slot }
            let s := s.modSeg k (fun g => { g with credit := false })
            let s : State := { s with trl := { s.trl with frames := s.trl.frames ++ [f] } }
            s.framingGo)

/-- REPLY_SLOT_END (R295, R298): the slot in hand of segment k ends; RX_MISS counts one without any reply (Table 12.6),
and its node has been silent unless the reply was a good one. The segment takes a credit again for its next slot, or gives up
the one it holds where none follows. -/
def execReplySlotEnd (k : Nat) (s : State) : Host.Outcome State Fault Refusal :=
  s.runIf (dcOk k) (fun s =>
    let g := s.seg k
    match g.round with
    | none => s
    | some r => match r.batches with
      | [] => s
      | b :: rest =>
        let s := s.to (b.t0 + msH + (b.slot + 1) * b.len * 1280000)
        let s := s.when (!b.heard) (·.count SEG.RX_MISS k)
        let silent := if b.got then r.silent else r.silent ++ [b.addr + b.slot]
        let missing := r.missing + b2n (!b.heard)
        let b := { b with slot := b.slot + 1, got := false, heard := false }
        let l := if b.slot < b.n then b :: rest else rest
        let r := { r with silent := silent, missing := missing, batches := l }
        let s := s.setSeg k { g with round := some r }
        if l.isEmpty && g.poll.isNone then s.modSeg k (fun g => { g with credit := false }) else s.creditTake k)

/-- Node a of segment k has given no good reply in a round: NODE_LOST once, at MISS_N in a row (R301). -/
def State.nodeSilent (s : State) (k a : Nat) : State :=
  let e := s.mapRead a
  let s := e.1
  if 0x7FFF ≤ a || !mapValid e.2.2.1 || mapSeg e.2.2.1 ≠ k then s
  else
    let n := tgetD s.trl.miss a 0 + 1
    let s := { s with trl := { s.trl with miss := tput s.trl.miss a n 0 } }
    if n < s.rd SEG.ROUND_MISS_N k || s.trl.lost.contains a then s
    else
      (({ s with trl := { s.trl with lost := s.trl.lost ++ [a] } }).post 0x61
        [(1, 1, k), (2, 2, a), (8, 1, Nat.min n 255)]).fltOccur fsTrellis k

/-- ROUND_DONE (R295, R301): every slot of the round of segment k has ended. -/
def execRoundDone (k : Nat) (s : State) : Host.Outcome State Fault Refusal :=
  s.runIf (dcOk k) (fun s =>
    let g := s.seg k
    match g.round with
    | none => s
    | some r =>
      if r.left ≠ 0 || g.poll.isSome || !r.batches.isEmpty then s
      else
        let ms := (s.now - r.at_) / msH
        let s := s.setSeg k { g with round := none, fold := true }
        let s := s.each r.silent (fun a s => s.nodeSilent k a)
        let s := ((s.count SEG.ROUND_CNT k).wr SEG.ROUND_MS ms k).wrB SEG.STAT_POLLING false k
        s.post 0x60 [(1, 1, k), (8, 4, s.rd SEG.ROUND_CNT k), (12, 2, r.good), (14, 2, r.missing), (16, 4, ms)])

/-- POLL_NOW (R295): the next round of the segment starts as soon as the one in hand ends. -/
def execPollNow (q : Nat) (s : State) : Host.Outcome State Fault Refusal :=
  s.cmd q 0x64 (fun x _ s =>
    let k := bits x.d.arg 0 5
    (s.modSeg k (fun g => { g with now_ := true })).complete q stOk (s.rd SEG.ROUND_CNT k))

/-- One record of MAP_WRITE (R300, R304). A member that is written anew has missed no round yet (DEDUCED, log 87). -/
def State.mapRecord (s : State) (a m str : Nat) : State :=
  if bit m 7 then
    let s := { s with trl := { s.trl with miss := tput s.trl.miss a 0 0, lost := s.trl.lost.filter (· ≠ a) } }
    s.mapWrite a 0 (2 ^ 23 + (m % 32) <<< 24 + str <<< 32)
  else
    let e := s.mapRead a
    let hi := putBits (putBits (putBits e.2.2.1 23 1 0) 24 8 (m % 32)) 32 8 str
    e.1.mapWrite a e.2.1 hi

/-- MAP_WRITE (R300, R304). -/
def execMapWrite (q : Nat) (s : State) : Host.Outcome State Fault Refusal :=
  s.cmd q 0x61 (fun _ b s =>
    let rs := (List.range (b.length / 8)).map (fun i => (leAt b (8 * i) 2, leAt b (8 * i + 2) 1, leAt b (8 * i + 3) 1))
    let good := rs.filter (fun r => r.1 < 0x7FFF && r.2.1 % 32 < 24)
    (s.each good (fun r s => s.mapRecord r.1 r.2.1 r.2.2)).complete q
      (if good.length ≠ rs.length then stBadField else stOk) good.length)

/-- n entries from address a on, as their words; the CA of the first granule with an uncorrectable one. -/
def State.mapGet (s : State) (a n : Nat) : State × List Nat × Option Nat :=
  (List.range n).foldl (fun (r : State × List Nat × Option Nat) i =>
    let e := r.1.mapRead (a + i)
    (e.1, r.2.1 ++ [e.2.1, e.2.2.1], if e.2.2.2 && r.2.2.isNone then some (mapWord (a + i) / 8 * 64) else r.2.2)) (s, [], none)

/-- MAP_READ (R304, R351): entries beyond the map are a fault of the descriptor (DESIGN CHOICE, log 30). -/
def execMapRead (q : Nat) (s : State) : Host.Outcome State Fault Refusal :=
  s.cmdHost q 0x62 (fun x _ s =>
    let a := bits x.d.arg 0 15
    let n := x.d.len / 16
    if 32768 < a + n then s.complete q stBadField 0
    else
      let r := s.mapGet a n
      let s := (r.1.memReq (ceilDiv x.d.len 64) true).hostPut x.d.ptr (r.2.1.flatMap (fun w => leBytes w 8))
      match r.2.2 with
      | some ca => s.complete q stEcc ca
      | none => s.complete q stOk n)

/-- MAP_AGEING (R300): the hourly pass sets EXPIRED in every entry whose age exceeds 2²³ units. -/
def execMapAgeing (s : State) : Host.Outcome State Fault Refusal :=
  s.run (fun s =>
    if !s.has 10 || !s.hoeRuns || s.rdB HOE.STAT_SHED then s
    else
      let s := s.to s.hoe.ageAt
      let s := { s with hoe := { s.hoe with ageAt := s.now + 3600 * secH } }
      (s.each (List.range 0x7FFF) (fun a s =>
        let e := s.mapRead a
        if 2 ^ 23 < s.mapAge e.2.2.1 && !mapExpired e.2.2.1 && !e.2.2.2 then
          e.1.mapWrite a e.2.1 (e.2.2.1 + 2 ^ 22)
        else e.1)).hoeDone 5)

/-! ### Registers and modes -/

def State.trlCntClr (s : State) : State :=
  s.each (List.range 24) (fun k s =>
    s.each [SEG.RX_OK, SEG.RX_CRC, SEG.RX_MISS, SEG.RX_UNK, SEG.ROUND_CNT] (fun f s => s.wr f 0 k))

/-- TRL_CNT_CLR (R303). -/
def execTrlCntClr (s : State) : Host.Outcome State Fault Refusal :=
  s.run (fun s => s.hostWrite (fun s => s.when (s.has 10) (·.trlCntClr)))

/-- In SAFESTOP the poll frame of segment k that waits or is being sent cannot be sent: its batch runs on with the
slots it would have had (R298). -/
def State.pollUnsent (s : State) (k : Nat) : State :=
  let g := s.seg k
  match g.poll, g.round with
  | some p, some r =>
    if g.ended.any (fun f => f.1.type = 2) then s
    else
      let going := g.frame.any (fun f => f.1.type = 2)
      let r := { r with batches := r.batches ++ [{ p.2 with sent := false, t0 := Nat.max p.2.t0 s.now }] }
      let s := s.setSeg k { g with poll := none, round := some r, frame := if going then none else g.frame }
      (s.when going (·.wr LEG.LPERIOD (s.rd SEG.PER0 k) (s.dlLeg k))).dlDue k
  | _, _ => s

/-- A mode change: the keep-alive stops on entry into SAFESTOP from a mode that sends it, and resumes on leaving it for one
(R298). -/
def State.trlModeChange (s : State) (was : Mode) : State :=
  let s := s.when (s.mm.cur = .safestop) (·.each (List.range 24) (fun k s => s.pollUnsent k))
  if !s.trlRuns || s.rdB TRL.STAT_KA_HOST_STOP then s
  else if s.mm.cur = .safestop && trlModes.contains was then s.kaState 1
  else if was = .safestop && s.trlMode then s.kaState 2
  else s

/-! ### The fold (R281) -/

/-- A node that takes part in a fold: its string, voc and c, and whether it was bypassed. -/
structure FoldNode where
  string : Nat
  voc : Nat
  c : Nat
  bypassed : Bool

/-- The node of an entry, none where it is excluded. -/
def State.foldNode (s : State) (lo hi : Nat) : Option FoldNode :=
  let md (i : Nat) : Nat := s.rd DCS.MODEL 0 i
  let v := lo % 2 ^ 32
  let i := lo / 2 ^ 32
  let dT := fSub (fRatI (mapT hi) 10) (fOfNat 25)
  let voc := fAdd (md 1) (fMul (md 3) dT)
  let isc := fAdd (md 0) (fMul (md 4) dT)
  let byp := fLt v (md 5)
  let g := if byp then some (fDiv (fMul (md 7) i) isc)
    else if fLt v voc then
      some (fDiv i (fMul isc (fSub fOne (fExp (fDiv (fSub v voc) (md 2))))))
    else none
  g.map (fun g => { string := mapString hi, voc := voc, c := fMul (nClamp 0 (fc 15 10) g) isc, bypassed := byp })

/-- vm of a node at current i. -/
def State.foldVm (s : State) (m : FoldNode) (i : Nat) : Nat :=
  let low := fNeg (s.rd DCS.MODEL 0 6)
  if fLt i m.c then nMax (fAdd m.voc (fMul (s.rd DCS.MODEL 0 2) (fLn (fSub fOne (fDiv i m.c))))) low else low

/-- The 64 points (i, vs) of a string. -/
def State.foldString (s : State) (l : List FoldNode) : List (Nat × Nat) :=
  let top := l.foldl (fun a m => nMax a m.c) 0
  (List.range 64).map (fun j =>
    let i := fDiv (fMul top (fAdd (fOfNat j) fHalf)) (fOfNat 64)
    (i, l.foldl (fun a m => fAdd a (s.foldVm m i)) 0))

/-- The current of a string at voltage v. -/
def istr (p : List (Nat × Nat)) (v : Nat) : Nat :=
  let i (j : Nat) : Nat := (p.getD j (0, 0)).1
  let u (j : Nat) : Nat := (p.getD j (0, 0)).2
  if fGt v (u 0) then 0
  else
    match (List.range 63).find? (fun j => fLe (u (j + 1)) v) with
    | some j =>
      if fEq (u j) (u (j + 1)) then i j
      else fAdd (i j) (fDiv (fMul (fSub (i (j + 1)) (i j)) (fSub (u j) v)) (fSub (u j) (u (j + 1))))
    | none => i 63

/-- MAP_FOLD (R281): the completed round of segment k is folded and points j = 4 to 7 of its input are posted. -/
def execMapFold (k : Nat) (s : State) : Host.Outcome State Fault Refusal :=
  s.runIf (dcOk k) (fun s =>
    if !(s.seg k).fold then s
    else
      let s := s.modSeg k (fun g => { g with fold := false })
      let r := (List.range 0x7FFF).foldl (fun (a : State × List (Nat × Nat)) n =>
        let e := a.1.mapRead n
        (e.1, if mapValid e.2.2.1 && mapSeg e.2.2.1 = k then a.2 ++ [(e.2.1, e.2.2.1)] else a.2)) (s, [])
      let s := r.1
      let all := r.2
      if all.isEmpty then
        let s := s.modDci k (fun d => { d with foldAt := none })
        s.posts [(dcPt k + 4, 0), (dcPt k + 5, 0), (dcPt k + 6, 0), (dcPt k + 7, fInf false)]
      else
        let md := s.rd DCS.MODEL 0 8
        let on := fGt (s.rd DCS.MODEL 0 0) 0 && fGt (s.rd DCS.MODEL 0 2) 0
        let good := all.filter (fun e => on && !mapExpired e.2 && mapNstat e.2 % 4 = 1
          && fLe (fRatio false (s.mapAge e.2) 10) md)
        let nodes := good.filterMap (fun e => s.foldNode e.1 e.2)
        let strs := (nodes.map (·.string)).eraseDups
        let curves := strs.map (fun t => s.foldString (nodes.filter (fun m => m.string = t)))
        let vtop := curves.foldl (fun a p => nMax a (p.getD 0 (0, 0)).2) 0
        let pts := (List.range 64).map (fun q =>
          let v := fDiv (fMul vtop (fOfNat q)) (fOfNat 63)
          (v, fMul v (curves.foldl (fun a p => fAdd a (istr p v)) 0)))
        let best := pts.foldl (fun (b : Nat × Nat) p => if fGt p.2 b.2 then p else b) (pts.getD 0 (0, 0))
        let q := fRatio false (nodes.filter (fun m => !m.bypassed)).length all.length
        let s := s.modDci k (fun d => { d with foldAt := some s.dtNs })
        s.posts [(dcPt k + 4, best.1), (dcPt k + 5, best.2), (dcPt k + 6, q), (dcPt k + 7, 0)])

end Sys2Proof.Machine
end

