-- ==== Sys2Proof/Machine/Modes.lean ====
section
/-!
DEFINITION. The mode manager (spec 02): readiness, the transitions of Table 2.3 with the unit resets of Table 2.7,
the prestart sequence of R36, CEASE and its return (R246), MODE_SET (R39), the host watchdog, and the entries into
WAKE and KEEPALIVE (R406, R407).
-/
namespace Sys2Proof.Machine

def State.setMm (s : State) (f : ModeSt → ModeSt) : State := { s with mm := f s.mm }

/-! ### A change of CUR -/

/-- GLB.MODE.TARGET as a code, 0 when none applies. -/
def State.targetCode (s : State) : Nat := (s.mm.target.map Mode.code).getD 0

/-- The AC contactor as the mode manager sees it (R246, R388, R390): 0 NONE, 1 OPEN, 2 CLOSED, 3 MOVING, 4 FAULT. -/
def State.acState (s : State) : Nat := if s.has 16 then s.rd SAF.STAT_AC else if s.acTaken then 1 else 2

def State.dcStateNow (s : State) : Nat := if s.has 16 then s.rd SAF.STAT_DC else if s.dcTaken then 1 else 2

/-- The pending MODE_SET after a change to the mode now current (R39): it completes OK at its goal, goes on when it is
itself in PRESTART, and else ends with the status `fail`. -/
def State.resolveReq (s : State) (fail : Nat) (bySet : Bool) : State :=
  match s.mm.req with
  | none => s
  | some r =>
    let goal := if r.target = .prestart then r.then_ else r.target
    let new := s.mm.cur
    if new = goal then (s.setMm (fun m => { m with req := none })).complete r.q stOk new.code
    else if bySet && new = .prestart then s
    else (s.setMm (fun m => { m with req := none })).complete r.q fail new.code

/-- What an entry into STANDBY from SAFESTOP, CEASE or PRESTART resets (Table 2.7, R150, R136, R364). Sources that are not
asserted clear both before the groups that select their class and after the groups that assert them. -/
def State.standbyReset (s : State) : State :=
  let s := { s with cmpQ := [] }
  let s := s.each (List.range 96) (fun n s => (s.standbyLeg n).gstatStandby n)
  s.faultsStandby.shearsStandby.faultsStandby.shears

/-- What the change of CUR does in the units. -/
def State.unitsFollow (s : State) (was new : Mode) : State :=
  let s := s.dcsMode was
  let s := s.when (new = .standby && [Mode.safestop, .cease, .prestart].contains was) (·.standbyReset)
  let s := s.when (new = .standby) (fun s =>
    s.phgStandby.each (List.range 8) (fun k s => s.wrB BRK.STATUS_HALTED false k))
  let s := s.when (new = .prestart) (fun s => s.chkReset.phgPrestart)
  let s := s.when (was = .service) (fun s => s.each (List.range 8) (fun k s =>
    if s.rd BRK.HALT k = 2 then s.wr BRK.HALT 1 k else s))
  let s := s.when (was = .service || was = .factory) (fun s => (s.wr MEM.FLIP_CTRL 0).calAbort)
  let s := s.when (was = .dawn) (·.phgUndawn)
  let s := s.when (new = .dawn) (·.phgDawn)
  ((s.phgMode was).grdMode was).probeUpdate.trlModeChange was

/-- CUR changes to `new` for a cause (R32, R38, R40, R43): GLB.MODE follows, MODE_CHANGE and the mode point are posted,
and the units follow. `fail` is the status with which a pending MODE_SET for another goal ends. -/
def State.setMode (s : State) (new : Mode) (cause : Cause) (target : Option Mode) (fail : Nat := stModeForbidden)
    (bySet : Bool := false) : State :=
  let was := s.mm.cur
  let s := s.setMm (fun m => { m with
    cur := new
    prev := was
    target := target
    cause := cause
    seq := (m.seq + 1) % 256
    time := s.dtNs
    enteredAt := s.now
    step := if new = .prestart then 1 else 0
    stepAt := s.now
    checkNext := 0
    ending := false
    ceaseKick := false
    causes := if new = .cease then m.causes else []
    resetDue := decide (new = .safestop) && s.has 16 && !s.saf.up })
  let s := s.each (List.range 8) (fun k s => s.modBrk k (fun b => { b with ended := false }))
  let s := s.each (s.legs.map (·.1)) (fun n s => s.modLeg n (fun l => { l with ended := false }))
  let s := s.post 0x01 [(1, 1, was.code), (2, 1, new.code), (3, 1, cause.code), (8, 8, s.dtNs),
    (16, 1, s.targetCode), (17, 1, s.mm.seq)]
  let s := (s.postF 0x4299 (fOfNat new.code)).unitsFollow was new
  s.applyHolds.resolveReq fail bySet

/-! ### The host watchdog (R42) -/

/-- The watchdog period begins again. -/
def State.wdtRestart (s : State) : State := s.setMm (fun m => { m with kickAt := s.now, wdtOn := true })

/-- A write of 1 to HWDT_KICK.KICK. -/
def State.kick (s : State) : State :=
  let s := (s.wdtRestart.fltLevel fsHostWdt 0 false).setMm (fun m => { m with
    kicked := true, ceaseKick := m.ceaseKick || m.cur = .cease })
  s.shears

/-- HWDT_KICK (R42). -/
def execHwdtKick (s : State) : Host.Outcome State Fault Refusal :=
  s.run (fun s => s.hostWrite (fun s => (s.setMm (fun m => { m with key := 0 })).kick))

/-- HOST_WATCHDOG_EXPIRY (R42): HWDT_MS passed without a kick. -/
def execHostWatchdogExpiry (s : State) : Host.Outcome State Fault Refusal :=
  s.run (fun s =>
    let ms := s.rd GLB.MODECFG_HWDT_MS
    if ms = 0 || !s.mm.wdtOn || s.mm.cur = .keepalive then s
    else
      let s := s.to (s.mm.kickAt + ms * msH)
      let s := (s.setMm (fun m => { m with kicked := false, wdtOn := false })).fltSet fsHostWdt 0
      let s := (s.post 0x06 [(8, 8, s.dtNs), (16, 1, s.mm.cur.code)]).shears
      s.when (s.modeIn runModes) (·.trigger .hostLost))

/-- The FACTORY key sequence (R45): a correct value advances it, another one restarts it. -/
def State.fkey (s : State) (v : Nat) : State :=
  s.setMm (fun m =>
    let k := if v = [0x51A7, 0xC03E, 0x7E19].getD m.key 0 then m.key + 1 else if v = 0x51A7 then 1 else 0
    if k = 3 then { m with key := 0, keyDone := m.keyDone || (m.cur = .wake && m.ftest) } else { m with key := k })

/-- FKEY_WRITE (R45). -/
def execFkeyWrite (v : Nat) (s : State) : Host.Outcome State Fault Refusal :=
  s.run (fun s => s.hostWrite (·.fkey (v % 65536)))

/-! ### Prestart (R36) -/

/-- Entry into PRESTART toward a mode: the rails are tested (R392), and step 1 requests the DC contactor closed. -/
def State.prestartGo (s : State) (toward : Mode) (cause : Cause) (fromCease : Bool) : State :=
  let s := s.setMode .prestart cause (some toward) stModeForbidden (!fromCease)
  let s := s.setMm (fun m => { m with fromCease := fromCease })
  let s := s.when s.safUp (·.setSaf (fun v => { v with railTest := true }))
  s.contactorReq rqDcClose 2 0

/-- PRESTART ends in STANDBY, with both contactors requested open (Table 2.3). -/
def State.prestartFails (s : State) (cause : Cause) (fail : Nat) : State :=
  (s.contactorReq (rqAcOpen + rqDcOpen) 1 cause.code).setMode .standby cause none fail

/-- A trip group without CEASE has fired during the checks (R274). -/
def State.checkFired (s : State) : Bool :=
  (List.range 32).any (fun g => !s.rdB TG.CFG_CEASE g && match (s.tg g).fireAt with
    | some t => decide (s.mm.stepAt ≤ t)
    | none => false)

/-- How the present step stands: passed, failed, or none while it waits. -/
def State.stepDone (s : State) : Option Bool :=
  let contactor (v : Nat) : Option Bool := if v = 2 then some true else if v = 4 then some false else none
  match s.mm.step with
  | 1 => contactor s.dcStateNow
  | 2 => match s.dcs.preAt with
    | some t => if t + s.rd DCS.PRE_MS * msH ≤ s.now then some true else none
    | none => none
  | 3 =>
    if !s.rdB DCS.CFG then some true
    else if s.checkFired then some false
    else if s.chkLegs.any (fun n => decide (s.mm.checkNext ≤ n)) then none
    else some (!s.rdB DCS.CHK_STAT_FAIL)
  | 4 => if s.rdB GRD.STAT_ES_MET then some true else none
  | 5 => match s.grd.syncAt with
    | some t => if t + s.rd GRD.SYNC_TIME_HOLD_MS * msH ≤ s.now then some true else none
    | none => none
  | 6 => contactor s.acState
  | _ => none

/-- The next step begins; step 6 requests the AC contactor closed. -/
def State.stepNext (s : State) : State :=
  let s := s.setMm (fun m => { m with step := m.step + 1, stepAt := s.now })
  if s.mm.step = 5 then s.applyHolds
  else if s.mm.step = 6 then s.contactorReq rqAcClose 2 0
  else if s.mm.step = 7 then s.trigger .prestartPassed
  else s

/-- The sequence goes on as far as its steps have passed. -/
def State.prestartSteps : Nat → State → State
  | 0, s => s
  | n + 1, s =>
    if s.mm.cur ≠ .prestart || s.mm.trig.contains .checkFailed then s
    else
      match s.stepDone with
      | some true => State.prestartSteps n s.stepNext
      | some false => s.trigger .checkFailed
      | none => s

def State.prestartAdvance (s : State) : State := if s.mgmtHalted then s else State.prestartSteps 7 s.syncCheck

/-- PRECHARGE_HOLD_EXPIRY (R470). -/
def execPrechargeHoldExpiry (s : State) : Host.Outcome State Fault Refusal :=
  s.run (fun s =>
    match s.dcs.preAt with
    | some t =>
      if s.mm.cur = .prestart && s.mm.step = 2 && !s.mgmtHalted then (s.to (t + s.rd DCS.PRE_MS * msH)).prestartAdvance else s
    | none => s)

/-- SYNC_HOLD_EXPIRY (R469). -/
def execSyncHoldExpiry (s : State) : Host.Outcome State Fault Refusal :=
  s.run (fun s =>
    match s.grd.syncAt with
    | some t =>
      if s.mm.cur = .prestart && s.mm.step = 5 && !s.mgmtHalted then
        (s.to (t + s.rd GRD.SYNC_TIME_HOLD_MS * msH)).prestartAdvance
      else s
    | none => s)

/-- SYNC_TIMEOUT (R469): step 5 has lasted TMO_MS. -/
def execSyncTimeout (s : State) : Host.Outcome State Fault Refusal :=
  s.run (fun s =>
    if s.mm.cur = .prestart && s.mm.step = 5 && !s.mgmtHalted then
      let s := (s.to (s.mm.stepAt + s.rd GRD.SYNC_TIME_TMO_MS * msH)).prestartAdvance
      if s.mm.step = 5 then s.trigger .checkFailed else s
    else s)

/-- LEG_CHECK (R272 to R274): the check of the next leg in order, with what the board answers to it. -/
def execLegCheck (r : ChkResp) (s : State) : Host.Outcome State Fault Refusal :=
  s.run (fun s =>
    let next := s.chkLegs.find? (fun n => decide (s.mm.checkNext ≤ n))
    match next with
    | none => s
    | some n =>
      if s.mgmtHalted || s.mm.cur ≠ .prestart || s.mm.step ≠ 3 || !s.rdB DCS.CFG || s.mm.trig.contains .protection
        || s.mm.trig.contains .checkFailed then s
      else
        let a := s.legCheck n r
        let s := (a.1.chkVerdict n a.2).setMm (fun m => { m with checkNext := n + 1 })
        s.when (!s.mm.trig.contains .protection) (·.prestartAdvance))

/-- PRESTART_TIMEOUT (R36): GLB.PRESTART_TMO has passed since the entry. -/
def execPrestartTimeout (s : State) : Host.Outcome State Fault Refusal :=
  s.run (fun s =>
    if s.mm.cur = .prestart && !s.mgmtHalted then
      (s.to (s.mm.enteredAt + s.rd GLB.PRESTART_TMO * 100 * msH)).trigger .prestartTimeout
    else s)

/-! ### MODE_SET (R35, R39) -/

/-- Table 2.3 lists a MODE_SET from the present mode to t. -/
def State.listed (s : State) (t : Mode) : Bool :=
  match s.mm.cur with
  | .wake => t = .standby && s.mm.ftest
  | .standby => t = .prestart || t = .service
  | .prestart => t = .standby
  | .follow => t = .form || t = .dawn || t = .standby
  | .form => t = .follow || t = .dawn || t = .standby
  | .dawn => t = .standby || s.mm.target = some t
  | .ride => t = .standby
  | .cease => t = .standby
  | .safestop => t = .standby
  | .service => t = .standby
  | _ => false

/-- A safety demand, a SAFESTOP of an island that was down until a safety reset succeeds (R468), and for an AX9600-S in
SAFESTOP the 10 ms of PINH_N high (R37). -/
def State.setDenied (s : State) : Bool :=
  s.demandLevel || (s.mm.cur = .safestop && s.mm.resetDue) || (s.mm.cur = .safestop && !s.has 16 && decide (s.now < s.saf.pinhAt + 10 * msH))

/-- The first check of R39 that a MODE_SET to t fails. -/
def State.setCheck (s : State) (t : Mode) : Nat :=
  if !s.listed t || (s.mm.req.isSome && t ≠ .standby) then stModeForbidden
  else if s.setDenied then stSafetyDenied
  else if !s.mandatoryReady || (t = .prestart && !s.ready 45) then stNotReady
  else if t = .service && !s.contactorsOpen then stModeForbidden
  else stOk

/-- The request is pending; where its bricks end their periods first, they begin to (R467). -/
def State.setPending (s : State) (q : Nat) (t toward : Mode) : State :=
  let s := match s.mm.req with
    | some r => s.complete r.q stModeForbidden s.mm.cur.code
    | none => s
  let ends := t = .standby && s.modeIn (.cease :: .service :: runModes)
  (s.setMm (fun m => { m with req := some ⟨q, t, toward⟩, ending := m.ending || ends })).cmdWaits q

/-- MODE_SET: opcode 0x01 (R35, R39). -/
def execModeSet (q : Nat) (s : State) : Host.Outcome State Fault Refusal :=
  s.cmd q 0x01 (fun x _ s =>
    let t := Mode.ofCode (bits x.d.inl 0 8)
    let toward := Mode.ofCode (bits x.d.inl 8 8)
    match t with
    | none => s.complete q stModeForbidden s.mm.cur.code
    | some t =>
      let good := match toward with
        | some m => [Mode.follow, .form, .dawn].contains m
        | none => false
      if t = .prestart && !good then s.complete q stBadField s.mm.cur.code
      else
        let c := s.setCheck t
        if c ≠ stOk then s.complete q c s.mm.cur.code else s.setPending q t (toward.getD .follow))

/-- Every running brick, and every running own-period leg, has ended its period (R467). -/
def State.allEnded (s : State) : Bool :=
  (List.range 8).all (fun k =>
    !s.rdB BRK.STATUS_RUN k || s.rdB BRK.STATUS_HALTED k || (s.brk k).ended) &&
  (List.range 96).all (fun n => !(s.leg n).ownRun || (s.leg n).ended)

/-- The pending MODE_SET is carried out, its conditions judged again. -/
def State.doSet (s : State) : State :=
  match s.mm.req with
  | none => s
  | some r =>
    let was := s.mm.cur
    if was = .prestart && r.target = .prestart then s
    else
      let c := ({ s with mm := { s.mm with req := none } } : State).setCheck r.target
      if c ≠ stOk then (s.setMm (fun m => { m with req := none, ending := false })).complete r.q c was.code
      else if s.mm.ending && !s.allEnded then s
      else
        match r.target with
        | .prestart => s.prestartGo r.then_ .hostRequest false
        | .dawn => s.setMode .dawn .hostRequest (some was) stModeForbidden true
        | .standby =>
          let opens := s.modeIn (.cease :: .prestart :: runModes)
          let s := s.when opens (·.contactorReq (rqAcOpen + rqDcOpen) 1 Cause.hostRequest.code)
          s.setMode .standby (if was = .safestop then .safetyReset else .hostRequest) none stModeForbidden true
        | t => s.setMode t .hostRequest none stModeForbidden true

/-! ### CEASE (R38, R246) -/

/-- The causes of CEASE that wait, in the order of R38. -/
def State.ceaseCauses (s : State) : List Cause :=
  let on (t : Trigger) (c : Cause) : List Cause := if s.mm.trig.contains t then [c] else []
  on .protection .protectionTrip ++ on .island .island ++ on .momentary .momentaryCessation ++ on .hostLost .hostLost

/-- The contactor request of new causes (Table 10.5). -/
def State.ceaseRequest (s : State) (l : List Cause) : State :=
  match l.find? (fun c => c = .protectionTrip || c = .island) with
  | some c => s.contactorReq rqAcOpen 0 c.code
  | none => s

/-- CEASE is entered for these causes, or they add to its return conditions. -/
def State.ceaseFor (s : State) (l : List Cause) : State :=
  match l with
  | [] => s
  | c :: _ =>
    if s.modeIn runModes then
      let back := if s.mm.cur = .ride then s.mm.target else some s.mm.cur
      ((s.setMm (fun m => { m with causes := l })).setMode .cease c back).ceaseRequest l
    else if s.mm.cur = .cease then
      let more := l.filter (fun c => !s.mm.causes.contains c)
      (s.setMm (fun m => { m with causes := m.causes ++ more })).ceaseRequest more
    else if s.mm.cur = .prestart && c = .protectionTrip then s.prestartFails .protectionTrip stModeForbidden
    else s

/-- The return condition of one cause (Table 10.5). For momentary cessation, `no must-trip` is that none is present: one
that came and went adds its own conditions (R245, R249). -/
def State.returnMet (s : State) : Cause → Bool
  | .protectionTrip =>
    (List.range 32).all (fun g => !(s.rdB TG.CFG_CEASE g && s.rdB TG.STAT_TRIPPED g)) && s.mandatoryReady &&
    (List.range 8).all (fun k => !s.rdB BRK.STATUS_HALTED k) &&
    (List.range 3).all (fun g => !(s.phg g).members || !(s.counted g).isEmpty) && s.rdB GRD.STAT_ES_MET
  | .island => s.rdB GRD.STAT_ES_MET
  | .momentaryCessation => match s.grd.restoreAt with
    | some t => s.grdActs && !s.mustNow &&
      decide (t + s.rd GRD.SETCFG_RESTORE_MS 0 (s.rd GRD.STAT_SET) * msH ≤ s.now)
    | none => false
  | .hostLost => s.mm.ceaseKick
  | _ => true

/-- CEASE may be left (R246). -/
def State.mayReturn (s : State) : Bool :=
  let auto := s.rdB GLB.MODECFG_AUTO_RESTART || s.rdB GRD.STAT_RETURN_REQ
    || s.mm.causes.all (· = .momentaryCessation)
  auto && s.mm.causes.all s.returnMet

/-- CEASE is left for TARGET or PRESTART by the AC contactor, or waits for it to settle. -/
def State.ceaseReturn (s : State) : State :=
  match s.mm.target with
  | none => s
  | some t =>
    if s.mm.cur ≠ .cease || !s.mayReturn then s
    else if s.acState = 2 then s.setMode t .returnConditions none
    else if s.acState = 1 then s.prestartGo t .returnConditions true
    else s

/-! ### The main reset (Table 2.7) -/

/-- A register that keeps its value over the reset of the main domain: the safety island's and Cloche's block, and the
last reset in PWR; over a device restart also what the dump and the link left (R54, R29, R374). -/
def keptReg (restart : Bool) (k : Nat) : Bool :=
  let a := k / 32 * 4
  let within (lo hi : Nat) : Bool := decide (lo ≤ a) && decide (a < hi)
  within 0x120000 0x121000 || within 0x050000 0x051000 || [0x020000, 0x020008].contains a ||
  (restart && ([0x040028, 0x04002C, 0x130010, 0x130110].contains a || within 0x3E0000 0x3E0400 ||
    within 0x000800 0x000C00 || within 0x020010 0x020028))

/-- What the reset of the main domain leaves of the island's dealings with it: queues 86, 88 and 89 are empty, and a safety
reset already taken up no longer ends a command (R29, R43, Table 2.7). -/
def SafSt.cutOff (v : SafSt) : SafSt :=
  { v with queue := [], rx := [], resets := v.resets.map (fun r => (r.1, none)) }

/-- Every main-domain unit is reset; the island, Cloche, the external memories and the outside world go on. -/
def State.mainReset (s : State) (restart keepQ : Bool) : State :=
  let r := State.resetOf s.variant
  { r with
    pending := s.pending
    now := s.now
    pw := s.pw
    free := s.free
    hostMem := s.hostMem
    out := s.out
    regs := tkeep s.regs (keptReg restart)
    mem := s.mem
    clk := s.clk
    clo := { s.clo with queue := if keepQ then s.clo.queue else [], rings := [], ringsNow := [] }
    saf := s.saf.cutOff
    pinhLow := s.pinhLow
    halts := s.halts }

/-- Entry into WAKE (Table 2.3, R40, R43, R45): every main-domain unit is reset; the straps are those sampled at main
supplies good. -/
def State.enterWake (s : State) (cause : Cause) (restart ftest : Bool) : State :=
  let mult := s.rd CLK.AUX
  let was := s.mm
  let s := s.mainReset restart false
  let mm : ModeSt := { prev := was.cur, cause := cause, goodAt := s.now, kickAt := s.now, enteredAt := s.now
                       ftest := ftest, linkUp := restart && was.linkUp, perstLow := was.perstLow
                       maxRead := if restart then was.maxRead else 512 }
  let s := { s with mm := mm }
  let s := s.memWake.sieWake.ptpWake.clkWake mult
  s.when (s.rdB SAF.STAT_DEMAND) (fun s => s.fltSet fsSafety (s.rd SAF.STAT_CODE))

/-- The device restart of Table 2.3, once the dump is done. -/
def State.deviceRestart (s : State) : State :=
  let ref := s.rdB CLK.STAT_REF10
  let lost := s.rdB CLK.STAT_REF_LOST
  let s := s.enterWake .deviceRestart true s.mm.ftest
  let s := (s.wrB CLK.STAT_REF10 ref).wrB CLK.STAT_REF_LOST lost
  ((s.wr PWR.LAST_CAUSE 5).wr PWR.LAST_RAIL 0).wrB PWR.STAT_PFW_SEEN false

/-! ### The main rails (R405 to R407) -/

/-- The undervoltage and overvoltage levels of rails 0 to 5, in mV (Table 18.1). -/
def State.railLevels (s : State) : List (Nat × Nat) :=
  [(740, 880), (1020, 1200), (550, 660), (1680, 1940), (1710, 1890), (10 * s.rd PWR.CFG_V33_THR, 3600)]

/-- The first rail outside its levels: its index, and whether it is over. -/
def State.railFault (s : State) (r : Rails) : Option (Nat × Bool) :=
  let l := s.railLevels.mapIdx (fun i lv => (i, r.mv.getD i 0, lv))
  (l.find? (fun (e : Nat × Nat × Nat × Nat) => decide (e.2.1 < e.2.2.1) || decide (e.2.2.2 < e.2.1))).map
    (fun e => (e.1, decide (e.2.2.2 < e.2.1)))

/-- The monitors show the rails (R419): VMON, GOOD and the level of PFW_N. -/
def State.railsShow (s : State) (r : Rails) : State :=
  let ok (i : Nat) : Bool :=
    let lv := s.railLevels.getD i (0, 0)
    decide (lv.1 ≤ r.mv.getD i 0) && decide (r.mv.getD i 0 ≤ lv.2)
  let good := maskOf ((List.range 6).filter ok)
  let s := s.each (List.range 6) (fun i s => s.wr PWR.VMON (Nat.min (r.mv.getD i 0) 65535) 0 i)
  (s.wr PWR.STAT_GOOD good).wrB PWR.STAT_PFW_N r.pfwN

/-- MAIN_SUPPLIES_GOOD (R406, R422): the rails and PFW_N at `at_`. Main supplies are good when none has been outside its
levels, nor PFW_N low, for 1 ms; the straps FTEST and REFSEL are sampled then. -/
def execMainSuppliesGood (ftest refsel : Bool) (r : Rails) (at_ : Nat) (s : State) :
    Host.Outcome State Fault Refusal :=
  s.run (fun s =>
    if s.mm.cur ≠ .keepalive then s
    else
      let s := (s.to at_).railsShow r
      if (s.railFault r).isSome || !r.pfwN then s.setMm (fun m => { m with railBad := s.now })
      else if s.now < s.mm.railBad + msH then s
      else ((s.enterWake .powerOn false ftest).wrB CLK.STAT_REF10 refsel).railsShow r)

/-- What the warning of these rails is, as PWR.LAST has it: PFW_N low for 100 ns, VDD_33 below V33_THR, each where PFW_SRC
selects it, else a rail under or over its levels; with its rail. -/
def State.warningOf (s : State) (r : Rails) (lowH : Nat) : Option (Nat × Nat) :=
  let sel := s.rd PWR.CFG_PFW_SRC
  if sel ≠ 1 && !r.pfwN && decide (1280 ≤ lowH) then some (1, 0)
  else if sel ≠ 0 && decide (r.mv.getD 5 0 < 10 * s.rd PWR.CFG_V33_THR) then some (2, 0)
  else (s.railFault r).map (fun f => (if f.2 then 4 else 3, f.1))

/-- POWER_FAIL_WARNING (R405, R407, R319): the rails and PFW_N at `at_`, which has been low for `lowH` h. On a warning the
partial interval goes to Cloche and the main domain is held in reset. -/
def execPowerFailWarning (r : Rails) (lowH at_ : Nat) (s : State) : Host.Outcome State Fault Refusal :=
  s.run (fun s =>
    let s := (s.to at_).railsShow r
    let bad := (s.railFault r).isSome || !r.pfwN
    if s.mm.cur = .keepalive then s.setMm (fun m => { m with railBad := if bad then s.now else m.railBad })
    else
      match s.warningOf r lowH with
      | none => s
      | some w =>
        let s := s.when (s.has 11 && s.ready 43 && s.mtr.restored) (·.retSend true)
        let was := s.mm
        let s := s.mainReset false true
        let s := s.setMm (fun m => { m with
          cur := .keepalive, prev := was.cur, cause := .supplyLoss, perstLow := was.perstLow, railBad := s.now })
        let s := ((s.wr PWR.LAST_CAUSE w.1).wr PWR.LAST_RAIL w.2).wrB PWR.STAT_PFW_SEEN true
        s.railsShow r)

/-! ### Readiness (R46, R47) -/

/-- READY bit b belongs to a unit this variant has. -/
def State.bitPresent (s : State) (b : Nat) : Bool :=
  if b = 4 then s.has 16 else if b = 42 then s.has 10 else if b = 43 then s.has 11 else b < 46

/-- What a function does when it becomes ready, for the first time since WAKE where `first`; `x` is what its bring-up found:
for CK_PWM the stored bands whose check fails (R425), for a MAC the address in the board EEPROM (R444). Firmware begins its
search of entry 0 when it runs (R425, log 143). -/
def State.readyActs (s : State) (b x : Nat) (first : Bool) : State :=
  match b with
  | 1 => s.when (first && s.clk.search.isNone) (·.searchBegin 0 none)
  | 3 => s.cloWake
  | 7 => s.setMm (fun m => { m with linkUp := true })
  | 10 => s.when first (·.bandsRestore x)
  | 11 => s.auxUpdate
  | 12 => s.dtStart
  | 37 => s.probeUpdate
  | 8 | 9 => s.wr ETH.MAC_ADDR x (b - 8)
  | 41 => s.scrubStart.hoeStart
  | 43 => s.mtrReadiness
  | _ => if 14 ≤ b && b ≤ 31 then s.coreReady (b - 14) else s

/-- READY_SET (R46): function b has completed its bring-up. GRAPH, PTP_LOCK and the memory bits set where their own
commands say; CLO waits for its store (R415), CLK_PWM for a plan in entry 0 (R425). -/
def execReadySet (b x at_ : Nat) (s : State) : Host.Outcome State Fault Refusal :=
  s.run (fun s =>
    let s := s.to at_
    let own := [13, 39, 44, 45].contains b
    let first := !bit s.mm.everReady b
    if s.mm.cur = .keepalive || own || !s.bitPresent b || s.ready b || (b = 4 && !(s.saf.up && s.saf.restored))
      || (b = 7 && s.mm.perstLow) || (b = 3 && !(s.clo.live && decide (1900 ≤ s.rd CLO.VOLT_VSTORE)))
      || (b = 10 && first && !s.rdB CLK.BAND_VALID) then s
    else
      let s := (s.readySet b).setMm (fun m => { m with everReady := m.everReady ||| 2 ^ b })
      let s := s.readyActs b x first
      if s.mandatoryReady then s.each (s.fsrc fsBringup).causes (fun c s => s.fltEnd fsBringup c) else s)

/-- READY_LOST (R47): function b loses readiness; the probe and the metering unit stop with their own (R250, R322). -/
def execReadyLost (b at_ : Nat) (s : State) : Host.Outcome State Fault Refusal :=
  s.run (fun s => (((s.to at_).loseReady b).when (b = 37) (·.probeUpdate)).when (b = 43) (·.mtrReadiness))

/-- BRINGUP_TIMEOUT (R47): a mandatory bit is still 0 at 180 ms after main supplies good. -/
def execBringupTimeout (s : State) : Host.Outcome State Fault Refusal :=
  s.run (fun s =>
    match mandatoryBits.find? (fun b => !s.ready b) with
    | none => s
    | some b =>
      if s.mm.cur ≠ .wake then s
      else
        let s := s.to (s.mm.goodAt + 180 * msH)
        (s.setMm (fun m => { m with cause := .bringupTimeout })).fltSet fsBringup b)

/-- PCIE_LINK_DOWN (R360, Table 16.1): the link goes down, or an uncorrectable AER error occurs on a link that stays. -/
def State.linkDown (s : State) (aer : Bool) : State :=
  let s := s.fltOccur fsPcie 0
  if aer then s else (s.setMm (fun m => { m with linkUp := false })).loseReady 7

def execPcieLinkDown (aer : Bool) (at_ : Nat) (s : State) : Host.Outcome State Fault Refusal :=
  s.run (fun s => if s.mm.linkUp then (s.to at_).linkDown aer else s.to at_)

/-- PERST_N_ASSERTION: the PCIe reset ball changes level; going low it takes the link down. -/
def execPerstNAssertion (low : Bool) (at_ : Nat) (s : State) : Host.Outcome State Fault Refusal :=
  s.run (fun s =>
    let s := (s.to at_).setMm (fun m => { m with perstLow := low })
    if low && s.mm.linkUp then s.linkDown false else s)

/-! ### The evaluation (R38) -/

/-- The last rank below a safety demand: WAKE, CEASE, RIDE, DAWN, PRESTART, MODE_SET. -/
def State.evalWake (s : State) : State :=
  if s.mm.ftest then if s.mm.keyDone then s.setMode .factory .factoryKey none else s.doSet
  else if !s.mandatoryReady then s
  else if s.demandLevel then s.setMode .safestop .readyComplete none stSafetyDenied
  else s.setMode .standby .readyComplete none

def State.evalPrestart (s : State) : State :=
  let s := s.prestartAdvance
  let on (t : Trigger) : Bool := s.mm.trig.contains t
  if on .checkFailed then s.prestartFails .checkFailed stModeForbidden
  else if on .prestartPassed then
    match s.mm.target with
    | some t => s.setMode t (if s.mm.fromCease then .returnConditions else .hostRequest) none
    | none => s
  else if on .prestartTimeout then s.prestartFails .prestartTimeout stTimeout
  else s.doSet

def State.evalRunning (s : State) : State :=
  let on (t : Trigger) : Bool := s.mm.trig.contains t
  let auto := s.rdB GLB.MODECFG_AUTO_DAWN
  if on .ride && s.modeIn [.follow, .form] then s.setMode .ride .rideCondition (some s.mm.cur)
  else if s.mm.cur = .ride && on .rideReturn then
    match s.mm.target with
    | some t => s.setMode t .returnConditions none
    | none => s
  else if auto && on .dawnIn && s.modeIn [.follow, .form] then s.setMode .dawn .dawnAuto (some s.mm.cur)
  else if auto && on .dawnOut && s.mm.cur = .dawn && s.mm.target.isSome then
    s.setMode (s.mm.target.getD .follow) .dawnAuto none
  else s.doSet

/-- One evaluation of the mode manager: the transition of highest precedence is made, and every trigger is consumed. -/
def State.evaluate (s : State) : State :=
  if s.mm.cur = .keepalive then s
  else if s.mm.trig.contains .restart then s.deviceRestart
  else if s.rdB FLT.STAT_FATAL_HOLD then s
  else if s.mm.cur = .wake then s.evalWake
  else if s.demandLevel && s.modeIn (.standby :: .prestart :: .cease :: .service :: runModes) then
    s.setMode .safestop .safetyDemand none stSafetyDenied
  else
    let l := s.ceaseCauses
    let was := s.mm.seq
    let s := s.ceaseFor l
    if s.mm.seq ≠ was then s
    else
      match s.mm.cur with
      | .cease =>
        let s := s.ceaseReturn
        if s.mm.seq ≠ was then s else s.doSet
      | .prestart => s.evalPrestart
      | .follow => s.evalRunning
      | .form => s.evalRunning
      | .dawn => s.evalRunning
      | .ride => s.evalRunning
      | _ => s.doSet

/-- MODE_MANAGER_EVALUATION (R36, R38, R39, R246): nothing is evaluated while the management core is halted (R107); what has
arisen waits. -/
def execModeManagerEvaluation (s : State) : Host.Outcome State Fault Refusal :=
  s.run (fun s => if s.mgmtHalted then s else
    let old := s.mm.trig
    let s := (s.setMm (fun m => { m with evals := true })).evaluate.reqFlush
    let s := s.when s.mainOn (·.phgTimes)
    s.setMm (fun m => { m with trig := m.trig.filter (fun t => !old.contains t && t ≠ .prestartPassed) }))

end Sys2Proof.Machine
end

