-- ==== Sys2Proof/Machine/Starts.lean ====
section
/-!
DEFINITION. BRICK_START and OWN_START (R89, R112): a START is the reload itself together with what the supervisors, the
DC stage, Trellis and the triggers do at it. The DC stage acts after the holds that end at the START, so that an input
whose leg switches again goes to START at this one (R263).
-/
namespace Sys2Proof.Machine

/-- BRICK_START (R89, R94): the next START of brick k, or its first. The supervisor judges the period that ends (R226)
before the reload, and spares begin to insert at it (R230). -/
def execBrickStart (k : Nat) (s : State) : Host.Outcome State Fault Refusal :=
  s.runIf (brickOk k) (fun s =>
    if s.halts.contains .ckPwm || !(s.rdB BRK.STATUS_RUN k || (s.brk k).first.isSome) then s
    else
      let s := (s.ownRelease k (s.startPoint k)).phgBefore k
      let ins := (List.range 3).filterMap (fun g => (s.insertReady g k).map (fun i => (g, i)))
      let dc := (s.brickLegs k).filter (fun n => s.role n = roleDc)
      let s := s.each dc (fun n s => s.dcsBefore n)
      let s := (s.brickReload k).phgStart k ins
      let s := (s.brickHolds k).each dc (fun n s => s.dcsStart n)
      ((((s.brickSwitch k).phgArm k).brickWaiters k).timersStart k).fireStart k)

/-- OWN_START (R112): the next START of the own-period leg n, or its first. -/
def execOwnStart (n : Nat) (s : State) : Host.Outcome State Fault Refusal :=
  s.runIf (legOk n) (fun s =>
    let l := s.leg n
    if s.halts.contains .ckPwm || !s.ownLeg n || !(l.ownRun || l.ownFirst.isSome) then s
    else
      let s := (((s.dcsBefore n).ownReload n).ownHolds n).dcsStart n
      ((s.resync n).trlStart n).fireOwn n)

end Sys2Proof.Machine
end

