-- ==== Sys2Proof/Machine/View.lean ====
section
/-!
DEFINITION. What software reads: the fields that show other state (rov of Table 0.3, and the RO fields that
follow a state of their unit), and the value of a BAR0 read (R13 to R16, R27, R55, R56). Reading changes
nothing (R13).
-/
namespace Sys2Proof.Machine

/-- The register writes that stand in bridge queue i; those behind its depth are held by the endpoint (Table 1.6). -/
def State.bridgeLen (s : State) (i : Nat) : Nat := Nat.min (queueDepth i) (s.bridge.filter (·.queue = i)).length

/-- The fabric commands that queue 80 has to take; a command behind its depth waits at the ring engine (Table 1.6). -/
def State.fabricLen (s : State) : Nat := (List.range 32).countP s.inFabric

/-- The entries that queue i holds (R27). Queues whose entries the model moves at once hold none between
commands. -/
def State.queueLen (s : State) (i : Nat) : Nat :=
  if i < 34 then (s.results i).length
  else if i < 42 then (tgetD s.cmpQ (i - 34) []).length
  else if i < 74 then
    let r := s.ring (i - 42)
    r.reads.foldl (fun n x => n + x.2.1) r.prefetch.length
  else match i with
    | 74 => s.caps.foldl (fun n p => n + (match p.2 with
        | some c => ceilDiv c.staged.length 64
        | none => 0)) (s.trss.foldl (fun n p => n + ceilDiv p.2.staged.length 64) 0)
    | 75 => s.trlFrames
    | 76 => s.flt.queue.length
    | 77 => s.bridgeLen 77
    | 78 => s.bridgeLen 78
    | 79 => s.bridgeLen 79
    | 80 => Nat.min 16 s.fabricLen
    | 81 => s.esp.mboxQ.length
    | 82 => s.queueUsed 82
    | 83 => s.queueUsed 83
    | 84 => s.queueUsed 84
    | 85 => s.islandWaiting
    | 86 => s.saf.queue.length
    | 87 => s.clo.queue.length
    | 88 => (tgetD s.saf.rx 0 []).length
    | 89 => (tgetD s.saf.rx 1 []).length
    | 90 => s.reports.length
    | _ => 0

/-- GLB.QSTAT[i].CREDITS. -/
def State.credits (s : State) (i : Nat) : Nat :=
  if s.queuePresent i then queueDepth i - s.queueLen i else 0

/-- The bits of 32 like units as one number: bit j is p (32·i + j). -/
def bits32 (i n : Nat) (p : Nat → Bool) : Nat :=
  maskOf ((List.range 32).filter (fun j => decide (32 * i + j < n) && p (32 * i + j)))

/-- A firmware version field, 0 until READY.MGMT has set since WAKE (Table 20.3, R440). -/
def State.fwBits (s : State) (lsb n : Nat) : Nat := if bit s.mm.everReady 1 then bits Config.firmware lsb n else 0

/-- The completions of submission ring q that are not yet written. -/
def State.cplOf (s : State) (q : Nat) : Nat := (s.cplQ.filter (·.q = q)).length

/-- Ring q is enabled as a ring of class c (R57, R58). -/
def State.ringIs (s : State) (q c : Nat) : Bool := s.rdB RNG.CFG_ENABLE q && (s.ring q).cls = c

/-- Submission ring q has nothing started or uncompleted. -/
def State.ringIdle (s : State) (q : Nat) : Bool := (s.ring q).started.isNone && s.cplOf q = 0

/-- RNG[q].STAT.PENDING (Table 3.7). A ring of 2^16 entries that is full shows the most that 16 bits hold, 65,535
(DESIGN CHOICE, log 131). -/
def State.ringPending (s : State) (q : Nat) : Nat :=
  if q < 32 then (s.ring q).prefetch.length + b2n (s.ring q).started.isSome + s.cplOf q
  else Nat.min (s.ring q).used 65535

/-- RNG[q].STAT.WAIT_CQ. -/
def State.ringWaits (s : State) (q : Nat) : Bool :=
  decide (q < 32) && (s.ringIs q 1 || !s.ringIdle q) && !s.ringIs (32 + (s.ring q).cq) 2

/-- The supervisor states of group g that p admits, counted. -/
def State.countSup (s : State) (g : Nat) (p : LegSup → Bool) : Nat :=
  ((s.members g).filter (fun n => p (s.leg n).sup)).length

/-- The fields that show other state, each with what it shows. -/
def views : List (Fld × (State → Nat → Nat → Nat)) := [
  (GLB.ID_VENDOR, fun _ _ _ => Config.vendorId), (GLB.REV_VARIANT, fun s _ _ => s.variant.code),
  (GLB.UNITS, fun s _ _ => s.variant.units), (GLB.FW_MAJOR, fun s _ _ => s.fwBits 24 8),
  (GLB.FW_MINOR, fun s _ _ => s.fwBits 16 8), (GLB.FW_BUILD, fun s _ _ => s.fwBits 1 15),
  (GLB.FW_SLOT, fun s _ _ => s.fwBits 0 1), (GLB.MODE_CAUSE, fun s _ _ => s.mm.cause.code),
  (GLB.MODE_TARGET, fun s _ _ => s.targetCode), (GLB.MODE_SEQ, fun s _ _ => s.mm.seq % 256),
  (GLB.MODE_PREV, fun s _ _ => s.mm.prev.code), (GLB.MODE_CUR, fun s _ _ => s.mm.cur.code),
  (GLB.MODE_TIME, fun s _ _ => s.mm.time), (GLB.QSTAT_CREDITS, fun s _ j => s.credits j)] ++ [
  (RNG.STAT_PENDING, fun s q _ => s.ringPending q), (RNG.STAT_WAIT_CQ, fun s q _ => b2n (s.ringWaits q)),
  (RNG.STAT_QUIESCED, fun s q _ => b2n (!s.rdB RNG.CFG_ENABLE q && (decide (32 ≤ q) || s.ringIdle q))),
  (RNG.STAT_ACTIVE, fun s q _ => b2n (s.rdB RNG.CFG_ENABLE q && (s.ring q).cls ≠ 0 && !(s.ring q).stopped)),
  (BRK.GBLK, fun s k _ => maskOf ((List.range 12).filter (fun i => (s.leg (12 * k + i)).gblock))),
  (LEG.STATUS_RETIRED, fun s n _ => b2n ((s.leg n).sup = .retired)),
  (LEG.STATUS_BLOCKED, fun s n _ => b2n ((s.leg n).gblock || s.rdB LEG.CTRL_HBLOCK n)),
  (LEG.LIVE_FH, fun s n _ => s.liveCode n .high), (LEG.LIVE_FL, fun s n _ => s.liveCode n .low),
  (CMP.LATCHED, fun s _ i => bits32 i 224 (fun w => s.rdB CW.STAT_LATCH w)),
  (SHR.TRIPPED, fun s _ _ => bits32 0 32 (fun g => s.rdB TG.STAT_TRIPPED g)),
  (SHR.ACTIVE, fun s _ _ => bits32 0 32 (fun g => s.rdB TG.STAT_ACTIVE g)),
  (SHR.LEGTRIP, fun s _ i => bits32 i 96 (fun n => !(s.leg n).trips.isEmpty)),
  (CW.STAT_BLANKING, fun s w _ => b2n (s.blanking w))] ++ [
  (SIE.REGION, fun s _ _ => s.sieRegion), (TRL.STAT_KA_ON, fun s _ _ => b2n s.kaOn),
  (TRL.STAT_RUN, fun s _ _ => b2n s.trlRuns),
  (SEG.STAT_DL, fun s k _ => if s.trlRuns then s.dlKind k else 0),
  (MTR.STAT_SEALED, fun s _ _ => s.rd MTR.CFG_SEAL), (MTR.STAT_RUN, fun s _ _ => b2n s.mtrOn),
  (MTR.STAT_MAP_ERR, fun s _ _ => b2n (s.rdB MTR.CFG_EN && !s.mapOk)),
  (MTR.STAT_CH_FAULT, fun s _ _ => b2n (s.rdB MTR.CFG_EN && s.chFault.isSome)),
  (MTR.GAP_MS, fun s _ _ => s.gapMs), (MTR.CALCRC, fun s _ _ => s.calCrc),
  (ACC.LO, fun s i _ => s.accVal i), (ACC.HI, fun s i _ => s.accVal i >>> 64)] ++ [
  (PHG.STAT_N, fun s g _ => (s.counted g).length),
  (PHG.STAT_N_SHADOW, fun s g _ => s.countSup g (· = .shadow)),
  (PHG.STAT_N_SPARE, fun s g _ =>
    ((List.range 96).filter (fun n => (s.leg n).sup = .spare && s.mayServe g n)).length),
  (FLT.ACTIVE, fun s _ i => bits32 i 203 (fun c => s.rdB SRC.STAT_ACTIVE c)),
  (FLT.ASSERTED, fun s _ i => bits32 i 203 (fun c => s.rdB SRC.STAT_ASSERTED c)),
  (FLT.WIRE, fun s _ i => bits32 i 203 (fun c => s.rdB SRC.STAT_WIRE c)),
  (SAF.ACRC, fun s _ _ => s.safAcrc), (CLO.STAT_CHARGING, fun s _ _ => b2n s.charging),
  (CLO.RTC, fun s _ _ => s.rtcNow), (PTP.DT, fun s _ _ => s.dtNs),
  (PTP.STAT_LOCKED, fun s _ _ => b2n (s.ready 13)), (PTP.CLOCK_ID, fun s _ _ => s.clockId),
  (ETH.STAT_MISMATCH, fun s n _ =>
    b2n (s.rdB ETH.STAT_LINK n && s.rd ETH.STAT_PHY_SPEED n ≠ s.rd ETH.CFG_SPEED n))]

/-- A field of the block of a reserved fault source: it reads 0 and ignores writes (R376). -/
def deadField (f : Fld) (i : Nat) : Bool := f.iN = 256 && 203 ≤ i

/-- A field's value as software reads it: WO fields read 0 (Table 0.3). -/
def State.view (s : State) (f : Fld) (i j : Nat) : Nat :=
  if deadField f i then 0 else match views.find? (fun v => v.1.off = f.off && v.1.lsb = f.lsb) with
  | some v => v.2 s i j % 2 ^ f.width
  | none => if f.acc = .wo then 0 else s.rd f i j

/-- The block at offset o belongs to an absent unit (R2, R442). -/
def State.absentAt (s : State) (o : Nat) : Bool :=
  match blkAt o with
  | some b => b.unit.any (fun u => !s.has u)
  | none => false

/-- The dword at BAR0 offset o as software reads it; a reserved offset reads 0 (R56). -/
def State.viewDword (s : State) (o : Nat) : Nat :=
  if s.absentAt o then 0 else dwordOf s.view (fldsAt o) o

/-- A register read of `size` bytes at an aligned offset o (R15). -/
def State.viewReg (s : State) (o size : Nat) : Nat :=
  s.viewDword o + (if size = 8 then s.viewDword (o + 4) <<< 32 else 0)

/-- The signal-point window (R16). -/
def inWindow (o : Nat) : Bool := decide (0x400000 ≤ o) && decide (o < 0x500000)

/-- A BAR0 access of this size and offset is one the device accepts (R15, R16). -/
def bar0Ok (o size : Nat) : Bool :=
  (size = 4 && o % 4 = 0) || (size = 8 && o % 8 = 0 && !inWindow o)

/-- What a BAR0 read returns: no access is answered in KEEPALIVE, a bad size or alignment reads 0. -/
def State.bar0Read (s : State) (o size : Nat) : Nat :=
  if !s.mainOn || !bar0Ok o size then 0
  else if inWindow o then s.sp ((o - 0x400000) / 4)
  else s.viewReg o size

end Sys2Proof.Machine
end

