-- ==== Sys2Proof/Machine/RingBase.lean ====
section
/-!
DEFINITION. The rings (spec 03): enabling and disabling, doorbells, descriptor reads, completions, event records and
interrupts.
-/
namespace Sys2Proof.Machine

def ringOk (q : Nat) : Bool := q < 64

/-- A completion or event ring. -/
def cqOk (q : Nat) : Bool := 32 ≤ q && q < 64

/-- The entries of ring q, as it was enabled. -/
def RingSt.entries (r : RingSt) : Nat := 2 ^ r.size

/-! ### Interrupts (R80, R81) -/

/-- The message of MSI-X vector v: while the vector is masked its pending bit sets instead. -/
def State.msix (s : State) (v : Nat) : State :=
  if s.rdB MSIX.CTRL v then s.wr PBA.PBA (s.rd PBA.PBA ||| 2 ^ v)
  else s.hostPut (4 * s.rd MSIX.ADDR v) (leBytes (s.rd MSIX.DATA v) 4)

/-- The instant at which the oldest unsignalled entry of ring q has waited MOD_TIME. -/
def State.modDue (s : State) (q : Nat) : Option Nat :=
  let t := s.rd RNG.MOD_MOD_TIME q
  if t = 0 then none else (s.ring q).unsig.head?.map (· + t * usH)

/-- A condition of R80 holds on ring q. -/
def State.irqDue (s : State) (q : Nat) : Bool :=
  let r := s.ring q
  s.rd RNG.MOD_MOD_CNT q ≤ r.unsig.length || r.irq || (s.modDue q).any (· ≤ s.now)

/-- While ring q is armed with interrupts enabled, its message is sent once a condition holds; sending disarms. A ring
that has been disabled sends none for the entries it left unsignalled (DESIGN CHOICE, log 131). -/
def State.irqCheck (s : State) (q : Nat) : State :=
  if s.rdB RNG.CFG_ENABLE q && s.rdB RNG.CFG_IRQEN q && s.rdB RNG.STAT_ARMED q && s.irqDue q then
    ((s.modRing q (fun r => { r with unsig := [], irq := false })).wrB RNG.STAT_ARMED false q).msix
      (s.rd RNG.CFG_VECTOR q)
  else s

/-- MSIX_MOD_TIME_EXPIRY (R80): the oldest unsignalled entry of ring q has waited MOD_TIME. -/
def execMsixModTimeExpiry (q : Nat) (s : State) : Host.Outcome State Fault Refusal :=
  s.runHostIf (cqOk q) (fun s => match s.modDue q with
    | some t => (s.to t).irqCheck q
    | none => s)

/-- Vector v is unmasked: a message that waits is sent (R81). -/
def State.unmask (s : State) (v : Nat) : State :=
  if bit (s.rd PBA.PBA) v then ((s.wr PBA.PBA (putBits (s.rd PBA.PBA) v 1 0)).msix v) else s

/-- MSIX_UNMASK (R81): the mask bit of vector v of the MSI-X table is cleared. -/
def execMsixUnmask (v : Nat) (s : State) : Host.Outcome State Fault Refusal :=
  s.runHostIf (v < 64) (fun s => s.hostWrite (fun s => (s.wr MSIX.CTRL 0 v).unmask v))

/-! ### Descriptor reads (R64, R67) -/

/-- The descriptors that one read request may cover under the maximum read request size in force (R67). -/
def State.perRead (s : State) : Nat := Nat.max 1 (s.mm.maxRead / 32)

/-- The descriptors of ring q behind HOSTIDX that no read covers yet. -/
def State.unfetched (s : State) (q : Nat) : Nat :=
  let n := (s.ring q).entries
  (s.rd RNG.HOSTIDX q + n - (s.ring q).fetchIdx % n) % n

/-- One read request for new descriptors of ring q: while the prefetch queue holds a credit, within the maximum read
request size, and not past the end of the ring. -/
def State.fetchOne (s : State) (q : Nat) : State :=
  let r := s.ring q
  let n := r.entries
  let k := Nat.min (Nat.min (s.unfetched q) (16 - s.queueLen (42 + q))) (Nat.min (n - r.fetchIdx) s.perRead)
  if k = 0 then s
  else
    let s := s.setRing q { r with
      reads := r.reads ++ [(r.fetchIdx, k, s.now)], fetchIdx := (r.fetchIdx + k) % n, held := r.held - k }
    s.queueHolds (42 + q) (s.queueLen (42 + q))

/-- The descriptors of ring q that the full prefetch queue leaves waiting in host memory count once each (R25). -/
def State.fetchStall (s : State) (q : Nat) : State :=
  let n := s.unfetched q
  let h := (s.ring q).held
  if n ≤ h then s
  else (s.count GLB.QSTAT_STALL_CNT 0 (42 + q) (n - h)).modRing q (fun r => { r with held := n })

/-- The reads that ring q can issue now: back to back, up to the credits it holds (R67). -/
def State.fetchGo (s : State) (q : Nat) : State :=
  if s.ringIs q 1 && !(s.ring q).stopped then (s.each (List.range 17) (fun _ s => s.fetchOne q)).fetchStall q else s

/-- The oldest descriptor read of ring q fails: fetching stops (R64). -/
def State.fetchFail (s : State) (q : Nat) : State :=
  match (s.ring q).reads with
  | [] => s
  | x :: _ =>
    let a := (s.ring q).base + 32 * x.1
    ((s.modRing q (fun r => { r with reads := [], stopped := true })).wr RNG.STAT_ERR 1 q).post 0x08
      [(1, 1, q), (2, 1, 1), (8, 8, a)]

/-- The descriptor in slot i of the bytes b of a read (Table 3.8, R7); a byte that did not come reads 0 (log 115). -/
def descOf (b : List Nat) (i : Nat) : Desc :=
  let e := (b.drop (32 * i)).take 32
  { opcode := leAt e 0 1, flags := leAt e 1 1, tag := leAt e 2 2, seq := leAt e 4 4, ptr := leAt e 8 8,
    len := leAt e 16 4, arg := leAt e 20 4, inl := leAt e 24 8 }

/-- The n descriptors of a read that begins at a slot, each with its slot. -/
def descsOf (b : List Nat) (slot n : Nat) : List (Desc × Nat) := (List.range n).map (fun i => (descOf b i, slot + i))

/-- DESCRIPTOR_FETCH_COMPLETE (R62, R64, R67): the oldest descriptor read of ring q returns its bytes, 32 to each
descriptor, or none where its completion is erroneous. The reads of a ring complete in their order (DESIGN CHOICE, log
127: the spec gives none). -/
def execDescriptorFetchComplete (q : Nat) (res : Option (List Nat)) (at_ : Nat) (s : State) :
    Host.Outcome State Fault Refusal :=
  s.runIf (sqOk q) (fun s =>
    let s := s.to at_
    match (s.ring q).reads, res with
    | [], _ => s
    | _ :: _, none => s.fetchFail q
    | x :: rest, some l =>
      (s.modRing q (fun r => { r with reads := rest, prefetch := r.prefetch ++ descsOf l x.1 x.2.1 })).fetchGo q)

/-! ### Enabling and disabling (R58 to R60) -/

/-- ENABLE of ring q changes from 0 to 1: the configuration is read, the indices, the phase, SEQ and LOST start, the
interrupt is armed. STAT.ERR, which R59 does not name, returns to 0 as the error of the ring's last use (DESIGN CHOICE,
log 131). -/
def State.ringEnable (s : State) (q : Nat) : State :=
  let c := s.rd RNG.CFG_CLASS q
  let s := s.modRing q (fun r =>
    { base := 4096 * s.rd RNG.BASE q, size := s.rd RNG.CFG_SIZE q, cls := c, cq := s.rd RNG.CFG_CQ q,
      prio := s.rd RNG.CFG_PRIO q, seqchk := s.rdB RNG.CFG_SEQCHK q, started := r.started })
  let s := s.each [RNG.DEVIDX, RNG.HOSTIDX, RNG.STAT_ERR, RNG.LOST] (fun f s => s.wr f 0 q)
  (s.wr RNG.SEQ (if c = 3 then 1 else 0) q).wrB RNG.STAT_ARMED (2 ≤ c) q

/-- ENABLE of ring q changes from 1 to 0: what was fetched and not started is discarded. -/
def State.ringDisable (s : State) (q : Nat) : State :=
  s.modRing q (fun r => { r with reads := [], prefetch := [] })

/-- RING_ENABLE (R59): RNG[q].CFG.ENABLE is written 1. -/
def execRingEnable (q : Nat) (s : State) : Host.Outcome State Fault Refusal :=
  s.runIf (ringOk q) (fun s => s.hostWrite (fun s =>
    if s.rdB RNG.CFG_ENABLE q then s else (s.wrB RNG.CFG_ENABLE true q).ringEnable q))

/-- RING_DISABLE (R60): RNG[q].CFG.ENABLE is written 0. -/
def execRingDisable (q : Nat) (s : State) : Host.Outcome State Fault Refusal :=
  s.runIf (ringOk q) (fun s => s.hostWrite (fun s =>
    if s.rdB RNG.CFG_ENABLE q then (s.wrB RNG.CFG_ENABLE false q).ringDisable q else s))

/-! ### Doorbells (R65, R72) -/

/-- A doorbell is discarded with its record. -/
def State.bellBad (s : State) (q : Nat) : State := s.accessError 2 4 1 (0x1000 * q)

/-- The entries a doorbell index frees. -/
def State.freed (s : State) (q idx : Nat) : Nat :=
  let n := (s.ring q).entries
  (idx + n - s.rd RNG.HOSTIDX q % n) % n

/-- A doorbell to ring q is one that the ring takes. -/
def State.bellOk (s : State) (q v : Nat) : Bool :=
  v < (s.ring q).entries && (q < 32 || s.freed q v ≤ (s.ring q).used)

/-- A doorbell write of v to ring q. -/
def State.doorbell (s : State) (q v : Nat) : State :=
  if !s.ready 7 then s
  else if !s.rdB RNG.CFG_ENABLE q then s.bellBad q
  else if !s.bellOk q v then
    (s.wr RNG.STAT_ERR 2 q).bellBad q
  else if q < 32 then (s.wr RNG.HOSTIDX v q).fetchGo q
  else
    let n := s.freed q v
    (((s.modRing q (fun r => { r with used := r.used - n })).wr RNG.HOSTIDX v q).wrB RNG.STAT_ARMED true q).irqCheck q

/-- SQ_DOORBELL (R65, R67): a 32-bit write of v to the doorbell of submission ring q. -/
def execSqDoorbell (q v : Nat) (s : State) : Host.Outcome State Fault Refusal :=
  s.runIf (sqOk q) (fun s => s.doorbell q (v % 2 ^ 32))

/-- CQ_DOORBELL (R65, R72): a 32-bit write of v to the doorbell of completion or event ring q. -/
def execCqDoorbell (q v : Nat) (s : State) : Host.Outcome State Fault Refusal :=
  s.runHostIf (cqOk q) (fun s => s.doorbell q (v % 2 ^ 32))

/-- What a read of BAR2 returns (R56). -/
def State.bar2Read (_ : State) (_ _ : Nat) : Nat := 0

/-- The access is a doorbell write: 32 bits at the doorbell of a ring (R65). -/
def isBell (off size : Nat) (wr : Bool) : Bool := wr && size = 4 && off % 0x1000 = 0

/-- BAR2_INVALID_ACCESS (R56, R65): any BAR2 access but a doorbell write; a read returns 0 (State.bar2Read) and leaves no
record. A doorbell write is the command of its ring, and no such access. -/
def execBar2InvalidAccess (off size : Nat) (wr : Bool) (s : State) : Host.Outcome State Fault Refusal :=
  s.runIf (off < 0x40000) (fun s =>
    if s.ready 7 && wr && !isBell off size wr then s.accessError 2 size 1 off else s)

/-! ### Entries (R59, R71, R73, R76 to R78) -/

/-- The next entry of ring i, 64 for the next event record, waits for a credit of queue 82 and counts once (R25, Table
1.6). -/
def State.entryWaits (s : State) (i : Nat) : State :=
  if s.qWait.contains i then s else ({ s with qWait := s.qWait ++ [i] } : State).stallCount 82

/-- The entry that waited goes. -/
def State.entryGoes (s : State) (i : Nat) : State := { s with qWait := s.qWait.filter (· ≠ i) }

/-- An entry is written to the next slot of completion or event ring q, through queue 82. It counts as unsignalled
from now on even where IRQEN is still 0, so that a later write of IRQEN finds it (DESIGN CHOICE, log 131). -/
def State.putEntry (s : State) (q : Nat) (bytes : List Nat) (irq : Bool) : State :=
  let r := s.ring q
  let i := s.rd RNG.DEVIDX q
  let wrap := i + 1 = r.entries
  let s := (s.hostPut (r.base + bytes.length * i) bytes).wr RNG.DEVIDX (if wrap then 0 else i + 1) q
  let s := s.setRing q
    { r with
      phase := if wrap then !r.phase else r.phase
      used := r.used + 1
      unsig := r.unsig ++ [s.now]
      irq := r.irq || irq }
  (s.queueSpend 82).irqCheck q

/-- The 16 bytes of a completion with this phase (Table 3.10). -/
def cplBytes (c : Cpl) (phase : Bool) : List Nat :=
  leBytes c.tag 2 ++ [c.status % 256, c.q % 32 * 2 + b2n phase] ++ leBytes c.seq 4 ++ leBytes c.result 4
    ++ leBytes c.dtLo 4

/-- The first of a list that p admits, and the list without it. -/
def takeFirst {α : Type} (p : α → Bool) : List α → Option (α × List α)
  | [] => none
  | x :: xs => if p x then some (x, xs) else (takeFirst p xs).map (fun y => (y.1, x :: y.2))

/-- A DEVICE_RESTART whose completion is written, or that has none, begins its restart: the FATAL hold with its dump
(R83, R373). -/
def State.restartGo (s : State) : State :=
  match s.flt.restartQ with
  | some q =>
    if 0 < s.cplOf q then s
    else ({ s with flt := { s.flt with restartQ := none } } : State).fatalHold 0xFFFF 0
  | none => s

/-- The oldest completion due to completion ring q is written, once the ring is enabled and has room (R68, R73) and queue
82 has a credit (Table 1.6); a DEVICE_RESTART that waited for it begins (R83). -/
def State.writeCpl (s : State) (q : Nat) : State :=
  let r := s.ring q
  match takeFirst (fun c : Cpl => c.cq = q - 32) s.cplQ with
  | none => s
  | some (c, rest) =>
    if s.ringIs q 2 && decide (r.used < r.entries) then
      if s.queueRoom 82 then
        (({ s with cplQ := rest } : State).entryGoes q |>.putEntry q (cplBytes c r.phase) c.irq).restartGo
      else s.entryWaits q
    else s

/-- COMPLETION_WRITE (R68, R71, R73). -/
def execCompletionWrite (q : Nat) (s : State) : Host.Outcome State Fault Refusal :=
  s.runHostIf (cqOk q) (fun s => s.writeCpl q)

/-- The EVSEL bit of an event type (Table 3.13). -/
def evGroup (ty : Nat) : Option Nat :=
  if ty < 0x10 then some 0 else if ty < 0x20 then some 1 else if ty < 0x40 then some 2
  else if ty < 0x50 then some 3 else if ty < 0x60 then some 4 else if ty < 0x70 then some 5
  else if ty < 0x78 then some 6 else if ty < 0x80 then some 7 else if ty < 0x90 then some 8
  else if ty < 0xA0 then some 9 else if ty < 0xB0 then some 10 else none

/-- The event ring that takes group g (R77): the lowest enabled one whose EVSEL selects it. -/
def State.evRing (s : State) (g : Nat) : Option Nat :=
  ((List.range 32).map (· + 32)).find? (fun q => s.ringIs q 3 && bit (s.rd RNG.EVSEL q) g)

/-- Event ring q has room for n records. -/
def State.evRoom (s : State) (q n : Nat) : Bool := (s.ring q).used + n ≤ (s.ring q).entries

/-- A record is written to event ring q with the ring's next SEQ (R76). -/
def State.evPut (s : State) (q : Nat) (body : BitVec 256) : State :=
  let n := s.rd RNG.SEQ q
  let w := body.toNat + n <<< 32
  (s.wr RNG.SEQ (if n + 1 = 2 ^ 32 then 1 else n + 1) q).putEntry q (leBytes w 32) false

/-- Event ring q has lost records and has room: EVT_LOST is written first (R78). Its DT_LO is the instant at which it
arises, when room has returned, and not that of a lost record (DESIGN CHOICE, log 131). -/
def State.evLost (s : State) (q : Nat) : State :=
  let k := (s.ring q).lostNow
  if s.ringIs q 3 && decide (0 < k) && s.evRoom q 1 && s.queueRoom 82 then
    (s.modRing q (fun r => { r with lostNow := 0 })).evPut q (evWord 0x07 [(8, 4, Nat.min k max32)] s.dtLo)
  else s

/-- A record of event ring q is lost for want of room (R52, R78). -/
def State.evDrop (s : State) (q ty : Nat) : State :=
  let s := (s.modRing q (fun r => { r with lostNow := r.lostNow + 1 })).count RNG.LOST q
  s.when (ty = 2 || ty = 3) (·.count GLB.CLAMP_LOST)

/-- The oldest of the records that wait is taken. -/
def State.evTaken (s : State) (rest : List EvRec) : State := { s with evq := rest }

/-- EVENT_RECORD_WRITE (R77, R78, R466): the oldest waiting record is routed and written, or lost and counted; it waits
while queue 82 has no credit (Table 1.6). -/
def execEventRecordWrite (s : State) : Host.Outcome State Fault Refusal :=
  s.runHost (fun s => match s.evq with
    | [] => s
    | e :: rest =>
      let ty := e.body.toNat % 256
      match (evGroup ty).bind s.evRing with
      | none => (s.evTaken rest).count (if ty = 2 || ty = 3 then GLB.CLAMP_LOST else GLB.EVT_UNROUTED)
      | some q =>
        let s := s.evLost q
        if !s.evRoom q 1 then (s.evTaken rest).evDrop q ty
        else if s.queueRoom 82 then ((s.evTaken rest).entryGoes 64).evPut q e.body
        else s.entryWaits 64)

/-- EVT_LOST (R78): room has returned to event ring q. -/
def execEvtLost (q : Nat) (s : State) : Host.Outcome State Fault Refusal := s.runHostIf (cqOk q) (·.evLost q)

/-! ### GLB.QCLR (R28, R52, R61, R77) -/

/-- QCLR.ALL: the queue counters, LOST of every ring and the counts of lost records return to 0. As a
GLB write it breaks a key sequence (R45). -/
def State.qclr (s : State) : State :=
  let s := s.each (List.range 91) (fun i s => (s.wr GLB.QSTAT_STALL_CNT 0 0 i).wr GLB.QSTAT_HWM 0 0 i)
  let s := s.each (List.range 64) (fun q s => s.wr RNG.LOST 0 q)
  ((s.wr GLB.CLAMP_LOST 0).wr GLB.EVT_UNROUTED 0).setMm (fun m => { m with key := 0 })

/-- QCLR_ALL (R28, R61). -/
def execQclrAll (s : State) : Host.Outcome State Fault Refusal :=
  s.run (fun s => s.hostWrite (·.qclr))

end Sys2Proof.Machine
end

