-- ==== Sys2Proof/Machine/WriteTypes.lean ====
section
/-!
DEFINITION. What the effect of a register write is told: who writes, the indices of the field, its value before and
the value applied, and what the same write asks of its other fields.
-/
namespace Sys2Proof.Machine

structure HookArg where
  w : WSrc
  i : Nat
  j : Nat
  old : Nat
  new : Nat
  sib : Fld → Nat

end Sys2Proof.Machine
end

