-- ==== Sys2Proof/Machine/Hooks.lean ====
section
/-!
DEFINITION. What a register write does beside storing its fields: one entry per field with an effect, run once every
field of the write is stored (R11, R58 and the chapters of the units).
-/
namespace Sys2Proof.Machine

abbrev Hook := HookArg → State → State

/-- The effect of a write of 1. -/
def onOne (f : Nat → State → State) : Hook := fun a s => if a.new = 1 then f a.i s else s

/-- The effect of a change of the field. -/
def onChange (f : HookArg → State → State) : Hook := fun a s => if a.old = a.new then s else f a s

/-- The effect of a field going from 0 to 1. -/
def onRise (f : Nat → State → State) : Hook := fun a s => if a.old = 0 && a.new = 1 then f a.i s else s

/-- ROLE or OWNPER of leg n has changed: the period counter, the DC stage and Trellis follow. -/
def State.roleSync (s : State) (n : Nat) : State :=
  let s := (s.ownCheck n).dcSync
  (s.each (List.range 24) (fun k s => s.dlCheck k)).applyHold n

/-- The configuration of DC input k has changed. -/
def State.dciSync (s : State) (k : Nat) : State := s.dcSync.dlCheck k

/-- A threshold of window w has changed from code `old`: its DAC begins to move from the code it has reached (R139). -/
def State.thrHigh (s : State) (w old : Nat) : State :=
  let c := s.cw w
  let m := s.dacAt c.moveHi old
  (s.setCw w { c with moveHi := some (m.1, s.now) }).when c.moveHi.isSome (·.useFree)

def State.thrLow (s : State) (w old : Nat) : State :=
  let c := s.cw w
  let m := s.dacAt c.moveLo old
  (s.setCw w { c with moveLo := some (m.1, s.now) }).when c.moveLo.isSome (·.useFree)

/-- General window w is bound to another leg, or to none: the causes of both follow. Its blanking, which the edges of the
old leg gave it, ends, so that one with no bound leg is never blanked (R141; with another leg DESIGN CHOICE, log 148). -/
def State.rebind (s : State) (w old : Nat) : State :=
  let s := s.setCw w { s.cw w with edges := [] }
  let s := s.when (s.cw w).blankEnd.isSome (·.blankOver w)
  let s := if old < 96 then s.fltLevel old 0x22 (s.boundLatched old) else s.fltLevel fsGenwin (w - 192) false
  s.winFault w

/-- A GSTAT field is written 1 at some bits. -/
def State.gstatWrite (s : State) (n lsb v : Nat) : State := if v = 0 then s else s.gstatClear n (v <<< lsb)

/-- A sinc filter of input i is reconfigured: a running one restarts as at enable (R175). -/
def State.sdReconf (s : State) (i : Nat) : State := s.when (s.rdB SD.CFG_EN i) (·.sdStart i)

/-- The enable of ΣΔ input i changes. -/
def State.sdSwitch (s : State) (i : Nat) : State :=
  let on := s.rdB SD.CFG_EN i
  (s.sdEnable i on).fltLevel fsSdiLink i (s.sdBad i && on)

/-- Entry j has been written: its VALID clears. A write to the entry in force is ignored, so that one with its present
values, which R12 does not report, leaves VALID as it is (R425). -/
def State.bandWritten (s : State) (j : Nat) : State := s.when (j ≠ s.rd CLK.STAT_PLAN) (·.wr CLK.BAND_VALID 0 0 j)

/-- EN, DIV or FMT of output o changes (R173, R434). -/
def State.outChange (s : State) (o : Nat) : State :=
  let s := s.auxUpdate
  if o < 8 then (s.sdReconf (2 * o)).sdReconf (2 * o + 1) else s

/-- GCFG.DRV of brick k changes: its outputs and their link-alive pulses follow (R117, R122). -/
def State.drvChange (s : State) (k : Nat) : State :=
  (s.applyBrick k).each (legsOf k) (fun n s => s.aliveAgain n)

/-- The sequence position returns to FIRST (R163). -/
def State.seqRestart (s : State) (c q : Nat) : State := s.setSeq c q (s.seq c q).restart

/-- An action of PHG[g].CMD on its LEG, clamped to 95 (R49). -/
def State.phgCmd (s : State) (a : HookArg) (release : Bool) : State :=
  let n := Nat.min 95 (a.sib PHG.CMD_LEG)
  if a.new = 0 then s else if release then s.release a.i n else s.unretire a.i n

/-- The effects, by field. -/
def hooks : List (Fld × Hook) := [
  (GLB.MODECFG_HWDT_MS, fun _ s => s.wdtRestart), (GLB.HWDT_KICK, onOne (fun _ s => s.kick)),
  (GLB.FKEY, fun a s => s.fkey a.new), (GLB.QCLR, onOne (fun _ s => s.qclr)),
  (RNG.CFG_ENABLE, onChange (fun a s => if a.new = 1 then s.ringEnable a.i else s.ringDisable a.i)),
  (RNG.CFG_IRQEN, fun a s => s.irqCheck a.i), (RNG.CFG_VECTOR, fun a s => s.irqCheck a.i),
  (RNG.MOD_MOD_TIME, fun a s => s.irqCheck a.i), (RNG.MOD_MOD_CNT, fun a s => s.irqCheck a.i),
  (MSIX.CTRL, onChange (fun a s => if a.new = 0 then s.unmask a.i else s)),
  (CLK.EPOCH, onChange (fun _ s => s.alignSync)), (CLK.ALIGN_EN, onChange (fun _ s => s.alignSync)),
  (CLK.ALIGN_OFS, onChange (fun _ s => s.alignSync)),
  (CLK.BAND_MODE, fun a s => s.bandWritten a.j), (CLK.BAND_WIDTH, fun a s => s.bandWritten a.j),
  (CLK.BAND_MOD_HZ, fun a s => s.bandWritten a.j), (CLK.OUT_EN, onChange (fun a s => s.outChange a.j)),
  (CLK.OUT_FMT, onChange (fun a s => s.outChange a.j)), (CLK.OUT_DIV, onChange (fun a s => s.outChange a.j))] ++ [
  (BRK.CTRL_ENABLE, onChange (fun a s => if a.new = 1 then s.brickEnable a.i else s.brickDisable a.i)),
  (BRK.CTRL_RESUME, onOne (fun k s => s.resume k)), (BRK.GCFG_DRV, onChange (fun a s => s.drvChange a.i)),
  (BRK.GCFG_SPOL, onChange (fun a s => s.spolChange a.i)),
  (LEG.COMMIT, onOne (fun n s => (s.hostPair n (s.rd LEG.CMP_ON n) (s.rd LEG.CMP_OFF n)).1)),
  (LEG.PAIR_COMMIT_ON, fun a s => (s.hostPair a.i a.new (a.sib LEG.PAIR_COMMIT_OFF)).1),
  (LEG.CFG_EXPECT, fun a s => s.modLeg a.i (fun l => { l with seen := false })),
  (LEG.CFG_OWNPER, onChange (fun a s => s.roleSync a.i)), (LEG.ROLE, onChange (fun a s => (s.phgRole a.i a.old).roleSync a.i)),
  (LEG.CFG_LS_EN, onChange (fun a s => s.applyHold a.i)), (LEG.CTRL_HBLOCK, onChange (fun a s => s.applyHold a.i)),
  (LEG.CTRL_CNT_CLR, onOne (fun n s => (s.wr LEG.LATE_CNT 0 n).wr LEG.DEFER_CNT 0 n)),
  (LEG.GCTRL, onOne (fun n s => ((s.wr LEG.DELAY_CNT 0 n).wr LEG.REFRESH_CNT 0 n).wr LEG.MALF_CNT 0 n)),
  (LEG.GSTAT_L, fun a s => s.gstatWrite a.i 0 a.new), (LEG.GSTAT_H, fun a s => s.gstatWrite a.i 8 a.new),
  (LEG.GSTAT_INTLK_TMO, fun a s => s.gstatWrite a.i 16 a.new),
  (LEG.GSTAT_VLED_UV, fun a s => s.gstatWrite a.i 17 a.new)] ++ [
  (CW.THR_HIGH, onChange (fun a s => s.thrHigh a.i a.old)), (CW.THR_LOW, onChange (fun a s => s.thrLow a.i a.old)),
  (CW.SEL_LEG, onChange (fun a s => s.rebind a.i a.old)), (CW.STAT_LATCH, onOne (fun w s => (s.winClear w).shears)),
  (TG.CFG_ENABLE, onRise (fun g s => s.groupEnable g)), (TG.STAT_TRIPPED, onOne (fun g s => s.groupClear g)),
  (TG.SWTRIP, onChange (fun _ s => s.shears)), (TG.MISC_STYPE, onChange (fun _ s => s.shears)),
  (TG.MISC_WDOG, onChange (fun _ s => s.shears)), (TG.MISC_FCLASS, onChange (fun _ s => s.shears)),
  (TG.WIN, onChange (fun _ s => s.shears)), (TG.SLEG, onChange (fun _ s => s.shears)),
  (CORE.CFG, fun a s => s.pdWrite a.i), (CORE.SWTRIG, fun a s => s.swTrig a.i a.new),
  (CORE.CNT_CLR, onOne (fun c s => (s.wr CORE.OVR_CNT 0 c).wr CORE.LATE_CNT 0 c)),
  (CORE.SEQCTRL_EN, fun a s => if a.old = 0 && a.new = 1 then s.seqRestart a.i a.j else s),
  (CORE.SEQCTRL_LEN, onChange (fun a s => s.seqRestart a.i a.j)),
  (CORE.SEQCTRL_FIRST, onChange (fun a s => s.seqRestart a.i a.j)),
  (TMR.CFG_EN, onChange (fun a s => s.timerEnable a.i (a.new = 1))),
  (CAL.CTRL_GO, onOne (fun _ s => (s.wr CAL.CTRL_GO 0).calGo)),
  (CAL.CTRL_STEP, fun a s => if a.new = 3 then s.calAbort else s), (CAL.COEF_APPLY, onOne (fun _ s => s.coefApply)),
  (SDM.CTRL_CNT_CLR, onOne (fun _ s => s.sdmCntClr)), (SDM.CTRL_SYNC, onOne (fun _ s => s.sdmSync)),
  (SD.CFG_EN, onChange (fun a s => s.sdSwitch a.i)), (SD.CFG_OSR, onChange (fun a s => s.sdReconf a.i)),
  (SD.CFG_ORDER, onChange (fun a s => s.sdReconf a.i)), (SD.CFG_CODING, onChange (fun a s => s.sdReconf a.i))] ++ [
  (ESP.CTRL, onOne (fun _ s => s.espCntClr)), (ESP.COEF_COMMIT, fun a s => s.commitCads a.new none false),
  (ESP.CADTRIG, fun a s => s.cadTrig a.new),
  (ESP.CADEN, fun a s => s.wr ESP.CADEN (a.new % 2 ^ ((s.esp.graph.map (·.cads.length)).getD 0))),
  (ESP.MBOX_CFG_EN, fun a s => s.mboxLoad a.j), (ESP.MBOX_CFG_SP, fun a s => s.mboxLoad a.j),
  (TRG.CFG_EN, onRise (fun u s => { s with trgs := tput s.trgs u { evtAt := (tgetD s.trgs u {}).evtAt } {} })),
  (CAP.CTRL_FORCE, onOne (fun e s => s.capForce e)), (CAP.CTRL_ABORT, onOne (fun e s => s.capAbort e)),
  (TRS.CFG_EN, onRise (fun t s => s.traceEnable t)), (SIE.CTRL, onOne (fun _ s => s.sieCntClr)),
  (TRL.CTRL_CNT_CLR, onOne (fun _ s => s.trlCntClr)), (TRL.CTRL_KA_RESUME, onOne (fun _ s => s.kaResume)),
  (TRL.CTRL_KA_STOP, onOne (fun _ s => s.kaStop)), (SEG.CFG_EN, onChange (fun a s => s.dlCheck a.i)),
  (MTR.CFG_EN, onChange (fun _ s => s.mtrEnable)), (S0.CFG_EN, onChange (fun a s => s.s0Restart a.i)),
  (S0.CFG_POL, onChange (fun a s => s.s0Level a.i)), (S0.CFG_WIN_MIN, onChange (fun a s => s.s0Restart a.i)),
  (MTR.RATED, onChange (fun _ s => s.setMtr (fun m => { m with ratedNew := true }))),
  (PHG.CMD_UNRETIRE, fun a s => s.phgCmd a false), (PHG.CMD_RELEASE, fun a s => s.phgCmd a true),
  (PHG.SPMASK, onChange (fun _ s => s.phgSync (List.range 96))),
  (GRD.PROFILE, fun _ s => s.profileSet), (GRD.CTRL, onOne (fun _ s => s.grdReturn)),
  (PRB.CFG_EN, onChange (fun a s => (s.when (a.new = 1) (·.probeLearn)).probeUpdate)),
  (PRB.CFG_CODE, fun _ s => s.probeLearn), (PRB.STAT_COLLISION, onOne (fun _ s => s.collisionClear))] ++ [
  (DCS.PRE_VLO, onChange (fun _ s => s.linkCheck)), (DCS.PRE_VHI, onChange (fun _ s => s.linkCheck)),
  (DCI.V_SC, onChange (fun _ s => s.linkCheck)), (DCI.CFG_EN, onChange (fun a s => s.dciSync a.i)),
  (DCI.CFG_LEG, onChange (fun a s => (s.dlAbandon a.i).dciSync a.i)), (DCI.I_RATE, onChange (fun _ s => s.dcSync)),
  (DCI.VIN_START, onChange (fun a s => s.vinCheck a.i)), (DCI.CMD_UNBLOCK, onOne (fun k s => s.dcUnblock k)),
  (DCI.CMD_SWEEP, onOne (fun k s => s.dcSweep k)), (MEM.CNT_CLR, onOne (fun _ s => s.memCntClr)),
  (MEM.TEST_CTRL_GO, fun a s =>
    if a.new = 1 && s.modeAdmits .sf then s.testGo (a.sib MEM.TEST_CTRL_WRITE = 1) else s),
  (MEM.REMAP_CMD_GO, fun a s => if a.new = 1 then s.remapCmd (a.sib MEM.REMAP_CMD_GRANULE) else s),
  (FLT.CNT_CLR, onOne (fun _ s => s.fltCounters)), (FLT.FIRST_VALID, onOne (fun _ s => s.firstClear)),
  (FLT.INJ_GO, fun a s => if a.new = 1 then (s.injGo a.w).1 else s),
  (SRC.STAT_ACTIVE, onOne (fun i s => (s.activeClear i).shears)), (SRC.CFG_CLASS, onChange (fun _ s => s.shears)),
  (CLO.CTRL_LOG_CLR, onOne (fun _ s => s.logClr)), (CLO.CTRL_CNT_CLR, onOne (fun _ s => s.cloCntClr)),
  (SAF.CTRL, onOne (fun _ s => s.safCntClr)), (ETH.CTRL, onOne (fun n s => s.ethCntClr n)),
  (MDIO.CMD_GO, fun a s => if a.new = 1 then
      s.mdioGo (a.sib MDIO.CMD_OP) (a.sib MDIO.CMD_PHY) (a.sib MDIO.CMD_REG) (a.sib MDIO.CMD_DATA) else s),
  (PTP.CFG_EN, fun _ s => s.ptpSync), (PTP.CFG_SRC, onChange (fun _ s => s.ptpSrc)), (PTP.CFG_PORT, fun _ s => s.ptpSync),
  (PTP.CFG_PROFILE, fun _ s => s.ptpSync), (PTP.CFG_SLAVE_ONLY, fun _ s => s.ptpSync)]

/-- The effect of field f, if it has one. -/
def hookOf (f : Fld) : Option Hook := (hooks.find? (fun h => h.1.off = f.off && h.1.lsb = f.lsb)).map (·.2)

end Sys2Proof.Machine
end

