-- ==== Sys2Proof/Machine/Bar0.lean ====
section
/-!
DEFINITION. Register writes (R11, R12, R14, R15, R48, R49, R56): each field of the registers an access reaches is
checked on its own, clamped, refused or applied; then the fields' effects follow.
-/
namespace Sys2Proof.Machine

/-! ### The fields of an access -/

/-- The fields that an access of `size` bytes at offset o reaches, each once. -/
def accessFlds (o size : Nat) : List (Fld × Nat × Nat) :=
  let l := fldsAt o
  if size = 8 then
    l ++ (fldsAt (o + 4)).filter (fun p => !l.any (fun q => q.1.is p.1 && q.2.1 = p.2.1 && q.2.2 = p.2.2))
  else l

/-- What an access of `size` bytes with value v at offset o requests of a field with present value p: the bits
it does not reach keep theirs (R15, R49). -/
def Fld.request (f : Fld) (i j o size v p : Nat) : Nat :=
  let lo := f.key i j
  let a := Nat.max lo (8 * o)
  let b := Nat.min (lo + f.width) (8 * o + 8 * size)
  putBits p (a - lo) (b - a) (v >>> (a - 8 * o)) % 2 ^ f.width

/-- What the access requests of a field now. -/
def State.requested (s : State) (o size v : Nat) (f : Fld) (i j : Nat) : Nat :=
  f.request i j o size v (if f.acc.acts then 0 else s.rd f i j)

/-! ### Refusals (R12) -/

/-- The modes that a WO action is limited to (R12, R234, R367 and the MEM registers). -/
def woModes (f : Fld) : Option ModeSet :=
  if f.is PHG.CMD_RELEASE || f.is PHG.CMD_UNRETIRE then some .ssf
  else if f.is MEM.REMAP_CMD_GO then some .sf
  else if f.is FLT.INJ_GO then some .f
  else none

/-- A field of the sealed metrology set (R308). -/
def sealedField (f : Fld) : Bool :=
  [MTR.MAP0_IA, MTR.MAP0_VC, MTR.MAP0_VB, MTR.MAP0_VA, MTR.MAP1_IN, MTR.MAP1_IC, MTR.MAP1_IB, MTR.RATED, CH.SCALE,
    CH.GAIN, CH.OFFSET, CH.DELAY].any (fun g => f.is g)

/-- A write that requests v of a field whose value is `old` is refused now: RWL outside its modes, the sealed set,
FREEZE outside SERVICE and FACTORY (R109), the band entry in force (R425). -/
def State.refuses (s : State) (f : Fld) (j old v : Nat) : Bool :=
  v ≠ old &&
    ((match f.acc with
      | .rwl m => !s.modeAdmits m
      | _ => false)
    || (s.rdB MTR.CFG_SEAL && sealedField f) || (f.is BRK.HALT && v = 2 && !s.modeAdmits .sf)
    || ((f.is CLK.BAND_MODE || f.is CLK.BAND_WIDTH || f.is CLK.BAND_MOD_HZ) && j = s.rd CLK.STAT_PLAN))

/-! ### Values (R49) -/

/-- An ARG that Table 7.2 does not define for SRC. -/
def badTrig (src arg : Nat) : Bool :=
  (1 ≤ src && src ≤ 3 && 7 < arg) || ((src = 4 || src = 5) && 95 < arg) || (src = 8 && 17 < arg / 128)

/-- A field of SEQ[q].TRIG. -/
def trigField (f : Fld) : Bool := f.is CORE.SEQTRIG_SRC || f.is CORE.SEQTRIG_ARG || f.is CORE.SEQTRIG_DELAY

/-- The value the field takes when v is requested. A TRIG with an undefined ARG keeps its previous value; SEAL is
never written back to 0 (R308). -/
def State.applied (s : State) (o size w : Nat) (f : Fld) (i j old v : Nat) : Nat :=
  let rq (g : Fld) : Nat := s.requested o size w g i j
  if trigField f && badTrig (CORE.SEQTRIG_SRC.chk.apply i j 4 (s.rd CORE.SEQTRIG_SRC i j) (rq CORE.SEQTRIG_SRC))
      (rq CORE.SEQTRIG_ARG) then old
  else f.chk.apply i j f.width old v

/-- A write is a clamp that is reported: what is applied is not what was asked. A 0 written to SEAL only has no
effect. -/
def clampedField (f : Fld) (v a : Nat) : Bool := v ≠ a && !f.is MTR.CFG_SEAL

/-! ### One write -/

/-- What a write has come to: the state, whether a field was refused, whether one was clamped, and the effects that
are due. -/
abbrev WriteAcc := State × Bool × Bool × List (State → State)

/-- The refusal of a field: reported by a record for a BAR0 write, by the completion for a batch (R12). -/
def State.refuseField (s : State) (w : WSrc) (f : Fld) (i j v old : Nat) : State :=
  match w with
  | .bar0 => s.checkRec 3 w (f.addr i j) f.lsb v old
  | .batch _ _ _ => s

/-- The effect due of a field. -/
def dueHook (w : WSrc) (f : Fld) (i j old new : Nat) (sib : Fld → Nat) : List (State → State) :=
  match hookOf f with
  | some h => [h { w := w, i := i, j := j, old := old, new := new, sib := sib }]
  | none => []

/-- A field that holds a value is written. -/
def State.setField (s : State) (w : WSrc) (o size v : Nat) (f : Fld) (i j : Nat) (sib : Fld → Nat) :
    State × Bool × Bool × List (State → State) :=
  let old := s.rd f i j
  let q := s.requested o size v f i j
  if s.refuses f j old q then (s.refuseField w f i j q old, true, false, [])
  else
    let kept := f.is MTR.CFG_SEAL && old = 1
    let a := if kept then 1 else s.applied o size v f i j old q
    let c := clampedField f q a
    let s := s.when c (fun s => s.checkRec 2 w (f.addr i j) f.lsb q a)
    (s.wr f a i j, false, c, dueHook w f i j old a sib)

/-- A field that asks an action is written. -/
def State.actField (s : State) (w : WSrc) (o size v : Nat) (f : Fld) (i j : Nat) (sib : Fld → Nat) :
    State × Bool × Bool × List (State → State) :=
  let q := s.requested o size v f i j
  if q ≠ 0 && (woModes f).any (fun m => !s.modeAdmits m) then (s.refuseField w f i j q 0, true, false, [])
  else
    let a := if f.acc = .wo then f.chk.apply i j f.width 0 q else q
    let c := a ≠ q
    let s := s.when c (fun s => s.checkRec 2 w (f.addr i j) f.lsb q a)
    let s := if f.acc = .w1c then s.wr f (s.rd f i j - (s.rd f i j &&& q)) i j else s
    (s, false, c, dueHook w f i j 0 a sib)

/-- One field of a write: read-only fields and those of reserved sources ignore it. -/
def State.writeField (w : WSrc) (o size v : Nat) (acc : WriteAcc) (p : Fld × Nat × Nat) : WriteAcc :=
  let s := acc.1
  let f := p.1
  let i := p.2.1
  let j := p.2.2
  let sib (g : Fld) : Nat := s.requested o size v g i j
  let go (r : State × Bool × Bool × List (State → State)) : WriteAcc :=
    (r.1, acc.2.1 || r.2.1, acc.2.2.1 || r.2.2.1, acc.2.2.2 ++ r.2.2.2)
  if f.roAt i || deadField f i then acc
  else match f.acc with
    | .ro => acc
    | .rov => acc
    | .rw => go (s.setField w o size v f i j sib)
    | .rwl _ => go (s.setField w o size v f i j sib)
    | .w1c => go (s.actField w o size v f i j sib)
    | .w1ch => go (s.actField w o size v f i j sib)
    | .wo => go (s.actField w o size v f i j sib)

/-- The register bridge queue a write to offset o passes (Table 1.6, Table 1.2). -/
def bridgeOf (o : Nat) : Option Nat :=
  match (blkAt o).map (·.base) with
  | some b =>
    if [0x080000, 0x090000, 0x100000, 0x110000].contains b then some 77
    else if [0x0C0000, 0x0D0000, 0x10B000].contains b then some 78
    else if [0x0A0000, 0x0B0000, 0x0F0000].contains b then some 79
    else none
  | none => none

/-- A write to GLB but to FKEY breaks a key sequence (R45). -/
def State.glbWrite (s : State) (o : Nat) : State :=
  if o < 0x1000 && o ≠ 0x38 then s.setMm (fun m => { m with key := 0 }) else s

/-- The write of v, of `size` bytes at aligned offset o below the signal-point window: the state, whether a field was
refused, whether one was clamped; `none` in the first place where the offset is in no register, or accepts no such
access (PAIR_COMMIT, R95): the write is discarded with its record. -/
def State.regWrite (s : State) (w : WSrc) (o size v : Nat) : Bool × State × Bool × Bool :=
  let s := s.glbWrite o
  let l := accessFlds o size
  if s.absentAt o then (true, s, false, false)
  else if (fldsAt o).isEmpty || (size = 4 && l.any (fun p => p.1.is LEG.PAIR_COMMIT_ON || p.1.is LEG.PAIR_COMMIT_OFF)) then
    (false, s.accessError 0 size 1 o, false, false)
  else
    let s := match bridgeOf o with
      | some i => s.queueHolds i 1
      | none => s
    let r := l.foldl (State.writeField w o size v) (s, false, false, [])
    let s := r.2.2.2.foldl (fun s h => h s) r.1
    let s := s.when (size = 8 && (fldsAt (o + 4)).isEmpty) (fun s => s.accessError 0 size 1 o)
    (true, s, r.2.1, r.2.2.1)

/-- The bridge that a BAR0 write to offset o passes; the signal-point window lies in the FAB domain. -/
def bridgeAt (o : Nat) : Option Nat := if inWindow o then some 78 else bridgeOf o

/-- A write to offset o meets a stopped bridge (R108). -/
def State.bridgeStops (s : State) (o : Nat) : Bool := (bridgeAt o).any s.bridgeHalted

/-- A BAR0 write (R15, R16, R55, R56). The block takes no access in KEEPALIVE; a stopped bridge holds the write. An
access of a wrong size or alignment is tested first, and is one of R15 also at an absent block, where R2 would have no
event (DESIGN CHOICE, log 152). -/
def State.bar0Write (s : State) (o size v : Nat) : State :=
  if !s.mainOn then s
  else if !bar0Ok o size then s.accessError 0 size 1 o
  else if s.bridgeStops o then s.bridgeHold ((bridgeAt o).getD 0) o size (v % 2 ^ (8 * size))
  else if inWindow o then s.windowWrite ((o - 0x400000) / 4) (v % 2 ^ 32)
  else (s.regWrite .bar0 o size (v % 2 ^ (8 * size))).2.1

/-! ### The rows of register writes -/

/-- REGISTER_WRITE (R11, R12, R48, R49): a BAR0 write of v, of `size` bytes at offset o. -/
def execRegisterWrite (o size v : Nat) (s : State) : Host.Outcome State Fault Refusal :=
  s.runHost (fun s => s.bar0Write o size v)

/-- BAR0_INVALID_ACCESS (R15): an access of another size or alignment is discarded, or reads 0, with its record. -/
def execBar0InvalidAccess (wr : Bool) (o size : Nat) (s : State) : Host.Outcome State Fault Refusal :=
  s.run (fun s => if s.mainOn && !bar0Ok o size then s.accessError 0 size (b2n wr) o else s)

/-- BAR0_RESERVED_WRITE (R56): a write to an offset in no register. -/
def execBar0ReservedWrite (o size v : Nat) (s : State) : Host.Outcome State Fault Refusal :=
  s.run (fun s => if bar0Ok o size && (fldsAt o).isEmpty then s.bar0Write o size v else s)

/-- A field written by itself (State.oneWord). -/
def State.writeOne32 (s : State) (f : Fld) (i j v : Nat) : State :=
  s.bar0Write (f.dword i j) 4 (s.oneWord f i j v)

/-- TRIP_GROUP_ENABLE (R149): CFG.ENABLE of group g is written 1. -/
def execTripGroupEnable (g : Nat) (s : State) : Host.Outcome State Fault Refusal :=
  s.runIf (g < 32) (fun s => s.writeOne32 TG.CFG_ENABLE g 0 1)

/-- OWNPER_SET (R112): CFG.OWNPER of leg n is written 1. -/
def execOwnperSet (n : Nat) (s : State) : Host.Outcome State Fault Refusal :=
  s.runIf (legOk n) (fun s => s.writeOne32 LEG.CFG_OWNPER n 0 1)

/-- PROFILE_WRITE (R244): GRD.PROFILE is written. -/
def execProfileWrite (v : Nat) (s : State) : Host.Outcome State Fault Refusal :=
  s.run (fun s => s.writeOne32 GRD.PROFILE 0 0 v)

/-- SOURCE_ACTIVE_CLEAR (R364): SRC[i].STAT.ACTIVE is written 1. -/
def execSourceActiveClear (i : Nat) (s : State) : Host.Outcome State Fault Refusal :=
  s.runIf (i < 256) (fun s => s.writeOne32 SRC.STAT_ACTIVE i 0 1)

/-- SWTRIP (R148): TG[g].SWTRIP.TRIP is written. -/
def execSwtrip (g : Nat) (v : Bool) (s : State) : Host.Outcome State Fault Refusal :=
  s.runIf (g < 32) (fun s => s.writeOne32 TG.SWTRIP g 0 (b2n v))

/-- The write of CAL_CTRL with GO. -/
def calCtrl (step chan : Nat) : Nat := 2 ^ 31 + step * 2 ^ 8 + chan % 256

/-- CAL_STEP_LO (R171): CAL_CTRL is written with CHAN, STEP LO and GO. -/
def execCalStepLo (chan : Nat) (s : State) : Host.Outcome State Fault Refusal :=
  s.run (fun s => s.bar0Write 0x0A9800 4 (calCtrl 1 chan))

/-- CAL_STEP_HI (R171): CAL_CTRL is written with CHAN, STEP HI and GO. -/
def execCalStepHi (chan : Nat) (s : State) : Host.Outcome State Fault Refusal :=
  s.run (fun s => s.bar0Write 0x0A9800 4 (calCtrl 2 chan))

/-- CAL_ABORT (R171): STEP is written ABORT. -/
def execCalAbort (s : State) : Host.Outcome State Fault Refusal :=
  s.run (fun s => s.writeOne32 CAL.CTRL_STEP 0 0 3)

/-- MBOX_CFG_WRITE (R208): ESP.MBOX_CFG[m] is written. -/
def execMboxCfgWrite (m v : Nat) (s : State) : Host.Outcome State Fault Refusal :=
  s.runIf (m < 64) (fun s => s.bar0Write (ESP.MBOX_CFG_SP.addr 0 m) 4 v)

/-- The write of PHG[g].CMD with one action for leg n. -/
def State.phgWrite (s : State) (g n : Nat) (f : Fld) : State :=
  s.bar0Write (f.addr g 0) 4 (2 ^ f.lsb + (n % 2 ^ PHG.CMD_LEG.width) <<< PHG.CMD_LEG.lsb)

/-- UNRETIRE (R234). -/
def execUnretire (g n : Nat) (s : State) : Host.Outcome State Fault Refusal :=
  s.runIf (groupOk g) (fun s => s.phgWrite g n PHG.CMD_UNRETIRE)

/-- RELEASE (R234). -/
def execRelease (g n : Nat) (s : State) : Host.Outcome State Fault Refusal :=
  s.runIf (groupOk g) (fun s => s.phgWrite g n PHG.CMD_RELEASE)

/-- RIDX_WRITE (R341): TRS[t].RIDX is written. -/
def execRidxWrite (t v : Nat) (s : State) : Host.Outcome State Fault Refusal :=
  s.runIf (t < 16) (fun s => s.bar0Write (TRS.RIDX.addr t 0) 4 v)

/-- MDIO_ACCESS (R444): MDIO_CMD is written with GO. -/
def execMdioAccess (op phy reg data : Nat) (s : State) : Host.Outcome State Fault Refusal :=
  s.run (fun s => s.bar0Write 0x130200 4
    (2 ^ 31 + (op % 4) * 2 ^ 26 + (phy % 32) * 2 ^ 21 + (reg % 32) * 2 ^ 16 + data % 65536))

end Sys2Proof.Machine
end

