-- ==== Sys2Proof/Machine/Opcodes.lean ====
section
/-!
DEFINITION. The global, configuration, leg and fault opcodes (R82 to R84, R113, R378). Each acts on the started
descriptor of ring q (Machine/Cmd.lean).
-/
namespace Sys2Proof.Machine

/-! ### Global opcodes (Table 3.14) -/

/-- NOP. -/
def execNop (q : Nat) (s : State) : Host.Outcome State Fault Refusal :=
  s.cmd q 0x00 (fun _ _ s => s.complete q stOk 0)

/-- DEVICE_RESTART (R83, R373): once its completion is written, the restart with its dump begins. No later descriptor
is executed. Where its completion ring has no room or is not enabled the restart waits with the completion. -/
def execDeviceRestart (q : Nat) (s : State) : Host.Outcome State Fault Refusal :=
  s.cmdHost q 0x02 (fun _ _ s =>
    let c := 32 + (s.ring q).cq
    let s := s.complete q stOk 0
    let s : State := { s with flt := { s.flt with cmdStop := true, restartQ := some q } }
    (s.each s.cplQ (fun _ s => s.writeCpl c)).restartGo)

/-- TIME_READ: DT to the 8 B of its output. -/
def execTimeRead (q : Nat) (s : State) : Host.Outcome State Fault Refusal :=
  s.cmdHost q 0x03 (fun x _ s => (s.hostPut x.d.ptr (leBytes s.dtNs 8)).complete q stOk s.dtLo)

/-- UNDEFINED_OPCODE (R51): the started descriptor of ring q has an opcode that is not defined. -/
def opcodeDefined (op : Nat) : Bool :=
  op ≤ 0x03 || (0x10 ≤ op && op ≤ 0x13) || (0x20 ≤ op && op ≤ 0x29) || (0x40 ≤ op && op ≤ 0x41)
    || (0x50 ≤ op && op ≤ 0x53) || (0x60 ≤ op && op ≤ 0x64) || (0x70 ≤ op && op ≤ 0x72)
    || (0x78 ≤ op && op ≤ 0x7B) || (0x80 ≤ op && op ≤ 0x83) || op = 0x90 || (0xA0 ≤ op && op ≤ 0xA2)

def execUndefinedOpcode (q : Nat) (s : State) : Host.Outcome State Fault Refusal :=
  s.runIf (sqOk q) (fun s => match (s.ring q).started with
    | some x => if opcodeDefined x.d.opcode then s else s.complete q stBadOpcode 0
    | none => s)

/-! ### Register batches (R84) -/

/-- An entry with a bad OFFSET or WIDTH, or with reserved bytes that are not 0, is skipped. -/
def batchSkips (o width rsv : Nat) : Bool :=
  !(width = 4 || width = 8) || 0x14FFFF < o || o % width ≠ 0 || rsv ≠ 0

/-- One entry of a batch write: the state, the status it gives, and whether it counts as applied. -/
def State.batchWrite (s : State) (w : WSrc) (o width rsv v : Nat) : State × Nat × Nat :=
  if batchSkips o width rsv then (s.accessError 0 width 1 o, stBadField, 0)
  else
    let r := s.regWrite w o width (v % 2 ^ (8 * width))
    if !r.1 then (r.2.1, stBadField, 0)
    else (r.2.1, if r.2.2.1 then stModeForbidden else clampedIf r.2.2.2, 1)

/-- One entry of a batch read: the state, the status, whether it counts, and the value it reads. -/
def State.batchRead (s : State) (o width rsv : Nat) : State × Nat × Nat × Nat :=
  if batchSkips o width rsv then (s.accessError 0 width 0 o, stBadField, 0, 0)
  else (s, stOk, 1, s.viewReg o width)

/-- The entries of a batch payload (offset, width, reserved, value), each with its ordinal. -/
def batchOf (b : List Nat) : List (Nat × Nat × Nat × Nat × Nat) :=
  (List.range (b.length / 16)).map (fun i =>
    let e := (b.drop (16 * i)).take 16
    (i, leAt e 0 4, leAt e 4 1, leAt e 5 3, leAt e 8 8))

/-- REG_BATCH_WRITE (R84). A batch with an entry for a stopped bridge waits as a whole (Table 1.6, R108; DEDUCED, log
14). -/
def execRegBatchWrite (q : Nat) (s : State) : Host.Outcome State Fault Refusal :=
  s.cmdHost q 0x10 (fun x b s => if (batchOf b).any (fun e => s.bridgeStops e.2.1) then s else
    let r := (batchOf b).foldl (fun (a : State × Nat × Nat) e =>
      let t := a.1.batchWrite (.batch e.1 x.d.tag q) e.2.1 e.2.2.1 e.2.2.2.1 e.2.2.2.2
      (t.1, Nat.max a.2.1 t.2.1, a.2.2 + t.2.2)) (s, stOk, 0)
    r.1.complete q r.2.1 r.2.2)

/-- REG_BATCH_READ (R84): VALUE of each entry read is written back. -/
def execRegBatchRead (q : Nat) (s : State) : Host.Outcome State Fault Refusal :=
  s.cmdHost q 0x11 (fun x b s =>
    let r := (batchOf b).foldl (fun (a : State × Nat × Nat) e =>
      let t := a.1.batchRead e.2.1 e.2.2.1 e.2.2.2.1
      let s := if t.2.2.1 = 1 then t.1.hostPut (x.d.ptr + 16 * e.1 + 8) (leBytes t.2.2.2 8) else t.1
      (s, Nat.max a.2.1 t.2.1, a.2.2 + t.2.2.1)) (s, stOk, 0)
    r.1.complete q r.2.1 r.2.2)

/-- REG_WRITE (R84): a batch of one entry. -/
def execRegWrite (q : Nat) (s : State) : Host.Outcome State Fault Refusal :=
  s.cmdHost q 0x12 (fun x _ s =>
    let width := if bit x.d.arg 31 then 8 else 4
    if s.bridgeStops (bits x.d.arg 0 24) then s else
    let r := s.batchWrite (.batch 0 x.d.tag q) (bits x.d.arg 0 24) width 0 x.d.inl
    r.1.complete q r.2.1 0)

/-- REG_READ (R84): one 32-bit register. -/
def execRegRead (q : Nat) (s : State) : Host.Outcome State Fault Refusal :=
  s.cmd q 0x13 (fun x _ s =>
    let r := s.batchRead (bits x.d.arg 0 24) 4 0
    r.1.complete q r.2.1 r.2.2.2)

/-! ### Leg commits (R113) -/

/-- The reload number at which a pair of leg n that is now pending, or held, would come into force. -/
def State.commitNum (s : State) (n : Nat) (held : Bool) : Nat :=
  let k := n / 12
  if s.ownLeg n then
    (if (s.leg n).ownRun then (2 * (s.leg n).ownNum + (if held then 4 else 2)) % 2 ^ 32 else max32)
  else if !s.rdB BRK.STATUS_RUN k then max32
  else (if held then s.reloadAfter k else s.nextReload k) % 2 ^ 32

/-- LEG_COMMIT (R96, R97, R113); it waits at a stopped bridge (R108). -/
def execLegCommit (q : Nat) (s : State) : Host.Outcome State Fault Refusal :=
  s.cmd q 0x40 (fun x _ s =>
    let n := bits x.d.arg 0 7
    if s.bridgeHalted 77 then s else
    let r := (s.queueHolds 77 1).hostPair n (bits x.d.inl 0 24) (bits x.d.inl 32 24)
    r.1.complete q (if r.2 then stDeferred else stOk) (r.1.commitNum n r.2))

/-- The entries of a LEG_COMMIT_SET payload (leg, ON, OFF). -/
def commitsOf (b : List Nat) : List (Nat × Nat × Nat) :=
  (List.range (b.length / 8)).map (fun i =>
    let e := (b.drop (8 * i)).take 8
    (leAt e 3 1, leAt e 0 3, leAt e 4 3))

/-- LEG_COMMIT_SET (R113): of several entries for one leg the last wins; a leg above 95 is skipped. -/
def execLegCommitSet (q : Nat) (s : State) : Host.Outcome State Fault Refusal :=
  s.cmd q 0x41 (fun _ b s => if s.bridgeHalted 77 then s else
    let l := commitsOf b
    let good := l.filter (fun e => e.1 < 96)
    let last := (List.range 96).filterMap (fun n => (good.filter (fun e => e.1 = n)).getLast?)
    let r := last.foldl (fun (a : State × Bool) e =>
      let t := a.1.hostPair e.1 e.2.1 e.2.2
      (t.1, a.2 || t.2)) (s.queueHolds 77 (Nat.min 8 l.length), false)
    let st := if good.length < l.length then stBadField else if r.2 then stDeferred else stOk
    r.1.complete q st good.length)

/-! ### Faults and telemetry (R378) -/

/-- FLT_CLEAR: FIRST, or ACTIVE of every source that is not asserted; RESULT counts the clears refused. -/
def execFltClear (q : Nat) (s : State) : Host.Outcome State Fault Refusal :=
  s.cmd q 0x80 (fun x _ s =>
    let s := s.when (bit x.d.inl 0) (·.firstClear)
    let l := if bit x.d.inl 1 then (List.range 203).filter (fun i => s.rdB SRC.STAT_ACTIVE i) else []
    let n := (l.filter s.srcOn).length
    (s.each l (fun i s => s.activeClear i)).shears.complete q stOk n)

/-- DUMP_ARM (R372). -/
def execDumpArm (q : Nat) (s : State) : Host.Outcome State Fault Refusal :=
  s.cmd q 0x81 (fun x _ s =>
    let buf := if x.d.len = 0 then none else some (x.d.ptr, x.d.len)
    ({ s with flt := { s.flt with dumpBuf := buf } } : State).complete q stOk 0)

/-- FLT_INJECT (R367): KIND, COUNT and HOLD are parameter fields 1 to 3; an undefined KIND takes that of FLT.INJ
(DEDUCED). -/
def execFltInject (q : Nat) (s : State) : Host.Outcome State Fault Refusal :=
  s.cmd q 0x82 (fun x _ s =>
    if !s.modeIn [.factory] then s.complete q stModeForbidden 0
    else
      let k := s.param q x 1 8 (.codes [0, 1, 2, 3]) (s.rd FLT.INJ_KIND) (bits x.d.inl 0 8)
      let c := k.2.2.param q x 2 8 (.rng 1 255) 1 (bits x.d.inl 8 8)
      let h := c.2.2.param q x 3 16 (.rng 1 65535) 1 (bits x.d.inl 16 16)
      (h.2.2.inject (bits x.d.arg 0 8) k.1 c.1 h.1).complete q (clampedIf (k.2.1 || c.2.1 || h.2.1)) 0)

/-- A kept record as FLT_HISTORY and the dump hold it (Table 16.8). -/
def FltRec.bytes (r : FltRec) : List Nat :=
  leBytes r.src 2 ++ [r.code % 256, r.flags % 256, r.cls % 256, r.rep % 256, 0, 0] ++ leBytes r.dt 8

/-- FLT_HISTORY: the last LEN / 16 records kept, newest last. -/
def execFltHistory (q : Nat) (s : State) : Host.Outcome State Fault Refusal :=
  s.cmdHost q 0x83 (fun x _ s =>
    let l := s.flt.history.drop (s.flt.history.length - x.d.len / 16)
    (s.hostPut x.d.ptr (l.flatMap (·.bytes))).complete q stOk l.length)

/-- The records that wait for event ring r. -/
def State.evWaiting (s : State) (r : Nat) : Nat :=
  (s.evq.filter (fun e => (evGroup (e.body.toNat % 256)).bind s.evRing = some r)).length

/-- TEL_NOW (R79): one TELEMETRY record, or RING_FULL where no enabled event ring takes group 9 or it lacks room. -/
def execTelNow (q : Nat) (s : State) : Host.Outcome State Fault Refusal :=
  s.cmd q 0x90 (fun _ _ s => match s.evRing 9 with
    | none => s.complete q stRingFull 0
    | some r =>
      if s.evRoom r (s.evWaiting r + b2n (0 < (s.ring r).lostNow) + 1) then s.telemetry.complete q stOk 0
      else s.complete q stRingFull 0)

/-! ### A command that firmware cannot execute (R86, Table 15.1) -/

/-- The frames of ring q's TRL_CMD leave the segments; one on its way ends without a command. -/
def TrlSt.forget (v : TrlSt) (q : Nat) : TrlSt :=
  { v with
    cmds := v.cmds.filter (fun c => c.q ≠ q)
    segs := v.segs.map (fun e => (e.1, { e.2 with
      cmds := e.2.cmds.filter (fun f => f.ring ≠ some q)
      frame := e.2.frame.map (fun x => (if x.1.ring = some q then { x.1 with ring := none } else x.1, x.2)) })) }

/-- A request to the island that a command of ring q made. -/
def SafReq.ofRing (q : Nat) : SafReq → Bool
  | .contactor _ _ => false
  | .output _ _ p => p = q
  | .reset p => p = q
  | .commit p _ => p = q

/-- The capture that ring q started is aborted, and answers no command. -/
def State.capForget (s : State) (q : Nat) : State :=
  s.each (List.range 8) (fun e s => match s.capOf e with
    | some c => if c.ring = some q then s.setCap e (some { c with ring := none, abort := true }) else s
    | none => s)

/-- The search or hop of ring q ends without effect, and those of it that wait are dropped. -/
def State.clkForget (s : State) (q : Nat) : State :=
  let mySearch := s.clk.search.any (fun x => x.2 = some q)
  let myHop := s.clk.hop.any (fun x => x.2.1 = q)
  let s := s.setClk (fun c => { c with
    search := if mySearch then none else c.search
    hop := if myHop then none else c.hop
    searchWait := c.searchWait.filter (fun x => x.2 ≠ q)
    hopWait := c.hopWait.filter (fun x => x.2 ≠ q) })
  let s := s.when mySearch (·.wrB CLK.STAT_SEARCHING false)
  s.hopSync.coreFree true

/-- Whatever the command of ring q has set in motion or left waiting is dropped: it is not carried out, and its end
completes no later command (R86; DESIGN CHOICE, log 146). -/
def State.ringForget (s : State) (q : Nat) : State :=
  let mine := s.mm.req.any (fun r => r.q = q)
  let s := s.when mine (·.setMm (fun m => { m with req := none, ending := false }))
  let loads := decide (s.esp.loading = some q)
  let s : State := { s with
    trl := s.trl.forget q
    clo := { s.clo with rings := s.clo.rings.filter (· ≠ q), ringsNow := s.clo.ringsNow.filter (· ≠ q) }
    saf := { s.saf with
      queue := s.saf.queue.filter (fun r => !r.ofRing q), resets := s.saf.resets.filter (fun r => r.2 ≠ some q) }
    esp := { s.esp with
      commits := s.esp.commits.filter (fun c => c.ring ≠ some q)
      loading := if loads then none else s.esp.loading }
    flt := { s.flt with restartQ := s.flt.restartQ.filter (· ≠ q) } }
  (s.when loads (·.wrB ESP.STAT_LOADING false)).capForget q |>.clkForget q

/-- A condition from outside the other rows asserts its source (Table 16.1); a corrected error counts in
OCM_CE (R31). -/
def State.extFault (s : State) : ExtFault → State
  | .ocmUe row => s.fltOccur fsOcmUe row
  | .ocmCe => s.count FLT.OCM_CE
  | .fwWatchdog => ({ s with flt := { s.flt with fwWdt := true } }.fltSet fsFwWdt 0).shears
  | .lockstep => s.fltSet fsLockstep 0
  | .norFailure => s.fltOccur fsNvm 0
  | .framFailure => s.fltOccur fsFram 1
  | .internal q => match (s.ring q).started with
    | some x => if sqOk q then ((s.fltOccur fsFwInternal x.d.opcode).ringForget q).complete q stInternal 0 else s
    | none => s

/-- FAULT_SOURCE_ASSERT (R361, R363, R365): the next event of the fault event queue is taken up, after the
condition the command brings, if it brings one. -/
def execFaultSourceAssert (ext : Option ExtFault) (s : State) : Host.Outcome State Fault Refusal :=
  s.run (fun s =>
    match ext with
    | none => s.fltNext
    | some x => (s.extFault x).fltNext)


end Sys2Proof.Machine
end

