-- ==== Sys2Proof/Machine/Dump.lean ====
section
/-!
DEFINITION. The fatal dump (R372 to R375): the image of Tables 16.7 and 16.8, its transfer and its time-out.
-/
namespace Sys2Proof.Machine

/-- Capture address of the dump staging region, and its size (Table 15.1). -/
def dumpBase : Nat := 0x90000
def dumpMax : Nat := 0x400000

/-- Bytes of zeros up to the next multiple of 8. -/
def pad8 (l : List Nat) : List Nat := l ++ List.replicate ((8 - l.length % 8) % 8) 0

/-- The bytes of 8 B words. -/
def wordBytes (l : List Nat) : List Nat := l.flatMap (leBytes · 8)

/-- The dword at offset o has a field that software can read. -/
def readableDword (o : Nat) : Bool := (fldsAt o).any (fun p => p.1.acc ≠ .wo && !deadField p.1 p.2.1)

/-- Section 1: every readable word of the register blocks present, in ascending offset order. -/
def State.dumpRegs (s : State) : List Nat :=
  ((List.range 0x54000).map (4 * ·)).flatMap (fun o =>
    if s.absentAt o || !readableDword o then [] else leBytes o 4 ++ leBytes (s.viewDword o) 4)

/-- Section 2: the ring blocks. -/
def State.dumpRings (s : State) : List Nat :=
  (List.range 1024).flatMap (fun i => leBytes (s.viewDword (0x030000 + 4 * i)) 4)

/-- An entry of section 3. -/
def TaskSt.bytes (t : TaskSt) : List Nat :=
  let st : Nat := match t.stage with
    | .ready => 1
    | .running _ => 2
    | .waiting _ => 3
  leBytes t.node 2 ++ [t.cad % 256, st] ++ leBytes t.num 4 ++ leBytes t.readyDt 4 ++ leBytes t.dispDt 4
    ++ List.replicate 16 0

/-- Section 3: the task table, its 512 entries. -/
def State.dumpTasks (s : State) : List Nat :=
  let l := s.esp.tasks.take 512
  l.flatMap (·.bytes) ++ List.replicate (32 * (512 - l.length)) 0

/-- The oldest frames are left out until what is left fits into n bytes. -/
def fitFrames (n : Nat) : List (List Nat) → List (List Nat)
  | [] => []
  | f :: l => if (f :: l).foldl (fun a x => a + x.length) 0 ≤ n then f :: l else fitFrames n l

/-- The length of the frame that begins these bytes, of a capture of c channels (Table 14.4). -/
def frameLen (c : Nat) (b : List Nat) : Nat :=
  match b.getD 4 0 with
  | 0 => 8 * ceilDiv (12 + 4 * c) 8
  | 1 => 16 + 16 * c
  | _ => 16 + 8 * c

/-- Bytes cut into their frames. -/
def cutFrames (c : Nat) : Nat → List Nat → List (List Nat)
  | 0, _ => []
  | n + 1, b => if b.isEmpty then [] else b.take (frameLen c b) :: cutFrames c n (b.drop (frameLen c b))

/-- The frames of the running capture c of a ring with these bytes: what is written, then what is staged. -/
def CapSt.frames (c : CapSt) (ring : List Nat) : List (List Nat) :=
  let part (a n : Nat) : List Nat := ((ring ++ ring).drop (a % c.ringLen)).take n
  c.items.map (fun i =>
    if c.written ≤ i.start then (c.staged.drop (i.start - c.written)).take i.len
    else if i.start + i.len ≤ c.written then part i.start i.len
    else part i.start (c.written - i.start) ++ c.staged.take (i.start + i.len - c.written))

/-- The frames that an ended capture left in its ring, by its header (Table 14.3). -/
def endedFrames (h ring : List Nat) : List (List Nat) :=
  let len := ring.length
  let first := leAt h 44 4
  let n := if len = 0 then 0 else (leAt h 52 4 + len - first % len) % len
  let n := if n = 0 && bit (h.getD 7 0) 7 then len else n
  cutFrames (h.getD 8 0) n (((ring ++ ring).drop first).take n)

/-- Section 5 within n bytes: its bytes, its frames, and whether frames were left out. A capture that ended keeps its
header and frames in memory; an engine that never captured has none. -/
def State.dumpSieve (s : State) (n : Nat) : State × List Nat × Nat × Bool :=
  let e := s.rd FLT.DUMP_CFG_ENGINE
  if !s.rdB FLT.DUMP_CFG_SIEVE_EN then (s, [], 0, false)
  else
    let cut (s : State) (h : List Nat) (fs : List (List Nat)) : State × List Nat × Nat × Bool :=
      let l := fitFrames (n - 128) fs
      (s, h ++ l.flatten, l.length, decide (l.length < fs.length))
    match s.cap e with
    | some c =>
      let r := s.memGet (c.ringBase / 8) (c.ringLen / 8)
      cut r.1.useFree (capHeader e (s.rd CAP.SKIP_CNT e) s.freeVal c) (c.frames (wordBytes r.2.1))
    | none =>
      if s.rd CAP.STAT_STATE e ≠ 4 then (s, [], 0, false)
      else
        let base := sieveBase + 4096 * s.rd CAP.BASE e
        let r := s.memGet (base / 8) (512 * s.rd CAP.SIZE e)
        let b := wordBytes r.2.1
        cut r.1 (b.take 128) (endedFrames (b.take 128) (b.drop 128))

/-- A section table entry of Table 16.7. -/
def sectEntry (ty off len count : Nat) : List Nat := [ty, off, len, count].flatMap (leBytes · 4)

/-- The image without its CRC, as firmware builds it (Tables 16.7, 16.8). -/
def State.dumpImage (s : State) (src code dt : Nat) : State × List Nat :=
  let sec1 := s.dumpRegs
  let recs := s.flt.history.flatMap (·.bytes)
  let sec4 := recs ++ List.replicate (16384 - recs.length) 0
  let o2 := 4096 + sec1.length
  let o3 := o2 + 4096
  let o4 := o3 + 16384
  let o5 := o4 + sec4.length
  let r := s.dumpSieve (Nat.min 4087800 (dumpMax - 4 - o5))
  let flags := b2n s.flt.coreReset + 2 * b2n r.2.2.2 + 4 * b2n (s.rdB FLT.STAT_OVERFLOW)
  let v (o : Nat) : List Nat := leBytes (s.viewDword o) 4
  let head := [0x46, 0x44, 0x4D, 0x50] ++ leBytes 0x0100 2 ++ leBytes 5 2 ++ leBytes (o5 + r.2.1.length + 4) 4
    ++ leBytes src 2 ++ [code % 256, flags] ++ leBytes dt 8 ++ v 0x040008 ++ leBytes (s.rd FLT.FIRST_DT) 8
    ++ leBytes (dwordOf s.view (fldsAt (GLB.MODE_CUR.addr 0 0)) (GLB.MODE_CUR.addr 0 0)) 4
    ++ leBytes (s.rd GLB.READY) 8 ++ v (GLB.UNITS.addr 0 0) ++ v (GLB.FW_MAJOR.addr 0 0) ++ List.replicate 8 0
    ++ sectEntry 1 4096 sec1.length (sec1.length / 8) ++ sectEntry 2 o2 4096 64 ++ sectEntry 3 o3 16384 512
    ++ sectEntry 4 o4 sec4.length s.flt.history.length ++ sectEntry 5 o5 r.2.1.length r.2.2.1
  (r.1, head ++ List.replicate (4096 - head.length) 0 ++ sec1 ++ s.dumpRings ++ s.dumpTasks ++ sec4 ++ r.2.1)

/-- The image passes through the staging region: an uncorrectable word of it arrives as the pattern of R351 and sets
FLAGS bit 3, and the transfer completes ECC_UNCORRECTABLE with its CA. The CRC is that of what arrives. -/
def State.dumpStage (s : State) (img : List Nat) : State × List Nat :=
  let r := (s.memPut dumpBase img).memGet (dumpBase / 8) (ceilDiv img.length 8)
  let b := (wordBytes r.2.1).take img.length
  let b := if r.2.2.isSome then b.set 15 ((b.getD 15 0) ||| 8) else b
  let x := match r.2.2 with
    | some ca => (stEcc, ca)
    | none => (stOk, 0)
  let s : State := { r.1 with flt := { r.1.flt with dumpXfer := some x } }
  (s.memReq (ceilDiv img.length 64) true, b ++ leBytes (crc32 b) 4)

/-- The dump ends with this RESULT and length; the restart of Table 2.3 follows (R373). -/
def State.dumpEnd (s : State) (src result len : Nat) : State :=
  let s := ((s.wr FLT.DUMP_STAT_RESULT result).wr FLT.DUMP_STAT_SOURCE src).wr FLT.DUMP_LEN len
  let s := s.post 0x82 [(1, 1, result), (2, 2, src), (8, 4, len)]
  ({ s with flt := { s.flt with dumpSrc := none } } : State).trigger .restart

/-- A dump is in progress: its source, code and DT. -/
def State.dumping (s : State) : Option (Nat × Nat × Nat) :=
  if s.rdB FLT.STAT_FATAL_HOLD then s.flt.dumpSrc else none

/-- DUMP_DONE (R373): at the instant `at_` the image has been written to the named buffer, or its transfer failed
(`ok` false), or no buffer is named. -/
def execDumpDone (ok : Bool) (at_ : Nat) (s : State) : Host.Outcome State Fault Refusal :=
  s.runHost (fun s =>
    match s.dumping, s.mgmtHalted with
    | none, _ => s
    | some _, true => s
    | some (src, code, dt), false =>
      let s := s.to at_
      match s.flt.dumpBuf with
      | none => s.dumpEnd src 2 0
      | some (a, _) =>
        if !ok then s.dumpEnd src 4 0
        else
          let i := s.dumpImage src code dt
          let r := i.1.dumpStage i.2
          (r.1.hostPut a r.2).dumpEnd src 1 r.2.length)

/-- DUMP_TIMEOUT (R373): the dump is abandoned 15 s after the hold. -/
def execDumpTimeout (s : State) : Host.Outcome State Fault Refusal :=
  s.run (fun s =>
    match s.dumping with
    | none => s
    | some (src, _, _) => (s.to (s.flt.dumpAt + 15000 * msH)).dumpEnd src 3 0)

end Sys2Proof.Machine
end

