-- ==== Sys2Proof/Machine/Halts.lean ====
section
/-!
DEFINITION. The end of a halt (R107, R108, R111): the register writes that a stopped bridge held take effect, and the
bricks and the mode manager go on.
-/
namespace Sys2Proof.Machine

/-- The writes that wait for a bridge which moves again take effect in the order in which they entered it (R30). -/
def State.bridgeDrain (s : State) : State :=
  let l := s.bridge.filter (fun w => !s.bridgeHalted w.queue)
  let s : State := { s with bridge := s.bridge.filter (fun w => s.bridgeHalted w.queue) }
  s.each l (fun w s => s.bar0Write w.off w.size w.val)

/-- What the end of the last halt brings: freezing bricks go on, and a HALTED brick is a protection trip (R111). A halt
that ends before the next START of a FINISH_SAFE brick leaves it to finish its period, to become HALTED at that START and
to be no trip by that (DESIGN CHOICE, log 132). -/
def State.haltsOver (s : State) : State :=
  let s := s.each (List.range 8) (fun k s => s.wrB BRK.STATUS_FREEZING false k)
  s.when ((List.range 8).any (fun k => s.rdB BRK.STATUS_HALTED k)) (·.protectionTrip)

/-- HALT_END (R107, R108, R111): the cause ends. -/
def execHaltEnd (c : HaltCause) (at_ : Nat) (s : State) : Host.Outcome State Fault Refusal :=
  s.runHost (fun s =>
    let s := s.to at_
    if !s.halts.contains c then s
    else
      let s := { s with halts := s.halts.filter (· != c) }
      let s := s.when (c = .ckPwm) (fun s => s.each (List.range 96) (fun n s => s.aliveAgain n))
      let s := (s.when s.halts.isEmpty (·.haltsOver)).bridgeDrain.framingGo
      s.when (s.mm.cur = .prestart) (·.prestartAdvance))

end Sys2Proof.Machine
end

