-- ==== Sys2Proof/Machine/LinkAlive.lean ====
section
/-!
DEFINITION. Link-alive pulses (R118, R119): which turn-on edges of an output are ahead, the pulses left out before them, and
the pulses themselves.
-/
namespace Sys2Proof.Machine

/-- The compare at which the output of a side next turns on, where one is scheduled or foreseen (R119): a scheduled
turn-on, the end of a refresh, or the coming HC edge with its dead time where its pulse is not dropped. -/
def State.ownComing (s : State) (n : Nat) (d : Side) : Option Nat :=
  let rise := decide (d = .high)
  match (s.side n d).turnOn, (s.leg n).refresh with
  | some x, _ => some x
  | none, some r => if r.side = d then r.until_.map (· + (if r.opp then s.deadTime n d else 0)) else none
  | none, none =>
    if s.outHeld n d then none
    else
      match s.nextCompare n rise s.pw with
      | none => none
      | some x =>
        let t := x + s.deadTime n d
        if s.drops n && tooShort (s.minPulse n) t (s.nextCompare n (!rise) x) then none else some t

/-- The compare at which the output turns on because the opposite switch, which nothing turns off before, reaches MAXON and
is refreshed by this side (R130). -/
def State.refreshComing (s : State) (n : Nat) (d : Side) : Option Nat :=
  let o := s.side n d.other
  let e := o.onAt + s.rd LEG.MAXON n - pipeH
  let first := match s.pulseEnd n d.other s.pw with
    | some x => decide (e < x)
    | none => true
  if o.on && s.rd LEG.MAXON n ≠ 0 && (s.leg n).refresh.isNone && s.rdB LEG.REFRESH_OPP n && s.oppExists n d.other
      && !s.sideHeld n d && first then some (e + s.deadTime n d)
  else none

/-- The coming reload point of the counter of leg n, or the first START of a brick that is about to run. -/
def State.nextPoint (s : State) (n : Nat) : Option Nat :=
  if s.ownLeg n then
    if (s.leg n).ownRun then some ((s.leg n).ownStart + (s.leg n).ownPer) else (s.leg n).ownFirst
  else if s.rdB BRK.STATUS_RUN (n / 12) then some (s.reloadPoint (n / 12))
  else (s.brk (n / 12)).first

/-- The machine right after that reload point: the pair locked for it, its phase step and the holds that end there decide
which turn-on follows (R97, R104, R131). -/
def State.afterPoint (s : State) (n : Nat) : State :=
  let o := if s.ownLeg n then execOwnStart n s
    else if s.rdB BRK.STATUS_RUN (n / 12) && s.reloadMid (n / 12) then execBrickMid (n / 12) s
    else execBrickStart (n / 12) s
  match o with
  | .next t => t
  | _ => s

/-- The compares at which the output of a side turns on, as far as instant x: those ahead of the coming reload point, and
those that follow from it. -/
def State.comingOn (s : State) (n : Nat) (d : Side) (x : Nat) : List Nat :=
  let here (s : State) : List Nat := (s.ownComing n d).toList ++ (s.refreshComing n d).toList
  match s.nextPoint n with
  | some p => if p ≤ x then (here s).filter (· < p) ++ here (s.afterPoint n) else here s
  | none => here s

/-- A link-alive pulse, 16 t long, that starts at t would end less than 80 t before a turn-on edge of the output (R119). -/
def State.aliveOmit (s : State) (n : Nat) (d : Side) (t : Nat) : Bool :=
  (s.comingOn n d (t + 512 + 2560)).any (fun x => decide (x + pipeH < t + 512 + 2560))

/-- LINK_ALIVE_PULSE (R118, R119): the pulse that falls due is sent, or omitted before a turn-on and under a steady hold;
the next falls due 5 µs later either way. -/
def execLinkAlivePulse (n : Nat) (d : Side) (s : State) : Host.Outcome State Fault Refusal :=
  s.runIf (legOk n) (fun s =>
    match (s.side n d).alive with
    | some t =>
      let s := s.toPw t
      let v := s.side n d
      let send := !v.on && !(1 ≤ s.holdRow n && s.holdRow n ≤ 3) && !s.aliveOmit n d s.pw
      s.modSide n d (fun v => { v with alive := some (t + 64000), link := if send then s.pw + 512 else v.link })
    | none => s)

end Sys2Proof.Machine
end

