-- ==== Sys2Proof/Machine/RingRun.lean ====
section
/-!
DEFINITION. The dispatcher (R51, R63, R64, R68, R69): which descriptor starts next, the checks before it runs, and the
read of its payload.
-/
namespace Sys2Proof.Machine

/-! ### The checks of R51 -/

/-- The payload lengths an opcode allows (R82 and the opcode tables); GRAPH_LOAD checks its own (R210). -/
def lenOk (op len : Nat) : Bool :=
  let span (lo hi m : Nat) : Bool := lo ≤ len && len ≤ hi && len % m = 0
  match op with
  | 0x03 => len = 8
  | 0x10 => span 16 65536 16
  | 0x11 => span 16 65536 16
  | 0x20 => true
  | 0x22 => span 8 65536 8
  | 0x26 => span 4 256 4
  | 0x28 => span 8 2048 8
  | 0x41 => span 8 768 8
  | 0x53 => span 8 1048576 8
  | 0x61 => span 8 262144 8
  | 0x62 => span 16 524288 16
  | 0x70 => 576 ≤ len
  | 0x81 => len = 0 || 4194304 ≤ len
  | 0x83 => span 16 16384 16
  | _ => len = 0

/-- A structural field of an opcode's own (R113, R304, R344, R345, R378, R404) is bad. -/
def State.opFieldBad (s : State) (d : Desc) : Bool :=
  match d.opcode with
  | 0x40 => 95 < bits d.arg 0 7
  | 0x50 | 0x51 | 0x52 => 7 < bits d.arg 0 32
  | 0x53 =>
    let o := bits d.arg 0 32
    o % 8 ≠ 0 || 4096 * s.sieRegion < o + d.len
  | 0x60 => 24 ≤ bits d.arg 16 5 && bits d.arg 16 5 ≤ 30
  | 0x64 => 24 ≤ bits d.arg 0 5
  | 0x7A => 1 < bits d.inl 0 8
  | 0x82 => 202 < bits d.arg 0 8
  | _ => false

/-- A structural fault of a descriptor (R50). -/
def State.structural (s : State) (d : Desc) : Bool :=
  d.flags / 8 ≠ 0 || !lenOk d.opcode d.len || d.ptr % 8 ≠ 0 || (d.len = 0 && d.ptr ≠ 0) || s.opFieldBad d

/-- The unit of an opcode that a variant may lack (Table 20.5). -/
def opUnit (op : Nat) : Option Nat :=
  if 0x60 ≤ op && op ≤ 0x64 then some 10 else if 0x70 ≤ op && op ≤ 0x72 then some 11
  else if 0x78 ≤ op && op ≤ 0x7B then some 16 else none

/-- The READY bit of an opcode's unit (Table 2.9). -/
def opReady (op : Nat) : Option Nat :=
  if 0x20 ≤ op && op ≤ 0x29 then some 36 else if op = 0x40 || op = 0x41 then some 38
  else if 0x50 ≤ op && op ≤ 0x53 then some 40 else if 0x60 ≤ op && op ≤ 0x64 then some 42
  else if 0x70 ≤ op && op ≤ 0x72 then some 43 else if 0x78 ≤ op && op ≤ 0x7B then some 4
  else if 0x80 ≤ op && op ≤ 0x83 then some 2 else if op = 0x90 then some 41
  else if op = 0xA0 || op = 0xA1 then some 10 else if op = 0xA2 then some 12 else none

/-- The status of the first check of R51 that a defined opcode fails, before those of its own chapter. -/
def State.firstCheck (s : State) (d : Desc) (seqBad : Bool) : Option Nat :=
  if s.structural d || seqBad then some stBadField
  else if (opUnit d.opcode).any (fun u => !s.has u) then some stUnitAbsent
  else if (opReady d.opcode).any (fun b => !s.ready b) then some stNotReady
  else none

/-- The opcode reads its payload from host memory. -/
def readsPayload (op : Nat) : Bool := [0x10, 0x11, 0x20, 0x22, 0x28, 0x41, 0x61].contains op

/-! ### Dispatch (R68, R69) -/

/-- No descriptor of any ring is started or uncompleted. -/
def State.allIdle (s : State) : Bool := s.cplQ.isEmpty && s.rings.all (fun r => r.2.started.isNone)

/-- Ring q has a descriptor that may start. -/
def State.mayStart (s : State) (q : Nat) : Bool :=
  let r := s.ring q
  s.ringIs q 1 && s.ringIdle q && s.ringIs (32 + r.cq) 2 && !s.flt.cmdStop
    && match r.prefetch with
      | (d, _) :: _ => !bit d.flags 1 || s.allIdle
      | [] => false

/-- The ring to be served next: of the highest PRIO with a ready descriptor, the first after the ring of that PRIO that
was served last. -/
def State.nextRing (s : State) : Option Nat :=
  let l := (List.range 32).filter s.mayStart
  let top := l.foldl (fun m q => Nat.max m (s.ring q).prio) 0
  ((List.range 32).map (fun i => (tgetD s.rr top 31 + 1 + i) % 32)).find? (fun q =>
    s.mayStart q && decide ((s.ring q).prio = top))

/-- The command of ring q is ready for the unit: a fabric command enters queue 80, or waits at the ring engine for a credit
of it (Table 1.6). -/
def State.fabricStart (s : State) (q : Nat) : State :=
  let n := s.fabricLen
  s.when (s.inFabric q) (fun s => (s.queueHolds 80 (Nat.min 16 n)).when (16 < n) (·.stallCount 80))

/-- The first descriptor of ring q starts: DEVIDX passes it, its SEQ is checked, and it ends at once with the status of
the first check it fails. The first descriptor after enable sets the expected SEQ even where it fails a check of its own
and is not executed (DESIGN CHOICE, log 131). -/
def State.startDesc (s : State) (q : Nat) : State :=
  let r := s.ring q
  match r.prefetch with
  | [] => s
  | (d, slot) :: rest =>
    let seqBad := r.seqchk && r.expect.any (· ≠ d.seq)
    let next := (d.seq + 1) % 2 ^ 32
    let op := d.opcode
    let st : Stage := if opcodeDefined op && readsPayload op && d.len ≠ 0 then .payload else .ready []
    let s := (s.setRing q
      { r with
        prefetch := rest
        expect := if r.seqchk then some next else none
        started := some { d := d, addr := r.base + 32 * slot, stage := st, at_ := s.now } }).wr
          RNG.DEVIDX ((slot + 1) % r.entries) q
    let s := s.when r.seqchk (fun s => s.wr RNG.SEQ next q)
    let s := ({ s with rr := tput s.rr r.prio q 31 } : State).fetchGo q
    if !opcodeDefined op then s
    else match s.firstCheck d seqBad with
      | some c => s.complete q c 0
      | none => s.fabricStart q

/-- DESCRIPTOR_DISPATCH (R69). -/
def execDescriptorDispatch (s : State) : Host.Outcome State Fault Refusal :=
  s.run (fun s => match s.nextRing with
    | some q => s.startDesc q
    | none => s)

/-! ### Payload reads (R64) -/

/-- The descriptor whose payload ring q is reading. -/
def State.reading (s : State) (q : Nat) : Option Started :=
  (s.ring q).started.filter (fun x => decide (x.stage = .payload))

/-- PAYLOAD_READ_COMPLETE (R64): the payload arrives, or none where the completion is erroneous. -/
def execPayloadReadComplete (q : Nat) (res : Option (List Nat)) (at_ : Nat) (s : State) :
    Host.Outcome State Fault Refusal :=
  s.runIf (sqOk q) (fun s =>
    let s := s.to at_
    match s.reading q, res with
    | none, _ => s
    | some _, none => s.complete q stTimeout 0
    | some x, some l =>
      let b := ((l.take x.d.len).map (· % 256)) ++ List.replicate (x.d.len - l.length) 0
      (s.modRing q (fun r => { r with started := some { x with stage := .ready b, at_ := s.now } })).fabricStart q)

/-- 50 ms, the limit of a read without a completion. -/
def readLimit : Nat := 50 * msH

/-- PAYLOAD_READ_TIMEOUT (R64): the payload read of ring q, or its oldest descriptor read, has had no completion within
50 ms. -/
def execPayloadReadTimeout (q : Nat) (s : State) : Host.Outcome State Fault Refusal :=
  s.runIf (sqOk q) (fun s =>
    let p := (s.reading q).map (fun x => x.at_ + readLimit)
    let d := (s.ring q).reads.head?.map (fun x => x.2.2 + readLimit)
    let payload : Bool := match p, d with
      | some a, some b => a ≤ b
      | some _, none => true
      | none, _ => false
    match p, d with
    | none, none => s
    | _, _ =>
      if payload then (s.to (p.getD 0)).complete q stTimeout 0 else (s.to (d.getD 0)).fetchFail q)

end Sys2Proof.Machine
end

