-- ==== Sys2Proof/Machine/Dispatch.lean ====
section
/-!
DEFINITION. The table of meanings: one arm per command, in the order of spec/opcode_table.json.
-/
namespace Sys2Proof.Machine

def exec (i : Instr) (s : State) : Host.Outcome State Fault Refusal :=
  match i with
  | .nop q => Sys2Proof.Machine.execNop q s
  | .modeSet q => Sys2Proof.Machine.execModeSet q s
  | .deviceRestart q => Sys2Proof.Machine.execDeviceRestart q s
  | .timeRead q => Sys2Proof.Machine.execTimeRead q s
  | .regBatchWrite q => Sys2Proof.Machine.execRegBatchWrite q s
  | .regBatchRead q => Sys2Proof.Machine.execRegBatchRead q s
  | .regWrite q => Sys2Proof.Machine.execRegWrite q s
  | .regRead q => Sys2Proof.Machine.execRegRead q s
  | .undefinedOpcode q => Sys2Proof.Machine.execUndefinedOpcode q s
  | .setpointWrite q => Sys2Proof.Machine.execSetpointWrite q s
  | .signalRead q => Sys2Proof.Machine.execSignalRead q s
  | .graphLoad q => Sys2Proof.Machine.execGraphLoad q s
  | .graphUnload q => Sys2Proof.Machine.execGraphUnload q s
  | .coefWrite q => Sys2Proof.Machine.execCoefWrite q s
  | .coefCommit q => Sys2Proof.Machine.execCoefCommit q s
  | .signalReadBlock q => Sys2Proof.Machine.execSignalReadBlock q s
  | .mboxBind q => Sys2Proof.Machine.execMboxBind q s
  | .setpointWriteSet q => Sys2Proof.Machine.execSetpointWriteSet q s
  | .nodeReset q => Sys2Proof.Machine.execNodeReset q s
  | .legCommit q => Sys2Proof.Machine.execLegCommit q s
  | .legCommitSet q => Sys2Proof.Machine.execLegCommitSet q s
  | .sieCapture q => Sys2Proof.Machine.execSieCapture q s
  | .sieForce q => Sys2Proof.Machine.execSieForce q s
  | .sieAbort q => Sys2Proof.Machine.execSieAbort q s
  | .sieRead q => Sys2Proof.Machine.execSieRead q s
  | .trlCmd q => Sys2Proof.Machine.execTrlCmd q s
  | .mapWrite q => Sys2Proof.Machine.execMapWrite q s
  | .mapRead q => Sys2Proof.Machine.execMapRead q s
  | .kaCtrl q => Sys2Proof.Machine.execKaCtrl q s
  | .pollNow q => Sys2Proof.Machine.execPollNow q s
  | .mtrSnapshot q => Sys2Proof.Machine.execMtrSnapshot q s
  | .mtrLostAck q => Sys2Proof.Machine.execMtrLostAck q s
  | .mtrCommitNow q => Sys2Proof.Machine.execMtrCommitNow q s
  | .safStatus q => Sys2Proof.Machine.execSafStatus q s
  | .safReset q => Sys2Proof.Machine.execSafReset q s
  | .safContactor q => Sys2Proof.Machine.execSafContactor q s
  | .safCommit q => Sys2Proof.Machine.execSafCommit q s
  | .fltClear q => Sys2Proof.Machine.execFltClear q s
  | .dumpArm q => Sys2Proof.Machine.execDumpArm q s
  | .fltInject q => Sys2Proof.Machine.execFltInject q s
  | .fltHistory q => Sys2Proof.Machine.execFltHistory q s
  | .telNow q => Sys2Proof.Machine.execTelNow q s
  | .clkSearch q => Sys2Proof.Machine.execClkSearch q s
  | .clkHop q => Sys2Proof.Machine.execClkHop q s
  | .timeSet q => Sys2Proof.Machine.execTimeSet q s
  | .sqDoorbell q v => Sys2Proof.Machine.execSqDoorbell q v s
  | .cqDoorbell q v => Sys2Proof.Machine.execCqDoorbell q v s
  | .bar2InvalidAccess off size wr => Sys2Proof.Machine.execBar2InvalidAccess off size wr s
  | .descriptorFetchComplete q res at_ => Sys2Proof.Machine.execDescriptorFetchComplete q res at_ s
  | .payloadReadTimeout q => Sys2Proof.Machine.execPayloadReadTimeout q s
  | .descriptorDispatch => Sys2Proof.Machine.execDescriptorDispatch s
  | .completionWrite q => Sys2Proof.Machine.execCompletionWrite q s
  | .eventRecordWrite => Sys2Proof.Machine.execEventRecordWrite s
  | .evtLost q => Sys2Proof.Machine.execEvtLost q s
  | .msixModTimeExpiry q => Sys2Proof.Machine.execMsixModTimeExpiry q s
  | .msixUnmask v => Sys2Proof.Machine.execMsixUnmask v s
  | .ringEnable q => Sys2Proof.Machine.execRingEnable q s
  | .ringDisable q => Sys2Proof.Machine.execRingDisable q s
  | .registerWrite o size v => Sys2Proof.Machine.execRegisterWrite o size v s
  | .bar0InvalidAccess wr o size => Sys2Proof.Machine.execBar0InvalidAccess wr o size s
  | .bar0ReservedWrite o size v => Sys2Proof.Machine.execBar0ReservedWrite o size v s
  | .signalPointWrite p v => Sys2Proof.Machine.execSignalPointWrite p v s
  | .qclrAll => Sys2Proof.Machine.execQclrAll s
  | .hwdtKick => Sys2Proof.Machine.execHwdtKick s
  | .hostWatchdogExpiry => Sys2Proof.Machine.execHostWatchdogExpiry s
  | .fkeyWrite v => Sys2Proof.Machine.execFkeyWrite v s
  | .legCommitGo n => Sys2Proof.Machine.execLegCommitGo n s
  | .pairCommit n on off => Sys2Proof.Machine.execPairCommit n on off s
  | .legCntClr n => Sys2Proof.Machine.execLegCntClr n s
  | .brickEnable k => Sys2Proof.Machine.execBrickEnable k s
  | .brickDisable k => Sys2Proof.Machine.execBrickDisable k s
  | .resume k => Sys2Proof.Machine.execResume k s
  | .ownperSet n => Sys2Proof.Machine.execOwnperSet n s
  | .gstatClear n mask => Sys2Proof.Machine.execGstatClear n mask s
  | .gateCntClr n => Sys2Proof.Machine.execGateCntClr n s
  | .windowLatchClear w => Sys2Proof.Machine.execWindowLatchClear w s
  | .groupTrippedClear g => Sys2Proof.Machine.execGroupTrippedClear g s
  | .tripGroupEnable g => Sys2Proof.Machine.execTripGroupEnable g s
  | .swtrip g v => Sys2Proof.Machine.execSwtrip g v s
  | .adcSwtrig c mask => Sys2Proof.Machine.execAdcSwtrig c mask s
  | .adcCntClr c => Sys2Proof.Machine.execAdcCntClr c s
  | .coefApply => Sys2Proof.Machine.execCoefApply s
  | .calStepLo chan => Sys2Proof.Machine.execCalStepLo chan s
  | .calStepHi chan => Sys2Proof.Machine.execCalStepHi chan s
  | .calAbort => Sys2Proof.Machine.execCalAbort s
  | .calAverageDone => Sys2Proof.Machine.execCalAverageDone s
  | .calTimeout => Sys2Proof.Machine.execCalTimeout s
  | .sdmSync => Sys2Proof.Machine.execSdmSync s
  | .sdmCntClr => Sys2Proof.Machine.execSdmCntClr s
  | .espCntClr => Sys2Proof.Machine.execEspCntClr s
  | .espCoefCommit mask => Sys2Proof.Machine.execEspCoefCommit mask s
  | .cadtrig mask => Sys2Proof.Machine.execCadtrig mask s
  | .mboxCfgWrite m v => Sys2Proof.Machine.execMboxCfgWrite m v s
  | .unretire g n => Sys2Proof.Machine.execUnretire g n s
  | .release g n => Sys2Proof.Machine.execRelease g n s
  | .grdReturn => Sys2Proof.Machine.execGrdReturn s
  | .profileWrite v => Sys2Proof.Machine.execProfileWrite v s
  | .unblock k => Sys2Proof.Machine.execUnblock k s
  | .sweep k => Sys2Proof.Machine.execSweep k s
  | .kaStop => Sys2Proof.Machine.execKaStop s
  | .kaResume => Sys2Proof.Machine.execKaResume s
  | .trlCntClr => Sys2Proof.Machine.execTrlCntClr s
  | .seal => Sys2Proof.Machine.execSeal s
  | .capForce e => Sys2Proof.Machine.execCapForce e s
  | .capAbort e => Sys2Proof.Machine.execCapAbort e s
  | .sieCntClr => Sys2Proof.Machine.execSieCntClr s
  | .ridxWrite t v => Sys2Proof.Machine.execRidxWrite t v s
  | .traceStreamEnable t => Sys2Proof.Machine.execTraceStreamEnable t s
  | .flipArm => Sys2Proof.Machine.execFlipArm s
  | .testPortGo write => Sys2Proof.Machine.execTestPortGo write s
  | .testPortDone => Sys2Proof.Machine.execTestPortDone s
  | .remapCmd g => Sys2Proof.Machine.execRemapCmd g s
  | .memCntClr => Sys2Proof.Machine.execMemCntClr s
  | .injGo => Sys2Proof.Machine.execInjGo s
  | .firstValidClear => Sys2Proof.Machine.execFirstValidClear s
  | .sourceActiveClear n => Sys2Proof.Machine.execSourceActiveClear n s
  | .fltCntClr => Sys2Proof.Machine.execFltCntClr s
  | .safCntClr => Sys2Proof.Machine.execSafCntClr s
  | .logClr => Sys2Proof.Machine.execLogClr s
  | .cloCntClr => Sys2Proof.Machine.execCloCntClr s
  | .mdioAccess op phy reg data => Sys2Proof.Machine.execMdioAccess op phy reg data s
  | .mdioAccessDone data => Sys2Proof.Machine.execMdioAccessDone data s
  | .ethCntClr n => Sys2Proof.Machine.execEthCntClr n s
  | .mainSuppliesGood ftest refsel mv at_ => Sys2Proof.Machine.execMainSuppliesGood ftest refsel mv at_ s
  | .powerFailWarning src rail at_ => Sys2Proof.Machine.execPowerFailWarning src rail at_ s
  | .railsLostEarly => Sys2Proof.Machine.execRailsLostEarly s
  | .readySet b x at_ => Sys2Proof.Machine.execReadySet b x at_ s
  | .readyLost b at_ => Sys2Proof.Machine.execReadyLost b at_ s
  | .bringupTimeout => Sys2Proof.Machine.execBringupTimeout s
  | .modeManagerEvaluation => Sys2Proof.Machine.execModeManagerEvaluation s
  | .prestartTimeout => Sys2Proof.Machine.execPrestartTimeout s
  | .prechargeHoldExpiry => Sys2Proof.Machine.execPrechargeHoldExpiry s
  | .syncHoldExpiry => Sys2Proof.Machine.execSyncHoldExpiry s
  | .syncTimeout => Sys2Proof.Machine.execSyncTimeout s
  | .legCheck r => Sys2Proof.Machine.execLegCheck r s
  | .brickStart k => Sys2Proof.Machine.execBrickStart k s
  | .brickMid k => Sys2Proof.Machine.execBrickMid k s
  | .ownStart n => Sys2Proof.Machine.execOwnStart n s
  | .reloadGuardOpen own n => Sys2Proof.Machine.execReloadGuardOpen own n s
  | .periodReportPost => Sys2Proof.Machine.execPeriodReportPost s
  | .compareQueueEntry k => Sys2Proof.Machine.execCompareQueueEntry k s
  | .hcEdge n => Sys2Proof.Machine.execHcEdge n s
  | .deadTimeExpiry n d => Sys2Proof.Machine.execDeadTimeExpiry n d s
  | .interlockTimeout n d => Sys2Proof.Machine.execInterlockTimeout n d s
  | .maxonExpiry n d => Sys2Proof.Machine.execMaxonExpiry n d s
  | .linkAlivePulse n d => Sys2Proof.Machine.execLinkAlivePulse n d s
  | .vledSample k mv at_ => Sys2Proof.Machine.execVledSample k mv at_ s
  | .statusLevelChange n d ball at_ => Sys2Proof.Machine.execStatusLevelChange n d ball at_ s
  | .statusPulseClassified n d => Sys2Proof.Machine.execStatusPulseClassified n d s
  | .confirmTimeout n d => Sys2Proof.Machine.execConfirmTimeout n d s
  | .stuckCheckExpiry n d => Sys2Proof.Machine.execStuckCheckExpiry n d s
  | .gstatPersistExpiry n d c => Sys2Proof.Machine.execGstatPersistExpiry n d c s
  | .windowConditionChange w at_ levels => Sys2Proof.Machine.execWindowConditionChange w at_ levels s
  | .hardWindowCrossing w at_ level => Sys2Proof.Machine.execHardWindowCrossing w at_ level s
  | .blankingEnd w => Sys2Proof.Machine.execBlankingEnd w s
  | .haltEntry c at_ => Sys2Proof.Machine.execHaltEntry c at_ s
  | .haltEnd c at_ => Sys2Proof.Machine.execHaltEnd c at_ s
  | .contactorLevelFall => Sys2Proof.Machine.execContactorLevelFall s
  | .adcTrigger => Sys2Proof.Machine.execAdcTrigger s
  | .burstReady c q => Sys2Proof.Machine.execBurstReady c q s
  | .conversionEnd c v => Sys2Proof.Machine.execConversionEnd c v s
  | .sensorResultPost n => Sys2Proof.Machine.execSensorResultPost n s
  | .corePowerDown c => Sys2Proof.Machine.execCorePowerDown c s
  | .coreWakeDone c => Sys2Proof.Machine.execCoreWakeDone c s
  | .timerExpiry t => Sys2Proof.Machine.execTimerExpiry t s
  | .sdiResult k line at_ => Sys2Proof.Machine.execSdiResult k line at_ s
  | .sdiLink k line more at_ => Sys2Proof.Machine.execSdiLink k line more at_ s
  | .sampleOpen => Sys2Proof.Machine.execSampleOpen s
  | .taskDispatch => Sys2Proof.Machine.execTaskDispatch s
  | .taskComplete => Sys2Proof.Machine.execTaskComplete s
  | .mailboxUpdate => Sys2Proof.Machine.execMailboxUpdate s
  | .exitMsExpiry => Sys2Proof.Machine.execExitMsExpiry s
  | .restoreMsExpiry => Sys2Proof.Machine.execRestoreMsExpiry s
  | .passiveHoldExpiry => Sys2Proof.Machine.execPassiveHoldExpiry s
  | .correlatorSample => Sys2Proof.Machine.execCorrelatorSample s
  | .probeEstimate => Sys2Proof.Machine.execProbeEstimate s
  | .listenPeriod => Sys2Proof.Machine.execListenPeriod s
  | .spareRampEnd g => Sys2Proof.Machine.execSpareRampEnd g s
  | .shadowTimeout n => Sys2Proof.Machine.execShadowTimeout n s
  | .shadowRestore n => Sys2Proof.Machine.execShadowRestore n s
  | .vinStartHold k => Sys2Proof.Machine.execVinStartHold k s
  | .startSlow k => Sys2Proof.Machine.execStartSlow k s
  | .softStartEnd k => Sys2Proof.Machine.execSoftStartEnd k s
  | .shortDetection k => Sys2Proof.Machine.execShortDetection k s
  | .hiccupEnd k => Sys2Proof.Machine.execHiccupEnd k s
  | .retryCountReset k => Sys2Proof.Machine.execRetryCountReset k s
  | .burstSleepEnd k => Sys2Proof.Machine.execBurstSleepEnd k s
  | .dawnPPost => Sys2Proof.Machine.execDawnPPost s
  | .mapFold k => Sys2Proof.Machine.execMapFold k s
  | .keepaliveFrame k => Sys2Proof.Machine.execKeepaliveFrame k s
  | .pollRoundStart k => Sys2Proof.Machine.execPollRoundStart k s
  | .pollFrame k => Sys2Proof.Machine.execPollFrame k s
  | .downlinkFrameEnd k => Sys2Proof.Machine.execDownlinkFrameEnd k s
  | .uplinkReply k payload crc at_ => Sys2Proof.Machine.execUplinkReply k payload crc at_ s
  | .replySlotEnd k => Sys2Proof.Machine.execReplySlotEnd k s
  | .roundDone k => Sys2Proof.Machine.execRoundDone k s
  | .trlCmdTimeout q => Sys2Proof.Machine.execTrlCmdTimeout q s
  | .meterCycleEnd at_ => Sys2Proof.Machine.execMeterCycleEnd at_ s
  | .meterIntervalEnd => Sys2Proof.Machine.execMeterIntervalEnd s
  | .meterFrequency => Sys2Proof.Machine.execMeterFrequency s
  | .revPower => Sys2Proof.Machine.execRevPower s
  | .s0Pulse n high at_ => Sys2Proof.Machine.execS0Pulse n high at_ s
  | .s0WindowEnd n => Sys2Proof.Machine.execS0WindowEnd n s
  | .meterGap => Sys2Proof.Machine.execMeterGap s
  | .meterRestore => Sys2Proof.Machine.execMeterRestore s
  | .retentionTransfer => Sys2Proof.Machine.execRetentionTransfer s
  | .retentionUpdateApply => Sys2Proof.Machine.execRetentionUpdateApply s
  | .commitDue pf => Sys2Proof.Machine.execCommitDue pf s
  | .framCommitDone good => Sys2Proof.Machine.execFramCommitDone good s
  | .storeSample v h parity at_ => Sys2Proof.Machine.execStoreSample v h parity at_ s
  | .keepaliveDieStart at_ => Sys2Proof.Machine.execKeepaliveDieStart at_ s
  | .captureEngineSample => Sys2Proof.Machine.execCaptureEngineSample s
  | .autoTriggerExpiry e => Sys2Proof.Machine.execAutoTriggerExpiry e s
  | .captureEnd => Sys2Proof.Machine.execCaptureEnd s
  | .captureMemoryAccess w mask => Sys2Proof.Machine.execCaptureMemoryAccess w mask s
  | .memoryInitStep at_ bad => Sys2Proof.Machine.execMemoryInitStep at_ bad s
  | .memoryInitLate => Sys2Proof.Machine.execMemoryInitLate s
  | .bucketLeak => Sys2Proof.Machine.execBucketLeak s
  | .scrubPass => Sys2Proof.Machine.execScrubPass s
  | .adcRecalibration c temp at_ => Sys2Proof.Machine.execAdcRecalibration c temp at_ s
  | .comparatorRecalibration w => Sys2Proof.Machine.execComparatorRecalibration w s
  | .nvmWearLevelling => Sys2Proof.Machine.execNvmWearLevelling s
  | .telemetry => Sys2Proof.Machine.execTelemetry s
  | .mapAgeing => Sys2Proof.Machine.execMapAgeing s
  | .driftMonitor => Sys2Proof.Machine.execDriftMonitor s
  | .hoeOverrun n => Sys2Proof.Machine.execHoeOverrun n s
  | .faultSourceAssert ext => Sys2Proof.Machine.execFaultSourceAssert ext s
  | .faultOccurrenceEnd n => Sys2Proof.Machine.execFaultOccurrenceEnd n s
  | .railMismatch n equal at_ => Sys2Proof.Machine.execRailMismatch n equal at_ s
  | .firstErrorLatch => Sys2Proof.Machine.execFirstErrorLatch s
  | .dumpDone ok at_ => Sys2Proof.Machine.execDumpDone ok at_ s
  | .dumpTimeout => Sys2Proof.Machine.execDumpTimeout s
  | .coefCommitTimeout q => Sys2Proof.Machine.execCoefCommitTimeout q s
  | .safeInputSample levels => Sys2Proof.Machine.execSafeInputSample levels s
  | .safetyCycle rb rails => Sys2Proof.Machine.execSafetyCycle rb rails s
  | .testPulse => Sys2Proof.Machine.execTestPulse s
  | .outputOffPulse o off on => Sys2Proof.Machine.execOutputOffPulse o off on s
  | .contactorFeedbackTimeout o => Sys2Proof.Machine.execContactorFeedbackTimeout o s
  | .safetyRequest => Sys2Proof.Machine.execSafetyRequest s
  | .safeFrameReceive n => Sys2Proof.Machine.execSafeFrameReceive n s
  | .statusFrameSend => Sys2Proof.Machine.execStatusFrameSend s
  | .frameTimeout => Sys2Proof.Machine.execFrameTimeout s
  | .networkDown n => Sys2Proof.Machine.execNetworkDown n s
  | .pinh at_ => Sys2Proof.Machine.execPinh at_ s
  | .resetButton n => Sys2Proof.Machine.execResetButton n s
  | .islandLockstep => Sys2Proof.Machine.execIslandLockstep s
  | .safeSupplyFault => Sys2Proof.Machine.execSafeSupplyFault s
  | .islandResetExit at_ => Sys2Proof.Machine.execIslandResetExit at_ s
  | .configRestore good => Sys2Proof.Machine.execConfigRestore good s
  | .inhibitRailTest ok => Sys2Proof.Machine.execInhibitRailTest ok s
  | .ethFrameReceive n f at_ => Sys2Proof.Machine.execEthFrameReceive n f at_ s
  | .ptpMessage n m at_ => Sys2Proof.Machine.execPtpMessage n m at_ s
  | .ppsInEdge at_ => Sys2Proof.Machine.execPpsInEdge at_ s
  | .ptpSyncLoss => Sys2Proof.Machine.execPtpSyncLoss s
  | .announceTimeout => Sys2Proof.Machine.execAnnounceTimeout s
  | .ppsOut => Sys2Proof.Machine.execPpsOut s
  | .epochPoint => Sys2Proof.Machine.execEpochPoint s
  | .refLost at_ => Sys2Proof.Machine.execRefLost at_ s
  | .refReturn at_ => Sys2Proof.Machine.execRefReturn at_ s
  | .clockFrequencyError c at_ => Sys2Proof.Machine.execClockFrequencyError c at_ s
  | .searchDone found code at_ => Sys2Proof.Machine.execSearchDone found code at_ s
  | .hopSwitch => Sys2Proof.Machine.execHopSwitch s
  | .pcieLinkDown aer at_ => Sys2Proof.Machine.execPcieLinkDown aer at_ s
  | .payloadReadComplete q res at_ => Sys2Proof.Machine.execPayloadReadComplete q res at_ s
  | .pinhNRise at_ => Sys2Proof.Machine.execPinhNRise at_ s
  | .ethLinkChange n up speed => Sys2Proof.Machine.execEthLinkChange n up speed s
  | .ptpMessageTransmit m => Sys2Proof.Machine.execPtpMessageTransmit m s
  | .missingTwin => Sys2Proof.Machine.execMissingTwin s
  | .faultInjectionTimer => Sys2Proof.Machine.execFaultInjectionTimer s
  | .notchPhaseEnd n d => Sys2Proof.Machine.execNotchPhaseEnd n d s
  | .refreshEnd n => Sys2Proof.Machine.execRefreshEnd n s
  | .stretchedPulseEnd n d => Sys2Proof.Machine.execStretchedPulseEnd n d s
  | .perstNAssertion low at_ => Sys2Proof.Machine.execPerstNAssertion low at_ s
  | .xtal32kOscillationChange on => Sys2Proof.Machine.execXtal32kOscillationChange on s

end Sys2Proof.Machine
end

