-- ==== Sys2Proof/Machine/Step.lean ====
section
/-!
DEFINITION. One step of the block: the command at the front of the queue takes its effect; with nothing waiting, one
CK_PWM tick passes.
-/
namespace Sys2Proof.Machine

/-- With no command waiting, one CK_PWM tick of 2.5 ns (Table 1.5) passes: 32 h (DESIGN CHOICE, log 2). -/
def State.tick (s : State) : Host.Outcome State Fault Refusal := s.run (fun s => s.to (s.now + 32))

/-- The command at the front of the queue is taken and executed over the queue's rest. -/
def step (s : State) : Host.Outcome State Fault Refusal :=
  match s.pending with
  | [] => s.tick
  | c :: rest => exec c { s with pending := rest }

/-- The command a table word spells, put at the front of the queue (log 3: no word spells one). -/
def State.withFetchWord (s : State) (nbits w : Nat) : State :=
  match Sys2Proof.decodeTableWord nbits w with
  | some c => { s with pending := c :: s.pending }
  | none => s

end Sys2Proof.Machine
end

