-- ==== Sys2Proof/WellFormed.lean ====
section
/-!
DEFINITION. Well-formed commands: every operand that names a unit names one the spec has. The ranges are those of the
item names of Table 0.4 and of the units' own chapters.
-/
namespace Sys2Proof

/-- The kinds of unit a command may name. -/
inductive UnitKind where
  /-- a submission ring (R57) -/
  | subRing
  /-- a completion or event ring (R57) -/
  | cplRing
  /-- a ring -/
  | ring
  /-- an MSI-X vector (R53) -/
  | vector
  /-- a byte of BAR2 (R53) -/
  | doorbell
  /-- a leg -/
  | leg
  /-- a brick -/
  | brick
  /-- a comparator window -/
  | window
  /-- a hard window (Table 6.1) -/
  | hardWindow
  /-- a window that is not hard: 0 to 95 or 192 to 223 -/
  | softWindow
  /-- a trip group -/
  | tripGroup
  /-- an ADC core -/
  | adcCore
  /-- a queue of an ADC core -/
  | adcQueue
  /-- a conversion timer -/
  | timer
  /-- a ΣΔ input -/
  | sdmInput
  /-- a result queue: 18 cores, then 16 ΣΔ inputs -/
  | sensor
  /-- a mailbox -/
  | mailbox
  /-- a signal point -/
  | point
  /-- a phase group -/
  | phaseGroup
  /-- a DC input, or its Trellis segment -/
  | dcInput
  /-- a capture engine -/
  | engine
  /-- a trace stream -/
  | traceStream
  /-- an 8 B word of capture memory (R346) -/
  | memWord
  /-- a fault source -/
  | faultSource
  /-- a Hoe task (Table 16.6) -/
  | hoeTask
  /-- a safety output -/
  | safeOutput
  /-- a safety input -/
  | safeInput
  /-- an Ethernet MAC -/
  | mac
  /-- an S0 input -/
  | s0Input
  /-- a monitored clock (Table 19.2) -/
  | clock
  deriving DecidableEq, Repr

/-- A unit by its kind and number. -/
structure UnitRef where
  kind : UnitKind
  num : Nat
  deriving DecidableEq, Repr

/-- The least number of a kind. -/
def UnitKind.lo : UnitKind → Nat
  | .cplRing => 32
  | .hardWindow => 96
  | _ => 0

/-- One above the greatest number of a kind. -/
def UnitKind.hi : UnitKind → Nat
  | .subRing => 32
  | .cplRing => 64
  | .ring => 64
  | .vector => 64
  | .doorbell => 0x40000
  | .leg => 96
  | .brick => 8
  | .window => 224
  | .hardWindow => 192
  | .softWindow => 224
  | .tripGroup => 32
  | .adcCore => 18
  | .adcQueue => 8
  | .timer => 16
  | .sdmInput => 16
  | .sensor => 34
  | .mailbox => 64
  | .point => 0x40000
  | .phaseGroup => 3
  | .dcInput => 24
  | .engine => 8
  | .traceStream => 16
  | .memWord => 0xe00000
  | .faultSource => 256
  | .hoeTask => 7
  | .safeOutput => 4
  | .safeInput => 8
  | .mac => 2
  | .s0Input => 4
  | .clock => 5

/-- The spec has this unit. -/
def UnitRef.has (u : UnitRef) : Bool :=
  decide (u.kind.lo ≤ u.num) && decide (u.num < u.kind.hi)
    && (u.kind != .softWindow || decide (u.num < 96) || decide (192 ≤ u.num))

/-- The units a command names. -/
def Instr.units (c : Instr) : List UnitRef :=
  match c with
  | .nop q => [⟨.subRing, q⟩]
  | .modeSet q => [⟨.subRing, q⟩]
  | .deviceRestart q => [⟨.subRing, q⟩]
  | .timeRead q => [⟨.subRing, q⟩]
  | .regBatchWrite q => [⟨.subRing, q⟩]
  | .regBatchRead q => [⟨.subRing, q⟩]
  | .regWrite q => [⟨.subRing, q⟩]
  | .regRead q => [⟨.subRing, q⟩]
  | .undefinedOpcode q => [⟨.subRing, q⟩]
  | .setpointWrite q => [⟨.subRing, q⟩]
  | .signalRead q => [⟨.subRing, q⟩]
  | .graphLoad q => [⟨.subRing, q⟩]
  | .graphUnload q => [⟨.subRing, q⟩]
  | .coefWrite q => [⟨.subRing, q⟩]
  | .coefCommit q => [⟨.subRing, q⟩]
  | .signalReadBlock q => [⟨.subRing, q⟩]
  | .mboxBind q => [⟨.subRing, q⟩]
  | .setpointWriteSet q => [⟨.subRing, q⟩]
  | .nodeReset q => [⟨.subRing, q⟩]
  | .legCommit q => [⟨.subRing, q⟩]
  | .legCommitSet q => [⟨.subRing, q⟩]
  | .sieCapture q => [⟨.subRing, q⟩]
  | .sieForce q => [⟨.subRing, q⟩]
  | .sieAbort q => [⟨.subRing, q⟩]
  | .sieRead q => [⟨.subRing, q⟩]
  | .trlCmd q => [⟨.subRing, q⟩]
  | .mapWrite q => [⟨.subRing, q⟩]
  | .mapRead q => [⟨.subRing, q⟩]
  | .kaCtrl q => [⟨.subRing, q⟩]
  | .pollNow q => [⟨.subRing, q⟩]
  | .mtrSnapshot q => [⟨.subRing, q⟩]
  | .mtrLostAck q => [⟨.subRing, q⟩]
  | .mtrCommitNow q => [⟨.subRing, q⟩]
  | .safStatus q => [⟨.subRing, q⟩]
  | .safReset q => [⟨.subRing, q⟩]
  | .safContactor q => [⟨.subRing, q⟩]
  | .safCommit q => [⟨.subRing, q⟩]
  | .fltClear q => [⟨.subRing, q⟩]
  | .dumpArm q => [⟨.subRing, q⟩]
  | .fltInject q => [⟨.subRing, q⟩]
  | .fltHistory q => [⟨.subRing, q⟩]
  | .telNow q => [⟨.subRing, q⟩]
  | .clkSearch q => [⟨.subRing, q⟩]
  | .clkHop q => [⟨.subRing, q⟩]
  | .timeSet q => [⟨.subRing, q⟩]
  | .sqDoorbell q _ => [⟨.subRing, q⟩]
  | .cqDoorbell q _ => [⟨.cplRing, q⟩]
  | .bar2InvalidAccess off _ _ => [⟨.doorbell, off⟩]
  | .descriptorFetchComplete q _ _ => [⟨.subRing, q⟩]
  | .payloadReadTimeout q => [⟨.subRing, q⟩]
  | .descriptorDispatch => []
  | .completionWrite q => [⟨.cplRing, q⟩]
  | .eventRecordWrite => []
  | .evtLost q => [⟨.cplRing, q⟩]
  | .msixModTimeExpiry q => [⟨.cplRing, q⟩]
  | .msixUnmask v => [⟨.vector, v⟩]
  | .ringEnable q => [⟨.ring, q⟩]
  | .ringDisable q => [⟨.ring, q⟩]
  | .registerWrite _ _ _ => []
  | .bar0InvalidAccess _ _ _ => []
  | .bar0ReservedWrite _ _ _ => []
  | .signalPointWrite p _ => [⟨.point, p⟩]
  | .qclrAll => []
  | .hwdtKick => []
  | .hostWatchdogExpiry => []
  | .fkeyWrite _ => []
  | .legCommitGo n => [⟨.leg, n⟩]
  | .pairCommit n _ _ => [⟨.leg, n⟩]
  | .legCntClr n => [⟨.leg, n⟩]
  | .brickEnable k => [⟨.brick, k⟩]
  | .brickDisable k => [⟨.brick, k⟩]
  | .resume k => [⟨.brick, k⟩]
  | .ownperSet n => [⟨.leg, n⟩]
  | .gstatClear n _ => [⟨.leg, n⟩]
  | .gateCntClr n => [⟨.leg, n⟩]
  | .windowLatchClear w => [⟨.window, w⟩]
  | .groupTrippedClear g => [⟨.tripGroup, g⟩]
  | .tripGroupEnable g => [⟨.tripGroup, g⟩]
  | .swtrip g _ => [⟨.tripGroup, g⟩]
  | .adcSwtrig c _ => [⟨.adcCore, c⟩]
  | .adcCntClr c => [⟨.adcCore, c⟩]
  | .coefApply => []
  | .calStepLo _ => []
  | .calStepHi _ => []
  | .calAbort => []
  | .calAverageDone => []
  | .calTimeout => []
  | .sdmSync => []
  | .sdmCntClr => []
  | .espCntClr => []
  | .espCoefCommit _ => []
  | .cadtrig _ => []
  | .mboxCfgWrite m _ => [⟨.mailbox, m⟩]
  | .unretire g _ => [⟨.phaseGroup, g⟩]
  | .release g _ => [⟨.phaseGroup, g⟩]
  | .grdReturn => []
  | .profileWrite _ => []
  | .unblock k => [⟨.dcInput, k⟩]
  | .sweep k => [⟨.dcInput, k⟩]
  | .kaStop => []
  | .kaResume => []
  | .trlCntClr => []
  | .seal => []
  | .capForce e => [⟨.engine, e⟩]
  | .capAbort e => [⟨.engine, e⟩]
  | .sieCntClr => []
  | .ridxWrite t _ => [⟨.traceStream, t⟩]
  | .traceStreamEnable t => [⟨.traceStream, t⟩]
  | .flipArm => []
  | .testPortGo _ => []
  | .testPortDone => []
  | .remapCmd _ => []
  | .memCntClr => []
  | .injGo => []
  | .firstValidClear => []
  | .sourceActiveClear i => [⟨.faultSource, i⟩]
  | .fltCntClr => []
  | .safCntClr => []
  | .logClr => []
  | .cloCntClr => []
  | .mdioAccess _ _ _ _ => []
  | .mdioAccessDone _ => []
  | .ethCntClr n => [⟨.mac, n⟩]
  | .mainSuppliesGood _ _ _ _ => []
  | .powerFailWarning _ _ _ => []
  | .railsLostEarly => []
  | .readySet _ _ _ => []
  | .readyLost _ _ => []
  | .bringupTimeout => []
  | .modeManagerEvaluation => []
  | .prestartTimeout => []
  | .prechargeHoldExpiry => []
  | .syncHoldExpiry => []
  | .syncTimeout => []
  | .legCheck _ => []
  | .brickStart k => [⟨.brick, k⟩]
  | .brickMid k => [⟨.brick, k⟩]
  | .ownStart n => [⟨.leg, n⟩]
  | .reloadGuardOpen own i => if own then [⟨.leg, i⟩] else [⟨.brick, i⟩]
  | .periodReportPost => []
  | .compareQueueEntry k => [⟨.brick, k⟩]
  | .hcEdge n => [⟨.leg, n⟩]
  | .deadTimeExpiry n _ => [⟨.leg, n⟩]
  | .interlockTimeout n _ => [⟨.leg, n⟩]
  | .maxonExpiry n _ => [⟨.leg, n⟩]
  | .linkAlivePulse n _ => [⟨.leg, n⟩]
  | .vledSample k _ _ => [⟨.brick, k⟩]
  | .statusLevelChange n _ _ _ => [⟨.leg, n⟩]
  | .statusPulseClassified n _ => [⟨.leg, n⟩]
  | .confirmTimeout n _ => [⟨.leg, n⟩]
  | .stuckCheckExpiry n _ => [⟨.leg, n⟩]
  | .gstatPersistExpiry n _ _ => [⟨.leg, n⟩]
  | .windowConditionChange w _ _ => [⟨.softWindow, w⟩]
  | .hardWindowCrossing w _ _ => [⟨.hardWindow, w⟩]
  | .blankingEnd w => [⟨.window, w⟩]
  | .haltEntry _ _ => []
  | .haltEnd _ _ => []
  | .contactorLevelFall => []
  | .adcTrigger => []
  | .burstReady c q => [⟨.adcCore, c⟩, ⟨.adcQueue, q⟩]
  | .conversionEnd c _ => [⟨.adcCore, c⟩]
  | .sensorResultPost i => [⟨.sensor, i⟩]
  | .corePowerDown c => [⟨.adcCore, c⟩]
  | .coreWakeDone c => [⟨.adcCore, c⟩]
  | .timerExpiry t => [⟨.timer, t⟩]
  | .sdiResult i _ _ => [⟨.sdmInput, i⟩]
  | .sdiLink i _ _ _ => [⟨.sdmInput, i⟩]
  | .sampleOpen => []
  | .taskDispatch => []
  | .taskComplete => []
  | .mailboxUpdate => []
  | .exitMsExpiry => []
  | .restoreMsExpiry => []
  | .passiveHoldExpiry => []
  | .correlatorSample => []
  | .probeEstimate => []
  | .listenPeriod => []
  | .spareRampEnd g => [⟨.phaseGroup, g⟩]
  | .shadowTimeout n => [⟨.leg, n⟩]
  | .shadowRestore n => [⟨.leg, n⟩]
  | .vinStartHold k => [⟨.dcInput, k⟩]
  | .startSlow k => [⟨.dcInput, k⟩]
  | .softStartEnd k => [⟨.dcInput, k⟩]
  | .shortDetection k => [⟨.dcInput, k⟩]
  | .hiccupEnd k => [⟨.dcInput, k⟩]
  | .retryCountReset k => [⟨.dcInput, k⟩]
  | .burstSleepEnd k => [⟨.dcInput, k⟩]
  | .dawnPPost => []
  | .mapFold k => [⟨.dcInput, k⟩]
  | .keepaliveFrame k => [⟨.dcInput, k⟩]
  | .pollRoundStart k => [⟨.dcInput, k⟩]
  | .pollFrame k => [⟨.dcInput, k⟩]
  | .downlinkFrameEnd k => [⟨.dcInput, k⟩]
  | .uplinkReply k _ _ _ => [⟨.dcInput, k⟩]
  | .replySlotEnd k => [⟨.dcInput, k⟩]
  | .roundDone k => [⟨.dcInput, k⟩]
  | .trlCmdTimeout q => [⟨.subRing, q⟩]
  | .meterCycleEnd _ => []
  | .meterIntervalEnd => []
  | .meterFrequency => []
  | .revPower => []
  | .s0Pulse i _ _ => [⟨.s0Input, i⟩]
  | .s0WindowEnd i => [⟨.s0Input, i⟩]
  | .meterGap => []
  | .meterRestore => []
  | .retentionTransfer => []
  | .retentionUpdateApply => []
  | .commitDue _ => []
  | .framCommitDone _ => []
  | .storeSample _ _ _ _ => []
  | .keepaliveDieStart _ => []
  | .captureEngineSample => []
  | .autoTriggerExpiry e => [⟨.engine, e⟩]
  | .captureEnd => []
  | .captureMemoryAccess w _ => [⟨.memWord, w⟩]
  | .memoryInitStep _ _ => []
  | .memoryInitLate => []
  | .bucketLeak => []
  | .scrubPass => []
  | .adcRecalibration c _ _ => [⟨.adcCore, c⟩]
  | .comparatorRecalibration w => [⟨.window, w⟩]
  | .nvmWearLevelling => []
  | .telemetry => []
  | .mapAgeing => []
  | .driftMonitor => []
  | .hoeOverrun i => [⟨.hoeTask, i⟩]
  | .faultSourceAssert _ => []
  | .faultOccurrenceEnd i => [⟨.faultSource, i⟩]
  | .railMismatch i _ _ => [⟨.faultSource, i⟩]
  | .firstErrorLatch => []
  | .dumpDone _ _ => []
  | .dumpTimeout => []
  | .coefCommitTimeout q => [⟨.subRing, q⟩]
  | .safeInputSample _ => []
  | .safetyCycle _ _ => []
  | .testPulse => []
  | .outputOffPulse o _ _ => [⟨.safeOutput, o⟩]
  | .contactorFeedbackTimeout o => [⟨.safeOutput, o⟩]
  | .safetyRequest => []
  | .safeFrameReceive n => [⟨.mac, n⟩]
  | .statusFrameSend => []
  | .frameTimeout => []
  | .networkDown n => [⟨.mac, n⟩]
  | .pinh _ => []
  | .resetButton i => [⟨.safeInput, i⟩]
  | .islandLockstep => []
  | .safeSupplyFault => []
  | .islandResetExit _ => []
  | .configRestore _ => []
  | .inhibitRailTest _ => []
  | .ethFrameReceive n _ _ => [⟨.mac, n⟩]
  | .ptpMessage n _ _ => [⟨.mac, n⟩]
  | .ppsInEdge _ => []
  | .ptpSyncLoss => []
  | .announceTimeout => []
  | .ppsOut => []
  | .epochPoint => []
  | .refLost _ => []
  | .refReturn _ => []
  | .clockFrequencyError c _ => [⟨.clock, c⟩]
  | .searchDone _ _ _ => []
  | .hopSwitch => []
  | .pcieLinkDown _ _ => []
  | .payloadReadComplete q _ _ => [⟨.subRing, q⟩]
  | .pinhNRise _ => []
  | .ethLinkChange n _ _ => [⟨.mac, n⟩]
  | .ptpMessageTransmit _ => []
  | .missingTwin => []
  | .faultInjectionTimer => []
  | .notchPhaseEnd n _ => [⟨.leg, n⟩]
  | .refreshEnd n => [⟨.leg, n⟩]
  | .stretchedPulseEnd n _ => [⟨.leg, n⟩]
  | .perstNAssertion _ _ => []
  | .xtal32kOscillationChange _ => []

/-- The command names only units that the spec has. -/
def Instr.wf (c : Instr) : Bool := c.units.all (·.has)

end Sys2Proof
end

