-- ==== Sys2Proof/Safety.lean ====
section
/-!
DEFINITION. What counts as a safe run: a queue of well-formed commands, host memory in its canonical form, and no step
that faults or is refused; and the terms in which claims speak of a command's completion and of its frame.
-/
namespace Sys2Proof.Machine

/-- Host memory as the device has written it is in canonical form: an unwritten byte reads as 0 (log 4). -/
def Memory.wf (m : Tbl Byte) : Bool := twf m (fun _ => 0)

/-- The invariant of every run: host memory is canonical, no host write is left over from a command, and every
command that waits names units the spec has. -/
def State.Inv (s : State) : Prop :=
  Memory.wf s.hostMem = true ∧ s.out = [] ∧ s.pending.all Instr.wf = true

/-- n steps from s all answer a next state. -/
def State.Safe : Nat → State → Prop
  | 0, _ => True
  | n + 1, s => ∃ t, step s = .next t ∧ State.Safe n t

/-! ### Completion -/

/-- The command answers a next state, and P holds of it. -/
def Completes (c : Instr) (s : State) (P : State → Prop) : Prop := ∃ t, exec c s = .next t ∧ P t

/-- The completions that the end of a started descriptor brings: one with this status and result, or none with QUIET
and status OK (R74, Table 3.9). -/
def cplAtEnd (s : State) (q : Nat) (x : Started) (st res lo : Nat) : List Cpl :=
  if bit x.d.flags 2 && st = 0 then []
  else [{ q := q, cq := (s.ring q).cq, tag := x.d.tag, seq := x.d.seq, status := st, result := res % 2 ^ 32,
          irq := bit x.d.flags 0, dtLo := lo }]

/-- The completions of the commands of other rings that a graph load or unload of ring q takes out of queue 80:
NOT_READY (R29; log 145). -/
def flushCpls (s : State) (q : Nat) : List Cpl :=
  (s.fabricHeld.filter (· ≠ q)).filterMap (fun p => (s.ring p).started.map (fun x =>
    { q := p, cq := (s.ring p).cq, tag := x.d.tag, seq := x.d.seq, status := 0x13, result := 0, irq := bit x.d.flags 0,
      dtLo := s.dtLo }))

/-- The descriptor x of ring q has ended, from s to t, with this status and result. -/
def Ended (s t : State) (q : Nat) (x : Started) (st res : Nat) : Prop :=
  (t.ring q).started = none ∧ ∃ lo, t.cplQ = s.cplQ ++ cplAtEnd s q x st res lo

/-- The descriptor x of submission ring q, of this opcode and with payload b, is ready to be executed. -/
def Ready (s : State) (q op : Nat) (x : Started) (b : List Nat) : Prop := q < 32 ∧ s.cmdOf q op = some (x, b)

/-- The command ends the descriptor x of ring q with this status and result, and P holds of the next state. -/
def Ends (c : Instr) (s : State) (q : Nat) (x : Started) (st res : Nat) (P : State → Prop) : Prop :=
  Completes c s (fun t => Ended s t q x st res ∧ P t)

/-- The descriptor of ring q goes on after its start: it waits for what it started. -/
def Goes (s t : State) (q : Nat) : Prop := ∃ x, (t.ring q).started = some x ∧ x.stage = .waiting ∧ t.cplQ = s.cplQ

/-! ### Frames -/

/-- t agrees with s in everything that e does not erase, host writes of the command aside. -/
def SameBut (e : State → State) (s t : State) : Prop := e { t with out := [] } = e { s with out := [] }

/-- No register field but those at these keys has changed. -/
def RegsBut (l : List Nat) (s t : State) : Prop :=
  ∀ (f : Fld) (i j : Nat), f.key i j ∉ l → t.rd f i j = s.rd f i j

/-- No signal point but those listed reads otherwise. -/
def PointsBut (l : List Nat) (s t : State) : Prop := ∀ p, p ∉ l → t.sp p = s.sp p

/-- The bytes of host memory that a command writes from address a on. -/
def hostBytes (a : Nat) (b : List Nat) : List (Nat × Nat) := b.mapIdx (fun i v => (a + i, v % 256))

/-- The commands that may write host memory (R53, R70): entries and records, the outputs of ring opcodes, the dump, and
the messages of MSI-X, which a doorbell or a register write can send too. -/
def writesHost : Instr → Bool
  | .completionWrite _ | .eventRecordWrite | .evtLost _ | .dumpDone _ _ => true
  | .timeRead _ | .regBatchRead _ | .signalReadBlock _ | .sieRead _ | .mapRead _ | .mtrSnapshot _ | .fltHistory _ => true
  | .msixModTimeExpiry _ | .msixUnmask _ | .cqDoorbell _ _ => true
  | .registerWrite _ _ _ | .regWrite _ | .regBatchWrite _ | .haltEnd _ _ | .deviceRestart _ => true
  | _ => false

/-- Every byte of host memory outside [a, a + n) is as it was. -/
def HostBut (a n : Nat) (s t : State) : Prop :=
  ∀ p, p < a ∨ a + n ≤ p → tgetD t.hostMem p 0 = tgetD s.hostMem p 0

/-- The 32-bit register at offset o is one field of no effect of its own and no special refusal, in a block that is
present and whose writes pass no bridge. -/
def PlainField (s : State) (o : Nat) (f : Fld) (i j : Nat) : Prop :=
  o % 4 = 0 ∧ 0x1000 ≤ o ∧ o < 0x150000 ∧ s.absentAt o = false ∧ bridgeOf o = none ∧ fldsAt o = [(f, i, j)] ∧
    f.addr i j = o ∧ f.lsb = 0 ∧ f.width ≤ 32 ∧ hookOf f = none ∧ f.roAt i = false ∧ deadField f i = false ∧
    trigField f = false ∧ sealedField f = false ∧
    [BRK.HALT, LEG.PAIR_COMMIT_ON, LEG.PAIR_COMMIT_OFF, MTR.CFG_SEAL, CLK.BAND_MODE, CLK.BAND_WIDTH,
      CLK.BAND_MOD_HZ].all (fun g => !f.is g) = true

/-- The 32-bit register at offset o is one field that no rule of its own refuses or replaces, in a block that is present; no
stopped bridge holds a write to it. -/
def PlainAt (s : State) (o : Nat) (f : Fld) (i j : Nat) : Prop :=
  o % 4 = 0 ∧ 0x1000 ≤ o ∧ o < 0x150000 ∧ s.absentAt o = false ∧ s.bridgeStops o = false ∧ fldsAt o = [(f, i, j)] ∧
    f.addr i j = o ∧ f.lsb = 0 ∧ f.width ≤ 32 ∧ f.roAt i = false ∧ deadField f i = false ∧
    trigField f = false ∧ sealedField f = false ∧
    [BRK.HALT, LEG.PAIR_COMMIT_ON, LEG.PAIR_COMMIT_OFF, MTR.CFG_SEAL, CLK.BAND_MODE, CLK.BAND_WIDTH,
      CLK.BAND_MOD_HZ].all (fun g => !f.is g) = true

/-- The key of the high-water mark that a write to offset o moves: that of the register bridge it passes. -/
def bridgeKeys (o : Nat) : List Nat := ((bridgeOf o).map (fun k => GLB.QSTAT_HWM.key 0 k)).toList

/-- One event record of this type has been posted. -/
def Posted (s t : State) (ty : Nat) : Prop := ∃ l lo, t.evq = s.evq ++ [⟨evWord ty l lo⟩]

end Sys2Proof.Machine
end

