-- ==== Sys2Proof/Certificates/Slice0/Obligations.lean ====
section
/-!
DEFINITION. The statements for the provers. Each docstring names the rules of spec/ that a statement formalises; a clause
that rests on a choice of the model names its log entry.
-/
section
open Sys2Proof Sys2Proof.Machine

/-! ### The queue of commands -/

/-- A step executes the command at the front of the queue over the queue's rest; with no command waiting, one CK_PWM
tick passes and the clocks alone move (the model's choice, log 2). -/
def Obligations.StepRunsFront : Prop :=
  (∀ (c : Instr) (s : State), step { s with pending := c :: s.pending } = exec c s) ∧
  (∀ s : State, s.pending = [] → ∃ t, step s = .next t ∧ t.now = s.now + 32 ∧
    SameBut (fun u => { u with now := 0, pw := 0, dt := 0 }) s t)

/-- The reset state meets the invariant of every run. -/
def Obligations.ResetMeetsInv : Prop := State.reset.Inv

/-- From every state that meets the invariant, a step answers a next state that meets it: no queue of commands that
name units of the device can stop it, and host memory stays in canonical form. -/
def Obligations.StepKeepsInv : Prop := ∀ s : State, s.Inv → ∃ t, step s = .next t ∧ t.Inv

/-- A step takes one command off the queue and adds none, and the variant and GLB.UNITS stay as they are (R441). -/
def Obligations.StepKeepsQueueAndUnits : Prop :=
  ∀ s t : State, step s = .next t → t.pending = s.pending.tail ∧ t.variant = s.variant ∧
    t.view GLB.UNITS 0 0 = s.view GLB.UNITS 0 0 ∧ ∀ b, t.has b = s.has b

/-- A command that names a unit the device has not faults, and every other command answers a next state; any number of
steps from a state that meets the invariant is safe. -/
def Obligations.OnlyUnknownUnitsFault : Prop :=
  (∀ (c : Instr) (s : State), if c.wf then ∃ t, exec c s = .next t else exec c s = .fault .noSuchUnit) ∧
  (∀ (n : Nat) (s : State), s.Inv → s.Safe n)

/-- Host memory changes only where the command's own host writes go, byte for byte the last one; every command but those
of writesHost leaves all of it as it was. -/
def Obligations.HostMemoryTakesLastWrite : Prop :=
  (∀ (m : Tbl Byte) (l : List (Nat × Nat)) (p : Nat),
    tgetD (placeBytes m l) p 0 = match (l.filter (fun e => e.1 = p)).getLast? with
      | some e => BitVec.ofNat 8 e.2
      | none => tgetD m p 0) ∧
  (∀ (c : Instr) (s t : State), writesHost c = false → exec c s = .next t → t.hostMem = s.hostMem)

/-! ### Rings (R58 to R81) -/

/-- RING_ENABLE: ENABLE changes from 0 to 1. DEVIDX, HOSTIDX and LOST are 0, the next SEQ of an event ring is 1, the
phase of a completion ring is 1, and the interrupt of both is armed (R59). RING_DISABLE of a submission ring discards
what was fetched and not started, keeps a started descriptor, and stops fetching (R60). SQ_DOORBELL and CQ_DOORBELL of
a good index set HOSTIDX; a completion ring gives back the slots the index frees and is armed again (R65, R72). Any
other index, and any other BAR2 write, is discarded with an ACCESS_ERROR record; an index out of range also sets
STAT.ERR, and a doorbell to a ring that is disabled leaves the record alone (R56, R65). -/
def Obligations.RingsAndDoorbells : Prop :=
  (∀ (q : Nat) (s : State), q < 64 → s.mainOn = true → s.rd RNG.CFG_ENABLE q = 0 →
    Completes (.ringEnable q) s (fun t => t.rd RNG.CFG_ENABLE q = 1 ∧ t.rd RNG.DEVIDX q = 0 ∧ t.rd RNG.HOSTIDX q = 0 ∧
      t.rd RNG.LOST q = 0 ∧ t.rd RNG.STAT_ERR q = 0 ∧ (t.ring q).phase = true ∧
      (s.rd RNG.CFG_CLASS q = 3 → t.rd RNG.SEQ q = 1) ∧
      (2 ≤ s.rd RNG.CFG_CLASS q → t.rd RNG.STAT_ARMED q = 1) ∧
      (t.ring q).base = 4096 * s.rd RNG.BASE q ∧ (t.ring q).size = s.rd RNG.CFG_SIZE q ∧
      (t.ring q).cls = s.rd RNG.CFG_CLASS q ∧ (t.ring q).started = (s.ring q).started ∧
      SameBut (fun u => { u with regs := [], rings := [] }) s t)) ∧
  (∀ (q : Nat) (s : State), q < 64 → s.mainOn = true → s.rd RNG.CFG_ENABLE q ≠ 0 →
    Completes (.ringDisable q) s (fun t => t.rd RNG.CFG_ENABLE q = 0 ∧ (t.ring q).prefetch = [] ∧ (t.ring q).reads = [] ∧
      (t.ring q).started = (s.ring q).started ∧ t.rd RNG.DEVIDX q = s.rd RNG.DEVIDX q ∧ t.cplQ = s.cplQ ∧
      RegsBut [RNG.CFG_ENABLE.key q 0] s t ∧ SameBut (fun u => { u with regs := [], rings := [] }) s t)) ∧
  (∀ (q v : Nat) (s : State), q < 32 → s.ready 7 = true → s.rd RNG.CFG_ENABLE q ≠ 0 → v < (s.ring q).entries →
    v < 65536 →
    Completes (.sqDoorbell q v) s (fun t => t.rd RNG.HOSTIDX q = v ∧ t.evq = s.evq ∧ (t.ring q).prefetch = (s.ring q).prefetch ∧
      (t.ring q).started = (s.ring q).started ∧ t.rd RNG.DEVIDX q = s.rd RNG.DEVIDX q ∧
      SameBut (fun u => { u with regs := [], rings := [] }) s t)) ∧
  (∀ (q v : Nat) (s : State), 32 ≤ q → q < 64 → s.ready 7 = true → s.rd RNG.CFG_ENABLE q ≠ 0 →
    v < (s.ring q).entries → s.freed q v ≤ (s.ring q).used → v < 65536 →
    Completes (.cqDoorbell q v) s (fun t => t.rd RNG.HOSTIDX q = v ∧ (t.ring q).used = (s.ring q).used - s.freed q v ∧
      t.evq = s.evq ∧ t.rd RNG.DEVIDX q = s.rd RNG.DEVIDX q)) ∧
  (∀ (q v : Nat) (s : State), q < 32 → s.ready 7 = true → s.rd RNG.CFG_ENABLE q ≠ 0 → v < 2 ^ 32 →
    (s.ring q).entries ≤ v →
    Completes (.sqDoorbell q v) s (fun t => t.rd RNG.HOSTIDX q = s.rd RNG.HOSTIDX q ∧
      t.rd RNG.STAT_ERR q = 2 ∧ Posted s t 0x05 ∧
      SameBut (fun u => { u with regs := [], evq := [] }) s t)) ∧
  (∀ (q v : Nat) (s : State), q < 32 → s.ready 7 = true → s.rd RNG.CFG_ENABLE q = 0 →
    Completes (.sqDoorbell q v) s (fun t =>
      t.evq = s.evq ++ [⟨evWord 0x05 [(1, 1, 2), (2, 1, 4), (3, 1, 1), (8, 8, 0x1000 * q)] s.dtLo⟩] ∧
      SameBut (fun u => { u with evq := [] }) s t)) ∧
  (∀ (off size : Nat) (s : State), off < 0x40000 → s.ready 7 = true → (size = 4 → off % 0x1000 ≠ 0) →
    Completes (.bar2InvalidAccess off size true) s (fun t =>
      t.evq = s.evq ++ [⟨evWord 0x05 [(1, 1, 2), (2, 1, size), (3, 1, 1), (8, 8, off)] s.dtLo⟩] ∧
      SameBut (fun u => { u with evq := [] }) s t)) ∧
  (∀ (off size : Nat) (s : State), off < 0x40000 →
    Completes (.bar2InvalidAccess off size false) s (fun t => SameBut id s t))

/-- DESCRIPTOR_FETCH_COMPLETE: the descriptors of the oldest read of a ring join its prefetch queue in slot order, each
cut from its 32 bytes as Table 3.8 lays it out, and a failed read stops fetching with STAT.ERR = FETCH and a RING_ERROR
record (R7, R62, R64, R67). -/
def Obligations.DescriptorReadsArrive : Prop :=
  (∀ (q at_ : Nat) (l : List Nat) (slot n t0 : Nat) (rest : List (Nat × Nat × Nat)) (s : State), q < 32 →
    (s.ring q).reads = (slot, n, t0) :: rest →
    Completes (.descriptorFetchComplete q (some l) at_) s (fun t =>
      (t.ring q).prefetch = (s.ring q).prefetch ++ (List.range n).map (fun i =>
        (({ opcode := leAt (l.drop (32 * i)) 0 1, flags := leAt (l.drop (32 * i)) 1 1, tag := leAt (l.drop (32 * i)) 2 2,
            seq := leAt (l.drop (32 * i)) 4 4, ptr := leAt (l.drop (32 * i)) 8 8, len := leAt (l.drop (32 * i)) 16 4,
            arg := leAt (l.drop (32 * i)) 20 4, inl := leAt (l.drop (32 * i)) 24 8 } : Desc), slot + i)) ∧
      (t.ring q).started = (s.ring q).started ∧ t.rd RNG.DEVIDX q = s.rd RNG.DEVIDX q ∧ t.cplQ = s.cplQ ∧
      t.evq = s.evq ∧ t.hostMem = s.hostMem)) ∧
  (∀ (q at_ : Nat) (r : Nat × Nat × Nat) (rest : List (Nat × Nat × Nat)) (s : State), q < 32 →
    (s.ring q).reads = r :: rest →
    Completes (.descriptorFetchComplete q none at_) s (fun t =>
      (t.ring q).stopped = true ∧ t.rd RNG.STAT_ERR q = 1 ∧ (t.ring q).prefetch = (s.ring q).prefetch ∧
      Posted s t 0x08 ∧ RegsBut [RNG.STAT_ERR.key q 0] s t ∧
      SameBut (fun u => { u with regs := [], rings := [], evq := [], now := 0, pw := 0, dt := 0 }) s t))

/-- DESCRIPTOR_DISPATCH: the descriptor that the dispatcher chooses starts: it leaves the prefetch queue and DEVIDX
passes its slot, and the round robin of its PRIO goes on from it (R68, R69). With SEQCHK = 1 its SEQ is checked
against the expected one, which the first descriptor after enable sets, and the next is expected from then on (R63).
With an accepted SEQ and no check of R51 failing it is started with its host address; one that fails another check
ends with that check's status, and one whose SEQ is not the expected one ends with BAD_FIELD. -/
def Obligations.DispatchStartsOneDescriptor : Prop :=
  (∀ (q slot : Nat) (d : Desc) (rest : List (Desc × Nat)) (s : State), s.nextRing = some q → q < 32 →
    (s.ring q).prefetch = (d, slot) :: rest → opcodeDefined d.opcode = true →
    ((s.ring q).seqchk = true → ∀ e, (s.ring q).expect = some e → e = d.seq) → s.firstCheck d false = none →
    Completes .descriptorDispatch s (fun t => t.rd RNG.DEVIDX q = (slot + 1) % (s.ring q).entries % 65536 ∧
      tgetD t.rr (s.ring q).prio 31 = q ∧
      (t.ring q).prefetch = rest ∧ t.cplQ = s.cplQ ∧
      ((s.ring q).seqchk = true → (t.ring q).expect = some ((d.seq + 1) % 2 ^ 32) ∧ t.rd RNG.SEQ q = (d.seq + 1) % 2 ^ 32) ∧
      ∃ x, (t.ring q).started = some x ∧ x.d = d ∧ x.addr = (s.ring q).base + 32 * slot ∧
        (readsPayload d.opcode = true → d.len ≠ 0 → x.stage = .payload) ∧ (d.len = 0 → x.stage = .ready []))) ∧
  (∀ (q slot st : Nat) (d : Desc) (rest : List (Desc × Nat)) (s : State), s.nextRing = some q → q < 32 →
    (s.ring q).prefetch = (d, slot) :: rest → opcodeDefined d.opcode = true →
    ((s.ring q).seqchk = true → ∀ e, (s.ring q).expect = some e → e = d.seq) → s.firstCheck d false = some st →
    Completes .descriptorDispatch s (fun t => t.rd RNG.DEVIDX q = (slot + 1) % (s.ring q).entries % 65536 ∧
      tgetD t.rr (s.ring q).prio 31 = q ∧ (t.ring q).prefetch = rest ∧ (t.ring q).started = none ∧
      ((s.ring q).seqchk = true → (t.ring q).expect = some ((d.seq + 1) % 2 ^ 32) ∧ t.rd RNG.SEQ q = (d.seq + 1) % 2 ^ 32) ∧
      ∃ lo, t.cplQ = s.cplQ ++ [{ q := q, cq := (s.ring q).cq, tag := d.tag, seq := d.seq, status := st, result := 0,
                                  irq := bit d.flags 0, dtLo := lo }])) ∧
  (∀ (q slot e : Nat) (d : Desc) (rest : List (Desc × Nat)) (s : State), s.nextRing = some q → q < 32 →
    (s.ring q).prefetch = (d, slot) :: rest → opcodeDefined d.opcode = true → (s.ring q).seqchk = true →
    (s.ring q).expect = some e → e ≠ d.seq →
    Completes .descriptorDispatch s (fun t => t.rd RNG.DEVIDX q = (slot + 1) % (s.ring q).entries % 65536 ∧
      tgetD t.rr (s.ring q).prio 31 = q ∧ (t.ring q).prefetch = rest ∧ (t.ring q).started = none ∧
      (t.ring q).expect = some ((d.seq + 1) % 2 ^ 32) ∧ t.rd RNG.SEQ q = (d.seq + 1) % 2 ^ 32 ∧
      ∃ lo, t.cplQ = s.cplQ ++ [{ q := q, cq := (s.ring q).cq, tag := d.tag, seq := d.seq, status := 0x11, result := 0,
                                  irq := bit d.flags 0, dtLo := lo }]))

/-- A payload that arrives makes its descriptor ready with its bytes; one that fails, or has had no completion within
50 ms, ends the command with TIMEOUT (R64). -/
def Obligations.PayloadsArriveOrFail : Prop :=
  (∀ (q at_ : Nat) (l : List Nat) (x : Started) (s : State), q < 32 → s.reading q = some x → x.d.len = l.length →
    l.all (· < 256) = true →
    Completes (.payloadReadComplete q (some l) at_) s (fun t =>
      (t.ring q).started = some { x with stage := .ready l, at_ := t.now } ∧
      RegsBut [GLB.QSTAT_HWM.key 0 80, GLB.QSTAT_STALL_CNT.key 0 80] s t ∧
      SameBut (fun u => { u with rings := [], regs := [], now := 0, pw := 0, dt := 0 }) s t)) ∧
  (∀ (q at_ : Nat) (x : Started) (s : State), q < 32 → s.reading q = some x →
    Ends (.payloadReadComplete q none at_) s q x 0x21 0 (fun t =>
      SameBut (fun u => { u with rings := [], cplQ := [], now := 0, pw := 0, dt := 0 }) s t)) ∧
  (∀ (q : Nat) (x : Started) (s : State), q < 32 → s.reading q = some x → (s.ring q).reads = [] →
    Ends (.payloadReadTimeout q) s q x 0x21 0 (fun t => x.at_ + 50 * msH ≤ t.now ∧
      SameBut (fun u => { u with rings := [], cplQ := [], now := 0, pw := 0, dt := 0 }) s t))

/-- COMPLETION_WRITE: a completion entry is 16 B, laid out as in Table 3.10: tag, status, ring and phase, SEQ, RESULT and
DT_LO, and one command writes it whole (R71). The oldest completion due to the ring goes to the slot of DEVIDX, which moves
on, with the phase turning over at the end of the ring (R73); it needs a credit of queue 82. Where the ring is armed and a
condition of R80 holds with it, the message of its vector follows the entry, unless the vector is masked; nothing else is
written. -/
def Obligations.CompletionEntryLayout : Prop :=
  ∀ (q : Nat) (c : Cpl) (rest : List Cpl) (s : State), 32 ≤ q → q < 64 → s.cplQ = c :: rest → c.cq = q - 32 →
    s.ringIs q 2 = true → (s.ring q).used < (s.ring q).entries → s.queueRoom 82 = true →
    Completes (.completionWrite q) s (fun t => t.cplQ = rest ∧ (t.ring q).used = (s.ring q).used + 1 ∧
      t.hostMem = placeBytes s.hostMem (hostBytes ((s.ring q).base + 16 * s.rd RNG.DEVIDX q)
          (leBytes c.tag 2 ++ [c.status % 256, c.q % 32 * 2 + b2n (s.ring q).phase] ++ leBytes c.seq 4 ++
            leBytes c.result 4 ++ leBytes c.dtLo 4) ++
        if s.rdB RNG.CFG_IRQEN q && s.rdB RNG.STAT_ARMED q && !s.rdB MSIX.CTRL (s.rd RNG.CFG_VECTOR q) &&
            (s.modRing q (fun r => { r with unsig := r.unsig ++ [s.now], irq := r.irq || c.irq })).irqDue q then
          hostBytes (4 * s.rd MSIX.ADDR (s.rd RNG.CFG_VECTOR q)) (leBytes (s.rd MSIX.DATA (s.rd RNG.CFG_VECTOR q)) 4)
        else []) ∧
      (if s.rd RNG.DEVIDX q + 1 = (s.ring q).entries then t.rd RNG.DEVIDX q = 0 ∧ (t.ring q).phase = !(s.ring q).phase
        else t.rd RNG.DEVIDX q = (s.rd RNG.DEVIDX q + 1) % 65536 ∧ (t.ring q).phase = (s.ring q).phase) ∧
      (s.rd RNG.STAT_ARMED q = 0 → HostBut ((s.ring q).base + 16 * s.rd RNG.DEVIDX q) 16 s t))

/-- EVENT_RECORD_WRITE: the oldest record goes to the lowest enabled event ring whose EVSEL has its group's bit, with the
ring's next SEQ; where there is none it is lost and counted (R76, R77). EVT_LOST: when room returns, the record of the
number lost is written first (R78). -/
def Obligations.EventRecordsAreRouted : Prop :=
  (∀ (q : Nat) (e : EvRec) (rest : List EvRec) (s : State), s.evq = e :: rest →
    (evGroup (e.body.toNat % 256)).bind s.evRing = some q → (s.ring q).lostNow = 0 → s.evRoom q 1 = true →
    s.queueRoom 82 = true → s.rd RNG.STAT_ARMED q = 0 →
    Completes .eventRecordWrite s (fun t => t.evq = rest ∧
      t.hostMem = placeBytes s.hostMem (hostBytes ((s.ring q).base + 32 * s.rd RNG.DEVIDX q)
        (leBytes (e.body.toNat + s.rd RNG.SEQ q <<< 32) 32)) ∧ (t.ring q).used = (s.ring q).used + 1)) ∧
  (∀ (e : EvRec) (rest : List EvRec) (s : State), s.evq = e :: rest →
    (evGroup (e.body.toNat % 256)).bind s.evRing = none →
    Completes .eventRecordWrite s (fun t => t.evq = rest ∧ t.hostMem = s.hostMem ∧
      (if e.body.toNat % 256 = 2 ∨ e.body.toNat % 256 = 3 then
        t.rd GLB.CLAMP_LOST = Nat.min (s.rd GLB.CLAMP_LOST + 1) 0xFFFFFFFF
      else t.rd GLB.EVT_UNROUTED = Nat.min (s.rd GLB.EVT_UNROUTED + 1) 0xFFFFFFFF))) ∧
  (∀ (q : Nat) (s : State), 32 ≤ q → q < 64 → s.ringIs q 3 = true → 0 < (s.ring q).lostNow →
    (s.ring q).lostNow < 2 ^ 32 → s.evRoom q 1 = true → s.queueRoom 82 = true → s.rd RNG.STAT_ARMED q = 0 →
    Completes (.evtLost q) s (fun t => (t.ring q).lostNow = 0 ∧ (t.ring q).used = (s.ring q).used + 1 ∧
      t.hostMem = placeBytes s.hostMem (hostBytes ((s.ring q).base + 32 * s.rd RNG.DEVIDX q)
        (leBytes ((evWord 0x07 [(8, 4, (s.ring q).lostNow)] s.dtLo).toNat + s.rd RNG.SEQ q <<< 32) 32))))

/-- MSIX_MOD_TIME_EXPIRY sends the message of an armed ring once its oldest unsignalled entry has waited MOD_TIME, and
disarms the ring; MSIX_UNMASK sends the message that waits (R80, R81). -/
def Obligations.InterruptMessages : Prop :=
  (∀ (q w : Nat) (l : List Nat) (s : State), 32 ≤ q → q < 64 → s.rd RNG.MOD_MOD_TIME q ≠ 0 → (s.ring q).unsig = w :: l →
    s.rd RNG.CFG_ENABLE q ≠ 0 → s.rd RNG.CFG_IRQEN q ≠ 0 → s.rd RNG.STAT_ARMED q ≠ 0 →
    s.rd MSIX.CTRL (s.rd RNG.CFG_VECTOR q) = 0 →
    Completes (.msixModTimeExpiry q) s (fun t => t.rd RNG.STAT_ARMED q = 0 ∧ (t.ring q).unsig = [] ∧
      w + s.rd RNG.MOD_MOD_TIME q * usH ≤ t.now ∧
      t.hostMem = placeBytes s.hostMem (hostBytes (4 * s.rd MSIX.ADDR (s.rd RNG.CFG_VECTOR q))
        (leBytes (s.rd MSIX.DATA (s.rd RNG.CFG_VECTOR q)) 4)))) ∧
  (∀ (v : Nat) (s : State), v < 64 → s.mainOn = true → (s.rd PBA.PBA).testBit v = true →
    Completes (.msixUnmask v) s (fun t => t.rd MSIX.CTRL v = 0 ∧ (t.rd PBA.PBA).testBit v = false ∧
      t.hostMem = placeBytes s.hostMem (hostBytes (4 * s.rd MSIX.ADDR v) (leBytes (s.rd MSIX.DATA v) 4))))

/-- QCLR_ALL: STALL_CNT and HWM of every queue, LOST of every ring and the counts of lost records are 0 afterwards, and
nothing but these and a key sequence has changed (R28, R61). -/
def Obligations.QclrClearsEveryCounter : Prop :=
  ∀ s : State, s.mainOn = true → Completes .qclrAll s (fun t => (∀ i, i < 91 → t.rd GLB.QSTAT_STALL_CNT 0 i = 0 ∧
    t.rd GLB.QSTAT_HWM 0 i = 0) ∧
    (∀ q, q < 64 → t.rd RNG.LOST q = 0) ∧ t.rd GLB.CLAMP_LOST = 0 ∧ t.rd GLB.EVT_UNROUTED = 0 ∧
    RegsBut ((List.range 91).flatMap (fun i => [GLB.QSTAT_STALL_CNT.key 0 i, GLB.QSTAT_HWM.key 0 i]) ++
      (List.range 64).map (fun q => RNG.LOST.key q 0) ++ [GLB.CLAMP_LOST.key 0 0, GLB.EVT_UNROUTED.key 0 0]) s t ∧
    SameBut (fun u => { u with regs := [], mm := { u.mm with key := 0 } }) s t)

/-! ### Register access (R11 to R16, R48 to R56) -/

/-- BAR0_INVALID_ACCESS, of another size or alignment, at any offset, and BAR0_RESERVED_WRITE, 32-bit or 64-bit,
change nothing but post ACCESS_ERROR (R15, R56); a write to GLB also breaks a key sequence (R45). A write to an absent
unit is ignored without a record (R2), one that meets a stopped bridge waits in it (R30, R108), and in KEEPALIVE no
access of BAR0 has any effect (R33). -/
def Obligations.BadAccessesAreDiscarded : Prop :=
  (∀ (wr : Bool) (o size : Nat) (s : State), s.mainOn = true → bar0Ok o size = false →
    Completes (.bar0InvalidAccess wr o size) s (fun t =>
      t.evq = s.evq ++ [⟨evWord 0x05 [(1, 1, 0), (2, 1, size), (3, 1, b2n wr), (8, 8, o)] s.dtLo⟩] ∧
      SameBut (fun u => { u with evq := [] }) s t)) ∧
  (∀ (o size v : Nat) (s : State), s.mainOn = true → bar0Ok o size = true → inWindow o = false → fldsAt o = [] →
    s.absentAt o = false → s.bridgeStops o = false →
    Completes (.bar0ReservedWrite o size v) s (fun t =>
      t.evq = s.evq ++ [⟨evWord 0x05 [(1, 1, 0), (2, 1, size), (3, 1, 1), (8, 8, o)] s.dtLo⟩] ∧
      t.mm.key = (if o < 0x1000 then 0 else s.mm.key) ∧
      SameBut (fun u => { u with evq := [], mm := { u.mm with key := 0 } }) s t)) ∧
  (∀ (o size v : Nat) (s : State), s.mainOn = true → bar0Ok o size = true → 0x1000 ≤ o → o < 0x150000 →
    s.absentAt o = true → s.bridgeStops o = false →
    (Completes (.bar0ReservedWrite o size v) s (fun t => SameBut id s t)) ∧
    Completes (.registerWrite o size v) s (fun t => SameBut id s t)) ∧
  (∀ (o size v k : Nat) (s : State), s.mainOn = true → bar0Ok o size = true → bridgeAt o = some k →
    s.bridgeHalted k = true →
    Completes (.registerWrite o size v) s (fun t => t.bridge = s.bridge ++ [⟨k, o, size, v % 2 ^ (8 * size)⟩] ∧
      RegsBut [GLB.QSTAT_HWM.key 0 k, GLB.QSTAT_STALL_CNT.key 0 k] s t ∧
      SameBut (fun u => { u with bridge := [], regs := [] }) s t)) ∧
  (∀ (o size v k : Nat) (s : State), s.mainOn = true → bar0Ok o size = true → fldsAt o = [] → bridgeAt o = some k →
    s.bridgeHalted k = true →
    Completes (.bar0ReservedWrite o size v) s (fun t => t.bridge = s.bridge ++ [⟨k, o, size, v % 2 ^ (8 * size)⟩] ∧
      RegsBut [GLB.QSTAT_HWM.key 0 k, GLB.QSTAT_STALL_CNT.key 0 k] s t ∧
      SameBut (fun u => { u with bridge := [], regs := [] }) s t)) ∧
  (∀ (wr : Bool) (o size v : Nat) (s : State), s.mainOn = false →
    (Completes (.bar0InvalidAccess wr o size) s (fun t => SameBut id s t)) ∧
    (Completes (.bar0ReservedWrite o size v) s (fun t => SameBut id s t)) ∧
    Completes (.registerWrite o size v) s (fun t => SameBut id s t))

/-- REGISTER_WRITE: a BAR0 write of a register with one RW field stores what the range check makes of the value, and posts
a CLAMP record where that is not what was asked (R11, R48, R49). A write to an RWL field in a mode that admits it does the
same; in another mode one that asks another value than the present one leaves the field and posts a MODE_LOCK record, and one
that asks the present value does nothing (R11, R12). A 1 written to a bit of a W1C field clears it and a 0 leaves it. A write
to a WO field whose value its check takes performs the action of the field with that value and nothing else. Writes to a
32-bit read-only register change nothing. -/
def Obligations.RegisterWritesAreChecked : Prop :=
  (∀ (o v : Nat) (f : Fld) (i j : Nat) (s : State), s.mainOn = true → PlainAt s o f i j → hookOf f = none →
    (f.acc = .rw ∨ ∃ m, f.acc = .rwl m ∧ s.modeAdmits m = true) → v < 2 ^ f.width →
    Completes (.registerWrite o 4 v) s (fun t =>
      t.rd f i j = f.chk.apply i j f.width (s.rd f i j) v % 2 ^ f.width ∧ RegsBut (f.key i j :: bridgeKeys o) s t ∧
      (f.chk.apply i j f.width (s.rd f i j) v = v → t.evq = s.evq) ∧
      (f.chk.apply i j f.width (s.rd f i j) v ≠ v → Posted s t 0x02) ∧
      SameBut (fun u => { u with regs := [], evq := [] }) s t)) ∧
  (∀ (o v : Nat) (f : Fld) (i j : Nat) (m : ModeSet) (s : State), s.mainOn = true → PlainAt s o f i j → f.acc = .rwl m →
    s.modeAdmits m = false → v < 2 ^ f.width → v ≠ s.rd f i j →
    Completes (.registerWrite o 4 v) s (fun t =>
      t.evq = s.evq ++ [⟨evWord 0x03 [(2, 2, f.lsb), (8, 4, o), (16, 4, v), (20, 4, s.rd f i j), (26, 1, 0xFF)] s.dtLo⟩] ∧
      RegsBut (bridgeKeys o) s t ∧ SameBut (fun u => { u with regs := [], evq := [] }) s t)) ∧
  (∀ (o : Nat) (f : Fld) (i j : Nat) (m : ModeSet) (s : State), s.mainOn = true → PlainAt s o f i j → f.acc = .rwl m →
    s.modeAdmits m = false → hookOf f = none → s.rd f i j < 2 ^ f.width →
    f.chk.apply i j f.width (s.rd f i j) (s.rd f i j) = s.rd f i j →
    Completes (.registerWrite o 4 (s.rd f i j)) s (fun t =>
      RegsBut (bridgeKeys o) s t ∧ SameBut (fun u => { u with regs := [] }) s t)) ∧
  (∀ (o v : Nat) (f : Fld) (i j : Nat) (s : State), s.mainOn = true → PlainAt s o f i j → f.acc = .w1c →
    hookOf f = none → v < 2 ^ f.width → s.rd f i j < 2 ^ f.width →
    Completes (.registerWrite o 4 v) s (fun t => (∀ b, bit (t.rd f i j) b = (bit (s.rd f i j) b && !bit v b)) ∧
      RegsBut (f.key i j :: bridgeKeys o) s t ∧ SameBut (fun u => { u with regs := [] }) s t)) ∧
  (∀ (o v : Nat) (f : Fld) (i j : Nat) (h : Hook) (s : State), s.mainOn = true → PlainAt s o f i j → f.acc = .wo →
    hookOf f = some h → woModes f = none → v < 2 ^ f.width → f.chk.apply i j f.width 0 v = v →
    ∃ g, exec (.registerWrite o 4 v) s = s.runHost (fun u =>
      h { w := .bar0, i := i, j := j, old := 0, new := v, sib := g } (match bridgeOf o with
        | some k => u.queueHolds k 1
        | none => u))) ∧
  (∀ (o v : Nat) (f : Fld) (i j : Nat) (s : State), s.mainOn = true → PlainAt s o f i j → f.acc = .ro ∨ f.acc = .rov →
    Completes (.registerWrite o 4 v) s (fun t =>
      RegsBut (bridgeKeys o) s t ∧ SameBut (fun u => { u with regs := [] }) s t))

/-- A command that reads registers has no side effect on any of them: REG_READ and REG_BATCH_READ, of any registers in
any state, change nothing but the rings, the host buffer and the records of a read that is refused (R13). -/
def Obligations.RegisterReadsHaveNoEffect : Prop :=
  (∀ (q : Nat) (x : Started) (b : List Nat) (s : State), Ready s q 0x13 x b →
    Completes (.regRead q) s (fun t => t.regs = s.regs ∧ (t.ring q).started = none ∧
      SameBut (fun u => { u with rings := [], cplQ := [], evq := [] }) s t)) ∧
  (∀ (q : Nat) (x : Started) (b : List Nat) (s : State), Ready s q 0x11 x b →
    Completes (.regBatchRead q) s (fun t => t.regs = s.regs ∧ (t.ring q).started = none ∧
      SameBut (fun u => { u with rings := [], cplQ := [], evq := [], hostMem := [] }) s t))

/-! ### Ring commands: the global and configuration opcodes (R82 to R84) -/

/-- NOP, TIME_READ, an undefined opcode, REG_READ and DEVICE_RESTART, whose restart begins once its completion is written
(R51, R82 to R84). -/
def Obligations.GlobalOpcodes : Prop :=
  (∀ (q : Nat) (x : Started) (b : List Nat) (s : State), Ready s q 0x00 x b →
    Ends (.nop q) s q x 0x00 0 (fun t => SameBut (fun u => { u with rings := [], cplQ := [] }) s t)) ∧
  (∀ (q : Nat) (x : Started) (b : List Nat) (s : State), Ready s q 0x03 x b →
    Ends (.timeRead q) s q x 0x00 s.dtLo (fun t =>
      t.hostMem = placeBytes s.hostMem (hostBytes x.d.ptr (leBytes s.dtNs 8)) ∧ HostBut x.d.ptr 8 s t ∧
      SameBut (fun u => { u with rings := [], cplQ := [], hostMem := [] }) s t)) ∧
  (∀ (q : Nat) (x : Started) (s : State), q < 32 → (s.ring q).started = some x → opcodeDefined x.d.opcode = false →
    Ends (.undefinedOpcode q) s q x 0x10 0 (fun t => SameBut (fun u => { u with rings := [], cplQ := [] }) s t)) ∧
  (∀ (q : Nat) (x : Started) (b : List Nat) (s : State), Ready s q 0x13 x b → bits x.d.arg 0 24 ≤ 0x14FFFF →
    bits x.d.arg 0 24 % 4 = 0 →
    Ends (.regRead q) s q x 0x00 (s.viewDword (bits x.d.arg 0 24)) (fun t =>
      SameBut (fun u => { u with rings := [], cplQ := [] }) s t)) ∧
  (∀ (q : Nat) (x : Started) (b : List Nat) (s : State), Ready s q 0x02 x b → s.rd FLT.STAT_FATAL_HOLD = 0 →
    s.cplQ = [] → s.ringIs (32 + (s.ring q).cq) 2 = true → (s.ring q).cq < 32 →
    (s.ring (32 + (s.ring q).cq)).used < (s.ring (32 + (s.ring q).cq)).entries → s.queueRoom 82 = true →
    Completes (.deviceRestart q) s (fun t => t.rd FLT.STAT_FATAL_HOLD = 1 ∧ t.flt.cmdStop = true ∧ t.cplQ = [] ∧
      (∃ dt, t.flt.dumpSrc = some (0xFFFF, 0, dt)) ∧ (t.ring q).started = none)) ∧
  (∀ (q : Nat) (x : Started) (b : List Nat) (s : State), Ready s q 0x02 x b → s.rd FLT.STAT_FATAL_HOLD = 0 →
    s.cplQ = [] → bit x.d.flags 2 = true →
    Completes (.deviceRestart q) s (fun t => t.rd FLT.STAT_FATAL_HOLD = 1 ∧ t.flt.cmdStop = true ∧ t.cplQ = [] ∧
      (∃ dt, t.flt.dumpSrc = some (0xFFFF, 0, dt)) ∧ (t.ring q).started = none)) ∧
  (∀ (q : Nat) (x : Started) (b : List Nat) (s : State), Ready s q 0x02 x b → s.rd FLT.STAT_FATAL_HOLD = 0 →
    s.ringIs (32 + (s.ring q).cq) 2 = false → bit x.d.flags 2 = false →
    Ends (.deviceRestart q) s q x 0x00 0 (fun t => t.rd FLT.STAT_FATAL_HOLD = 0 ∧ t.flt.cmdStop = true ∧
      t.flt.restartQ = some q)) ∧
  (∀ (q : Nat) (c : Cpl) (s : State), 32 ≤ q → q < 64 → s.cplQ = [c] → c.cq = q - 32 → s.ringIs q 2 = true →
    (s.ring q).used < (s.ring q).entries → s.queueRoom 82 = true → s.flt.restartQ = some c.q → s.rd FLT.STAT_FATAL_HOLD = 0 →
    Completes (.completionWrite q) s (fun t => t.cplQ = [] ∧ t.rd FLT.STAT_FATAL_HOLD = 1 ∧ t.flt.restartQ = none ∧
      ∃ dt, t.flt.dumpSrc = some (0xFFFF, 0, dt)))

/-- The batches: REG_BATCH_WRITE, REG_BATCH_READ and REG_WRITE end with what their entries come to, entry by entry in
payload order. A read batch writes the value of each register that it names into its entry of the buffer; a write batch
stores in each register what its range check makes of the value, the last of several for one register staying, with status
CLAMPED where a value was out of range; an entry with an offset in no register is skipped and ends the batch with BAD_FIELD.
RESULT of a batch counts the entries that were good (R49, R84). -/
def Obligations.RegisterBatches : Prop :=
  (∀ (q : Nat) (x : Started) (b : List Nat) (s : State), Ready s q 0x11 x b →
    (∀ e, e ∈ batchOf b → e.2.1 ≤ 0x14FFFF ∧ e.2.1 % e.2.2.1 = 0 ∧ (e.2.2.1 = 4 ∨ e.2.2.1 = 8) ∧ e.2.2.2.1 = 0) →
    Ends (.regBatchRead q) s q x 0x00 (batchOf b).length (fun t =>
      t.hostMem = placeBytes s.hostMem ((batchOf b).flatMap (fun e =>
        hostBytes (x.d.ptr + 16 * e.1 + 8) (leBytes (s.viewReg e.2.1 e.2.2.1) 8))) ∧
      SameBut (fun u => { u with rings := [], cplQ := [], hostMem := [] }) s t)) ∧
  (∀ (q : Nat) (x : Started) (b : List Nat) (s : State), Ready s q 0x10 x b → batchOf b ≠ [] →
    (∀ e, e ∈ batchOf b → 0x14FFFF < e.2.1 ∧ e.2.1 < 0x400000) →
    Ends (.regBatchWrite q) s q x 0x11 0 (fun t => t.evq.length = s.evq.length + (batchOf b).length ∧
      SameBut (fun u => { u with rings := [], cplQ := [], evq := [] }) s t)) ∧
  (∀ (q : Nat) (x : Started) (b : List Nat) (fs : List (Fld × Nat × Nat)) (s : State), Ready s q 0x10 x b →
    fs.length = (batchOf b).length →
    (∀ e f, (e, f) ∈ (batchOf b).zip fs → e.2.2.1 = 4 ∧ e.2.2.2.1 = 0 ∧ PlainField s e.2.1 f.1 f.2.1 f.2.2 ∧
      f.1.acc = .rw ∧ e.2.2.2.2 < 2 ^ f.1.width ∧
      ∀ o, f.1.chk.apply f.2.1 f.2.2 f.1.width o e.2.2.2.2 = f.1.chk.apply f.2.1 f.2.2 f.1.width 0 e.2.2.2.2) →
    Ends (.regBatchWrite q) s q x
      (if ((batchOf b).zip fs).all (fun p => p.2.1.chk.apply p.2.2.1 p.2.2.2 p.2.1.width 0 p.1.2.2.2.2 = p.1.2.2.2.2)
        then 0 else 1) (batchOf b).length
      (fun t => (∀ e f, (((batchOf b).zip fs).filter (fun p => p.2.1.key p.2.2.1 p.2.2.2 = f.1.key f.2.1 f.2.2)).getLast? =
            some (e, f) →
          t.rd f.1 f.2.1 f.2.2 = f.1.chk.apply f.2.1 f.2.2 f.1.width 0 e.2.2.2.2 % 2 ^ f.1.width) ∧
        RegsBut (fs.map (fun f => f.1.key f.2.1 f.2.2)) s t ∧
        SameBut (fun u => { u with rings := [], cplQ := [], evq := [], regs := [] }) s t)) ∧
  (∀ (q : Nat) (x : Started) (b : List Nat) (f : Fld) (i j : Nat) (s : State), Ready s q 0x10 x b → b.length = 16 →
    leAt b 4 1 = 4 → leAt b 5 3 = 0 → PlainField s (leAt b 0 4) f i j → f.acc = .rw → leAt b 8 8 < 2 ^ f.width →
    Ends (.regBatchWrite q) s q x (if f.chk.apply i j f.width (s.rd f i j) (leAt b 8 8) = leAt b 8 8 then 0 else 1) 1
      (fun t => t.rd f i j = f.chk.apply i j f.width (s.rd f i j) (leAt b 8 8) % 2 ^ f.width ∧ RegsBut [f.key i j] s t ∧
        SameBut (fun u => { u with rings := [], cplQ := [], evq := [], regs := [] }) s t)) ∧
  (∀ (q : Nat) (x : Started) (b : List Nat) (f : Fld) (i j : Nat) (s : State), Ready s q 0x12 x b →
    bit x.d.arg 31 = false → PlainField s (bits x.d.arg 0 24) f i j → f.acc = .rw → x.d.inl < 2 ^ f.width →
    Ends (.regWrite q) s q x (if f.chk.apply i j f.width (s.rd f i j) x.d.inl = x.d.inl then 0 else 1) 0
      (fun t => t.rd f i j = f.chk.apply i j f.width (s.rd f i j) x.d.inl % 2 ^ f.width ∧ RegsBut [f.key i j] s t ∧
        SameBut (fun u => { u with rings := [], cplQ := [], evq := [], regs := [] }) s t)) ∧
  (∀ (q : Nat) (x : Started) (b : List Nat) (s : State), Ready s q 0x12 x b → 0x14FFFF < bits x.d.arg 0 24 →
    bits x.d.arg 0 24 < 0x400000 →
    Ends (.regWrite q) s q x 0x11 0 (fun t => Posted s t 0x05 ∧
      SameBut (fun u => { u with rings := [], cplQ := [], evq := [] }) s t))

/-! ### Espalier: points, graphs, samples and tasks (R85, R181 to R213) -/

/-- Set-points, signal reads and mailboxes: SETPOINT_WRITE, SETPOINT_WRITE_SET, SIGNAL_READ, SIGNAL_READ_BLOCK,
SIGNAL_POINT_WRITE, MBOX_BIND, MBOX_CFG_WRITE and MAILBOX_UPDATE (R85, R87, R181, R183, R204, R207, R208, R211). -/
def Obligations.PointsAndMailboxes : Prop :=
  (∀ (q : Nat) (x : Started) (b : List Nat) (s : State), Ready s q 0x24 x b →
    Ends (.setpointWrite q) s q x 0x00 (s.firstUse (0x30000 + bits x.d.arg 0 14)) (fun t =>
      t.sp (0x30000 + bits x.d.arg 0 14) = bits x.d.inl 0 32 ∧ PointsBut [0x30000 + bits x.d.arg 0 14] s t ∧
      t.hostMem = s.hostMem)) ∧
  (∀ (q p v : Nat) (x : Started) (s : State), 0x30000 ≤ p → p < 0x34000 → v < 2 ^ 32 →
    Ready s q 0x28 x (leBytes p 4 ++ leBytes v 4) →
    Ends (.setpointWriteSet q) s q x 0x00 1 (fun t => t.sp p = v ∧ PointsBut [p] s t)) ∧
  (∀ (q : Nat) (x : Started) (b : List Nat) (s : State), Ready s q 0x25 x b →
    Ends (.signalRead q) s q x
      (match s.seqOf (bits x.d.arg 0 18) with
        | some n => if diff32 n (bits x.d.inl 0 32) < 0 then 0x03 else 0x00
        | none => 0x00)
      (s.sp (bits x.d.arg 0 18)) (fun t => SameBut (fun u => { u with rings := [], cplQ := [] }) s t)) ∧
  (∀ (q : Nat) (x : Started) (b : List Nat) (s : State), Ready s q 0x26 x b →
    bits x.d.arg 0 18 + x.d.len / 4 ≤ 0x40000 →
    Ends (.signalReadBlock q) s q x 0x00 0 (fun t =>
      t.hostMem = placeBytes s.hostMem ((List.range (x.d.len / 4)).flatMap (fun i =>
        hostBytes (x.d.ptr + 4 * i) (leBytes (s.sp (bits x.d.arg 0 18 + i)) 4))) ∧
      SameBut (fun u => { u with rings := [], cplQ := [], hostMem := [] }) s t)) ∧
  (∀ (p v : Nat) (s : State), p < 0x40000 → v < 2 ^ 32 → s.mainOn = true → s.bridgeHalted 78 = false →
    partOf p = .setpoint ∨ partOf p = .scratch →
    Completes (.signalPointWrite p v) s (fun t => t.sp p = v ∧ PointsBut [p] s t ∧ t.hostMem = s.hostMem)) ∧
  (∀ (p v : Nat) (s : State), s.mainOn = true → s.bridgeHalted 78 = false →
    partOf p = .sensor ∨ partOf p = .state ∨ partOf p = .output →
    Completes (.signalPointWrite p v) s (fun t =>
      t.evq = s.evq ++ [⟨evWord 0x05 [(1, 1, 0), (2, 1, 4), (3, 1, 1), (8, 8, 0x400000 + 4 * p)] s.dtLo⟩] ∧
      SameBut (fun u => { u with evq := [] }) s t)) ∧
  (∀ (q : Nat) (x : Started) (b : List Nat) (s : State), Ready s q 0x27 x b → bindable (bits x.d.inl 0 24) = true →
    bit x.d.inl 24 = true →
    Ends (.mboxBind q) s q x 0x00 ((s.seqOf (bits x.d.inl 0 24)).getD 0) (fun t =>
      t.rd ESP.MBOX_CFG_SP 0 (bits x.d.arg 0 6) = bits x.d.inl 0 24 ∧ t.rd ESP.MBOX_CFG_EN 0 (bits x.d.arg 0 6) = 1 ∧
      t.rd ESP.MBOX_VALUE 0 (bits x.d.arg 0 6) = s.sp (bits x.d.inl 0 24) % 2 ^ 32)) ∧
  (∀ (q : Nat) (x : Started) (b : List Nat) (s : State), Ready s q 0x27 x b → bindable (bits x.d.inl 0 24) = true →
    bit x.d.inl 24 = false →
    Ends (.mboxBind q) s q x 0x00 ((s.seqOf (bits x.d.inl 0 24)).getD 0) (fun t =>
      t.rd ESP.MBOX_CFG_SP 0 (bits x.d.arg 0 6) = bits x.d.inl 0 24 ∧ t.rd ESP.MBOX_CFG_EN 0 (bits x.d.arg 0 6) = 0 ∧
      t.rd ESP.MBOX_VALUE 0 (bits x.d.arg 0 6) = 0 ∧ t.rd ESP.MBOX_SEQ 0 (bits x.d.arg 0 6) = 0)) ∧
  (∀ (q : Nat) (x : Started) (b : List Nat) (s : State), Ready s q 0x27 x b → bindable (bits x.d.inl 0 24) = false →
    s.rd ESP.MBOX_CFG_SP 0 (bits x.d.arg 0 6) ≠ bits x.d.inl 0 24 →
    Ends (.mboxBind q) s q x 0x01 ((s.seqOf (s.rd ESP.MBOX_CFG_SP 0 (bits x.d.arg 0 6))).getD 0) (fun t =>
      t.rd ESP.MBOX_CFG_SP 0 (bits x.d.arg 0 6) = s.rd ESP.MBOX_CFG_SP 0 (bits x.d.arg 0 6) % 2 ^ 18)) ∧
  (∀ (m v : Nat) (s : State), m < 64 → s.mainOn = true → s.bridgeHalted 78 = false →
    mboxPoint (bits v 0 18) = true → bit v 31 = true →
    v < 2 ^ 32 →
    Completes (.mboxCfgWrite m v) s (fun t => t.rd ESP.MBOX_CFG_SP 0 m = bits v 0 18 ∧ t.rd ESP.MBOX_CFG_EN 0 m = 1 ∧
      t.rd ESP.MBOX_VALUE 0 m = s.sp (bits v 0 18) % 2 ^ 32)) ∧
  (∀ (u : MboxUpd) (rest : List MboxUpd) (s : State), s.esp.mboxQ = u :: rest → s.rd ESP.MBOX_CFG_EN 0 u.box ≠ 0 →
    s.rd ESP.MBOX_CFG_SP 0 u.box = u.point →
    Completes .mailboxUpdate s (fun t => t.rd ESP.MBOX_VALUE 0 u.box = u.value % 2 ^ 32 ∧
      t.rd ESP.MBOX_SEQ 0 u.box = u.seq % 2 ^ 32 ∧ t.esp.mboxQ = rest ++ s.esp.mboxHold.take 1 ∧
      t.esp.mboxHold = s.esp.mboxHold.drop 1 ∧
      RegsBut [ESP.MBOX_VALUE.key 0 u.box, ESP.MBOX_SEQ.key 0 u.box] s t)) ∧
  (∀ (u : MboxUpd) (rest : List MboxUpd) (s : State), s.esp.mboxQ = u :: rest →
    s.rd ESP.MBOX_CFG_EN 0 u.box = 0 ∨ s.rd ESP.MBOX_CFG_SP 0 u.box ≠ u.point →
    Completes .mailboxUpdate s (fun t => t.esp.mboxQ = rest ++ s.esp.mboxHold.take 1 ∧ t.regs = s.regs))

/-- GRAPH_LOAD begins by stopping the running graph, with STAT.LOADING at 1; at its end an image that passes the
checks runs, and one that fails leaves no graph and names the check. GRAPH_UNLOAD leaves no graph. Both opcodes are
refused outside STANDBY, SERVICE and FACTORY, and wait while the load of another ring is in progress (the model's
choice, log 136). A load or unload takes the fabric commands of other rings that stand in queue 80 out of it (R29);
such a command ends NOT_READY (the model's choice, log 145). NODE_RESET is held until the next opening of its cadence,
where the states of its node go back to their initial values (R206, R210 to R212). -/
def Obligations.GraphCommands : Prop :=
  (∀ (q : Nat) (x : Started) (b : List Nat) (s : State), Ready s q 0x20 x b → s.esp.loading = none →
    s.modeAdmits .ssf = true →
    Completes (.graphLoad q) s (fun t => t.esp.graph = none ∧ t.esp.loading = some q ∧ t.rd ESP.STAT_LOADING = 1 ∧
      t.rd ESP.STAT_GRAPH = 0 ∧ t.ready 45 = false ∧ t.esp.tasks = [] ∧ t.cadTrigs = [] ∧ t.cmpQ = [] ∧
      (∀ m, m < 64 → t.rd ESP.MBOX_CFG_EN 0 m = 0) ∧ (∀ p, 0x5000 ≤ p → p < 0x20000 → t.sp p = 0) ∧
      (∀ p, 0x34000 ≤ p → p < 0x38000 → t.sp p = 0) ∧ (t.ring q).started = some x ∧
      (∀ p, p ∈ s.fabricHeld → p ≠ q → (t.ring p).started = none) ∧ t.cplQ = s.cplQ ++ flushCpls s q ∧
      t.hostMem = s.hostMem)) ∧
  (∀ (q load : Nat) (g : Graph) (x : Started) (b : List Nat) (s : State), Ready s q 0x20 x b →
    s.esp.loading = some q → checkImage b x.d.len = .inr (g, load) →
    Ends (.graphLoad q) s q x 0x00 g.nodes.length (fun t => t.esp.graph = some g ∧ t.esp.loading = none ∧
      t.rd ESP.STAT_LOADING = 0 ∧ t.ready 45 = true ∧ t.rd ESP.GRAPH_ID = g.id % 2 ^ 32 ∧ t.rd ESP.STAT_GRAPH = 1 ∧
      t.evq.getLast? = some ⟨evWord 0x20 [(8, 4, g.id), (12, 2, g.nodes.length), (14, 1, g.cads.length), (16, 4, load)]
        s.dtLo⟩)) ∧
  (∀ (q code off : Nat) (x : Started) (b : List Nat) (s : State), Ready s q 0x20 x b →
    s.esp.loading = some q → checkImage b x.d.len = .inl (code, off) →
    Ends (.graphLoad q) s q x 0x11 (code * 2 ^ 24 + off) (fun t => t.esp.graph = s.esp.graph ∧ t.esp.loading = none ∧
      t.rd ESP.STAT_LOADING = 0 ∧ t.ready 45 = s.ready 45 ∧ Posted s t 0x21 ∧ t.pts = s.pts)) ∧
  (∀ (q : Nat) (x : Started) (b : List Nat) (s : State), Ready s q 0x20 x b → s.esp.loading = none →
    s.modeAdmits .ssf = false →
    Ends (.graphLoad q) s q x 0x14 0 (fun t => SameBut (fun u => { u with rings := [], cplQ := [] }) s t)) ∧
  (∀ (q p : Nat) (x : Started) (b : List Nat) (s : State), Ready s q 0x20 x b → s.esp.loading = some p → p ≠ q →
    Completes (.graphLoad q) s (fun t => SameBut id s t)) ∧
  (∀ (q : Nat) (x : Started) (b : List Nat) (s : State), Ready s q 0x21 x b → s.esp.loading = none →
    s.modeAdmits .ssf = true →
    Completes (.graphUnload q) s (fun t => (t.ring q).started = none ∧
      (∃ lo, t.cplQ = s.cplQ ++ flushCpls s q ++ cplAtEnd s q x 0x00 0 lo) ∧ t.esp.graph = none ∧
        t.esp.tasks = [] ∧ t.ready 45 = false ∧
      t.rd ESP.STAT_GRAPH = 0 ∧
      PointsBut ([0x42A0, 0x42A2, 0x42A3] ++ (s.phgLegs.map (fun p => 0x4102 + 4 * p.1))) s t ∧ t.hostMem = s.hostMem)) ∧
  (∀ (q : Nat) (x : Started) (b : List Nat) (s : State), Ready s q 0x21 x b → s.esp.loading = none →
    s.modeAdmits .ssf = false →
    Ends (.graphUnload q) s q x 0x14 0 (fun t => SameBut (fun u => { u with rings := [], cplQ := [] }) s t)) ∧
  (∀ (q p : Nat) (x : Started) (b : List Nat) (s : State), Ready s q 0x21 x b → s.esp.loading = some p →
    Completes (.graphUnload q) s (fun t => SameBut id s t)) ∧
  (∀ (q : Nat) (n : NodeCfg) (x : Started) (b : List Nat) (s : State), Ready s q 0x29 x b →
    s.nodes[bits x.d.arg 0 12]? = some n →
    Ends (.nodeReset q) s q x 0x00 ((s.cadSt n.cad).num + 1) (fun t => (t.nodeSt (bits x.d.arg 0 12)).reset = true ∧
      t.pts = s.pts ∧ t.regs = s.regs ∧ t.hostMem = s.hostMem)) ∧
  (∀ (q : Nat) (x : Started) (b : List Nat) (s : State), Ready s q 0x29 x b → s.nodes[bits x.d.arg 0 12]? = none →
    Ends (.nodeReset q) s q x 0x11 0 (fun t => SameBut (fun u => { u with rings := [], cplQ := [] }) s t)) ∧
  (∀ (c t0 i : Nat) (rest : List (Nat × Nat)) (n : NodeCfg) (g : Graph) (cfg : CadCfg) (s : State), c < 64 →
    firstTrig s.cadTrigs = some ((c, t0), rest) → s.esp.graph = some g → g.cads[c]? = some cfg → s.espHalted = false →
    bit (s.rd ESP.CADEN) c = true → (s.cadSt c).trigs % cfg.div = 0 → g.nodes[i]? = some n → n.cad = c →
    (s.nodeSt i).reset = true → (∀ k, k ≠ i → (s.nodeSt k).reset = false) → 0x5000 ≤ n.stateBase →
    n.stateBase + n.nState ≤ 0x20000 →
    Completes .sampleOpen s (fun t => (t.nodeSt i).reset = false ∧
      ∀ j, j < n.nState → t.sp (n.stateBase + j) = s.initOf (n.stateBase + j) % 2 ^ 32))

/-- Coefficients: COEF_WRITE of a point that no node owns stores it; of a node's own it goes to the shadow bank and a
commit of its cadence waits; COEF_COMMIT and ESP_COEF_COMMIT commit what was touched, and COEF_COMMIT_TIMEOUT ends the
command after 100 ms with the commit left pending (R205, R211). -/
def Obligations.CoefficientCommits : Prop :=
  (∀ (q p v : Nat) (x : Started) (s : State), 0x20000 ≤ p → p < calBase → v < 2 ^ 32 →
    Ready s q 0x22 x (leBytes p 4 ++ leBytes v 4) → s.nodes.all (fun n => !n.owns p) = true →
    Ends (.coefWrite q) s q x 0x00 0 (fun t => t.sp p = v ∧ PointsBut [p] s t)) ∧
  (∀ (q p v i : Nat) (n : NodeCfg) (x : Started) (s : State), 0x20000 ≤ p → p < calBase → v < 2 ^ 32 →
    Ready s q 0x22 x (leBytes p 4 ++ leBytes v 4) → s.nodes[i]? = some n → n.owns p = true →
    Completes (.coefWrite q) s (fun t => Goes s t q ∧ PointsBut [] s t ∧ tgetD t.shadow p 0 = v ∧
      ∃ c, t.esp.commits = s.esp.commits ++ [c] ∧ c.ring = some q ∧ i ∈ c.nodes)) ∧
  (∀ (q : Nat) (x : Started) (b : List Nat) (s : State), Ready s q 0x23 x b →
    (∀ i n, i ∈ s.esp.touched → s.nodes[i]? = some n → bit x.d.inl n.cad = false) →
    Ends (.coefCommit q) s q x 0x00 0 (fun t => SameBut (fun u => { u with rings := [], cplQ := [] }) s t)) ∧
  (∀ (q i : Nat) (n : NodeCfg) (x : Started) (b : List Nat) (s : State), Ready s q 0x23 x b → i ∈ s.esp.touched →
    s.nodes[i]? = some n → bit x.d.inl n.cad = true →
    Completes (.coefCommit q) s (fun t => Goes s t q ∧
      ∃ c, t.esp.commits = s.esp.commits ++ [c] ∧ c.ring = some q ∧ i ∈ c.nodes ∧ c.at_ = s.now)) ∧
  (∀ (mask i : Nat) (n : NodeCfg) (s : State), s.mainOn = true → s.bridgeHalted 78 = false → i ∈ s.esp.touched →
    s.nodes[i]? = some n → bit mask n.cad = true →
    Completes (.espCoefCommit mask) s (fun t =>
      (∃ c, t.esp.commits = s.esp.commits ++ [c] ∧ c.ring = none ∧ i ∈ c.nodes) ∧
      SameBut (fun u => { u with esp := { u.esp with commits := [] } }) s t)) ∧
  (∀ (q : Nat) (c : CommitSt) (rest : List CommitSt) (x : Started) (s : State), q < 32 → (s.ring q).started = some x →
    s.esp.commits = c :: rest → c.ring = some q → (rest.all (fun k => k.ring ≠ some q)) = true →
    Ends (.coefCommitTimeout q) s q x 0x21 c.swapped (fun t => t.esp.commits = { c with ring := none } :: rest ∧
      c.at_ + 100 * msH ≤ t.now ∧ t.regs = s.regs ∧ t.pts = s.pts))

/-- Samples and tasks: SAMPLE_OPEN at a DIV-th trigger numbers a new sample; CADTRIG triggers the software cadences of its
mask; TASK_DISPATCH gives the first ready task a lane; TASK_COMPLETE of a PWO task commits its pair through the
compare queue, and that of a plain node writes its outputs; a task whose queue has no credit waits; PERIOD_REPORT_POST lands
a report; ESP_CNT_CLR clears the counters (R25, R106, R184, R188, R189, R198, R212). -/
def Obligations.SamplesAndTasks : Prop :=
  (∀ (c t0 : Nat) (rest : List (Nat × Nat)) (g : Graph) (cfg : CadCfg) (s : State), c < 64 →
    firstTrig s.cadTrigs = some ((c, t0), rest) →
    s.esp.graph = some g → g.cads[c]? = some cfg → s.espHalted = false → bit (s.rd ESP.CADEN) c = true →
    (s.cadSt c).trigs % cfg.div = 0 → (∀ k, (s.nodeSt k).reset = false) →
    Completes .sampleOpen s (fun t => (t.cadSt c).num = ((s.cadSt c).num + 1) % 2 ^ 32 ∧
      (t.cadSt c).trigs = (s.cadSt c).trigs + 1 ∧ (t.cadSt c).lastAt = some t0 ∧ t.now = Nat.max s.now t0 ∧
      t.sp (0x4000 + 4 * c) = ((s.cadSt c).num + 1) % 2 ^ 32)) ∧
  (∀ (c t0 : Nat) (rest : List (Nat × Nat)) (g : Graph) (cfg : CadCfg) (s : State),
    firstTrig s.cadTrigs = some ((c, t0), rest) → s.esp.graph = some g → g.cads[c]? = some cfg → s.espHalted = false →
    bit (s.rd ESP.CADEN) c = true → (s.cadSt c).trigs % cfg.div ≠ 0 →
    Completes .sampleOpen s (fun t => t.cadSt c = { s.cadSt c with trigs := (s.cadSt c).trigs + 1 } ∧ t.cadTrigs = rest ∧
      t.pts = s.pts ∧ t.regs = s.regs ∧ t.esp.tasks = s.esp.tasks)) ∧
  (∀ (mask : Nat) (g : Graph) (s : State), s.mainOn = true → s.bridgeHalted 78 = false → s.esp.graph = some g →
    Completes (.cadtrig mask) s (fun t =>
      t.cadTrigs = s.cadTrigs ++ (g.cads.zipIdx.filter (fun c => c.1.src = 7 && bit mask c.2)).map (fun c => (c.2, s.now)) ∧
      SameBut (fun u => { u with cadTrigs := [] }) s t)) ∧
  (∀ (k : TaskSt) (s : State), s.espHalted = false → s.nextTask = some k → s.laneEnds.length < 8 →
    Completes .taskDispatch s (fun t => t.esp.tasks = s.esp.tasks.map (fun x =>
        if x.node = k.node && x.num = k.num then { x with stage := .running s.now, dispDt := s.dtNs } else x) ∧
      SameBut (fun u => { u with esp := { u.esp with tasks := [] } }) s t)) ∧
  (∀ (k : TaskSt) (n : NodeCfg) (due : Nat) (s : State), s.espHalted = false → s.firstEnd = some (k, n, due) →
    n.type = 0x16 → s.taskBlocked n = false → fIsNaN (nClamp 0 fOne (k.ins.getD 0 0)) = false →
    (bits n.param 8 2 = 2 → fIsNaN (nClamp 0 fOne (k.ins.getD 1 0)) = false) →
    Completes .taskComplete s (fun t =>
      tgetD t.cmpQ (bits n.param 0 7 / 12) [] = tgetD s.cmpQ (bits n.param 0 7 / 12) [] ++
        [.pwo (bits n.param 0 7)
          (pwoPair (bits n.param 8 2) (k.env.getD 0 0) (nClamp 0 fOne (k.ins.getD 0 0)) (nClamp 0 fOne (k.ins.getD 1 0))).1
          (pwoPair (bits n.param 8 2) (k.env.getD 0 0) (nClamp 0 fOne (k.ins.getD 0 0))
            (nClamp 0 fOne (k.ins.getD 1 0))).2] ∧ t.now = Nat.max s.now due)) ∧
  (∀ (k : TaskSt) (n : NodeCfg) (due : Nat) (f : Firing) (e : Effect) (s : State), s.espHalted = false →
    s.firstEnd = some (k, n, due) → [1, 2, 4, 5, 6, 7, 8, 9, 10, 11, 12, 13, 14, 16].contains n.type = true →
    s.taskBlocked n = false → f = s.firingOf n k → e = { fired := nodePlain n.type f k.fresh false } →
    e.badValue n f = none → 0x34000 ≤ n.outBase → n.stateBase + e.fired.st.length ≤ 0x34000 →
    k.cad < 64 →
    Completes .taskComplete s (fun t => t.now = Nat.max s.now due ∧
      ∀ j v, e.fired.outs[j]? = some v → (s.to due).hostStands (n.outBase + j) = false →
        t.sp (n.outBase + j) = v % 2 ^ 32)) ∧
  (∀ (k : TaskSt) (n : NodeCfg) (due : Nat) (s : State), s.espHalted = false → s.firstEnd = some (k, n, due) →
    s.taskBlocked n = true →
    Completes .taskComplete s (fun t => t.esp.tasks = s.esp.tasks.map (fun x =>
        if x.node = k.node && x.num = k.num then { x with stage := .waiting (Nat.max s.now due) } else x) ∧
      t.cmpQ = s.cmpQ ∧ t.pts = s.pts)) ∧
  (∀ (r : PeriodReport) (rest : List PeriodReport) (s : State), s.reports = r :: rest → s.staleReport r = true →
    Completes .periodReportPost s (fun t => t.reports = rest ∧ SameBut (fun u => { u with reports := [] }) s t)) ∧
  (∀ (r : PeriodReport) (rest : List PeriodReport) (s : State), s.reports = r :: rest → s.staleReport r = false →
    Completes .periodReportPost s (fun t => t.reports = rest ∧ t.sp r.point = r.dur % 2 ^ 32 ∧
      t.sp (r.point + 1) = r.dtLo % 2 ^ 32 ∧ t.sp (r.point + 2) = r.num % 2 ^ 32 ∧
      PointsBut [r.point, r.point + 1, r.point + 2] s t)) ∧
  (∀ s : State, s.mainOn = true → s.bridgeHalted 78 = false →
    Completes .espCntClr s (fun t => t.rd ESP.NFLT_CNT = 0 ∧ t.rd ESP.TASK_STALL = 0 ∧ t.rd ESP.RATE_CNT = 0 ∧
    t.rd ESP.TASK_HWM = 0 ∧ SameBut (fun u => { u with regs := [] }) s t ∧
    RegsBut [ESP.NFLT_CNT.key 0 0, ESP.TASK_STALL.key 0 0, ESP.RATE_CNT.key 0 0, ESP.TASK_HWM.key 0 0] s t))

/-! ### Legs and bricks (R89 to R114) -/

/-- A host pair is staged and becomes the pending pair, or is held and counted as deferred while the reload guard is open,
the tick in which it opens included: LEG_COMMIT_GO, PAIR_COMMIT, LEG_COMMIT and LEG_COMMIT_SET; no other leg is touched. A
stopped register bridge holds the write (R96, R97, R98, R108, R113). -/
def Obligations.HostPairs : Prop :=
  (∀ (n on off : Nat) (s : State), n < 96 → on < 2 ^ 24 → off < 2 ^ 24 → (s.leg n).dcOwn = false → (s.leg n).guard = false →
    s.mainOn = true → s.bridgeHalted 77 = false → s.guardDue n = false →
    Completes (.pairCommit n on off) s (fun t => t.rd LEG.PENDING_ON n = on ∧ t.rd LEG.PENDING_OFF n = off ∧
      t.rd LEG.PENDING_VALID n = 1 ∧ t.rd LEG.CMP_ON n = on ∧ t.rd LEG.CMP_OFF n = off ∧
      (∀ m, m ≠ n → t.leg m = s.leg m) ∧ SameBut (fun u => { u with regs := [], legs := [] }) s t ∧
      RegsBut [LEG.CMP_ON.key n 0, LEG.CMP_OFF.key n 0, LEG.PENDING_ON.key n 0, LEG.PENDING_OFF.key n 0,
        LEG.PENDING_VALID.key n 0] s t)) ∧
  (∀ (n on off : Nat) (s : State), n < 96 → on < 2 ^ 24 → off < 2 ^ 24 → (s.leg n).dcOwn = false → (s.leg n).guard = true →
    s.mainOn = true → s.bridgeHalted 77 = false →
    Completes (.pairCommit n on off) s (fun t => (t.leg n).held = some ⟨on, off, .host⟩ ∧ t.rd LEG.STATUS_HELD n = 1 ∧
      t.rd LEG.STATUS_DEFERRED n = 1 ∧ t.rd LEG.DEFER_CNT n = Nat.min (s.rd LEG.DEFER_CNT n + 1) 0xFFFFFFFF ∧
      t.rd LEG.PENDING_ON n = s.rd LEG.PENDING_ON n ∧ t.rd LEG.PENDING_VALID n = s.rd LEG.PENDING_VALID n ∧
      (∀ m, m ≠ n → t.leg m = s.leg m) ∧ SameBut (fun u => { u with regs := [], legs := [] }) s t)) ∧
  (∀ (n on off : Nat) (s : State), n < 96 → on < 2 ^ 24 → off < 2 ^ 24 → (s.leg n).dcOwn = false → s.guardDue n = true →
    s.mainOn = true → s.bridgeHalted 77 = false →
    Completes (.pairCommit n on off) s (fun t => (t.leg n).guard = true ∧ (t.leg n).held = some ⟨on, off, .host⟩ ∧
      t.rd LEG.STATUS_HELD n = 1 ∧ t.rd LEG.STATUS_DEFERRED n = 1 ∧
      t.rd LEG.PENDING_ON n = s.rd LEG.PENDING_ON n ∧ t.rd LEG.PENDING_VALID n = s.rd LEG.PENDING_VALID n)) ∧
  (∀ (n on off : Nat) (s : State), n < 96 → on < 2 ^ 24 → off < 2 ^ 24 → s.mainOn = true → s.bridgeHalted 77 = true →
    Completes (.pairCommit n on off) s (fun t => t.legs = s.legs ∧
      t.bridge = s.bridge ++ [⟨77, LEG.PAIR_COMMIT_ON.addr n 0, 8, on + off <<< 32⟩] ∧
      RegsBut [GLB.QSTAT_HWM.key 0 77, GLB.QSTAT_STALL_CNT.key 0 77] s t)) ∧
  (∀ (n : Nat) (s : State), n < 96 → (s.leg n).dcOwn = false → (s.leg n).guard = false → s.mainOn = true →
    s.bridgeHalted 77 = false → s.guardDue n = false → s.rd LEG.CMP_ON n < 2 ^ 24 → s.rd LEG.CMP_OFF n < 2 ^ 24 →
    Completes (.legCommitGo n) s (fun t => t.rd LEG.PENDING_ON n = s.rd LEG.CMP_ON n ∧
      t.rd LEG.PENDING_OFF n = s.rd LEG.CMP_OFF n ∧ t.rd LEG.PENDING_VALID n = 1 ∧ (∀ m, m ≠ n → t.leg m = s.leg m))) ∧
  (∀ (q : Nat) (x : Started) (b : List Nat) (s : State), Ready s q 0x40 x b → bits x.d.arg 0 7 < 96 →
    (s.leg (bits x.d.arg 0 7)).dcOwn = false → s.bridgeHalted 77 = false → s.guardDue (bits x.d.arg 0 7) = false →
    Ends (.legCommit q) s q x (if (s.leg (bits x.d.arg 0 7)).guard then 0x02 else 0x00)
      (s.commitNum (bits x.d.arg 0 7) (s.leg (bits x.d.arg 0 7)).guard) (fun t =>
        if (s.leg (bits x.d.arg 0 7)).guard then
          (t.leg (bits x.d.arg 0 7)).held = some ⟨bits x.d.inl 0 24, bits x.d.inl 32 24, .host⟩
        else t.rd LEG.PENDING_ON (bits x.d.arg 0 7) = bits x.d.inl 0 24 ∧
          t.rd LEG.PENDING_OFF (bits x.d.arg 0 7) = bits x.d.inl 32 24 ∧ t.rd LEG.PENDING_VALID (bits x.d.arg 0 7) = 1)) ∧
  (∀ (q : Nat) (x : Started) (b : List Nat) (s : State), Ready s q 0x40 x b → s.bridgeHalted 77 = true →
    Completes (.legCommit q) s (fun t => SameBut id s t)) ∧
  (∀ (q n on off : Nat) (x : Started) (s : State), n < 96 → on < 2 ^ 24 → off < 2 ^ 24 →
    Ready s q 0x41 x (leBytes on 3 ++ [n] ++ leBytes off 3 ++ [0]) → (s.leg n).dcOwn = false → (s.leg n).guard = false →
    s.bridgeHalted 77 = false → s.guardDue n = false →
    Ends (.legCommitSet q) s q x 0x00 1 (fun t => t.rd LEG.PENDING_ON n = on ∧ t.rd LEG.PENDING_OFF n = off ∧
      t.rd LEG.PENDING_VALID n = 1 ∧ (∀ m, m ≠ n → t.leg m = s.leg m))) ∧
  (∀ (q n on off : Nat) (x : Started) (s : State), 96 ≤ n → n < 256 →
    Ready s q 0x41 x (leBytes on 3 ++ [n] ++ leBytes off 3 ++ [0]) → s.bridgeHalted 77 = false →
    Ends (.legCommitSet q) s q x 0x11 0 (fun t => t.legs = s.legs ∧ RegsBut [GLB.QSTAT_HWM.key 0 77] s t))

/-- COMPARE_QUEUE_ENTRY brings Espalier's pair to its leg, which a host pair of the same tick replaces, and a TARGET
or supervisor state of the control entries; LEG_CNT_CLR clears the leg's counters; OWNPER_SET sets the bit, and the
own counter of a DC_BOOST leg is armed (R21, R96, R98, R112, R114, R216). -/
def Obligations.LegCommands : Prop :=
  (∀ (k n p : Nat) (rest : List CmpEntry) (s : State), k < 8 → tgetD s.cmpQ k [] = .target n p :: rest → n < 96 →
    p < 4096 →
    Completes (.compareQueueEntry k) s (fun t => tgetD t.cmpQ k [] = rest ∧ t.rd LEG.PHASE n = p ∧
      RegsBut [LEG.PHASE.key n 0] s t ∧ t.legs = s.legs)) ∧
  (∀ (k n : Nat) (v : LegSup) (rest : List CmpEntry) (s : State), k < 8 → tgetD s.cmpQ k [] = .sup n v :: rest → n < 96 →
    Completes (.compareQueueEntry k) s (fun t => tgetD t.cmpQ k [] = rest ∧ (t.leg n).supNext = some v ∧
      t.regs = s.regs ∧ ∀ m, m ≠ n → t.leg m = s.leg m)) ∧
  (∀ (k n on off : Nat) (rest : List CmpEntry) (s : State), k < 8 → tgetD s.cmpQ k [] = .pwo n on off :: rest → n < 96 →
    (s.leg n).hostTick = some (s.pw / 32) → (s.leg n).guard = false → s.guardDue n = false → (s.leg n).dcOwn = false →
    Completes (.compareQueueEntry k) s (fun t => tgetD t.cmpQ k [] = rest ∧ t.regs = s.regs ∧ (t.leg n).seen = true)) ∧
  (∀ (k n on off : Nat) (rest : List CmpEntry) (s : State), k < 8 → tgetD s.cmpQ k [] = .pwo n on off :: rest → n < 96 →
    (s.leg n).hostTick ≠ some (s.pw / 32) → s.guardDue n = false →
    on < 2 ^ 24 → off < 2 ^ 24 → (s.leg n).dcOwn = false → (s.leg n).guard = false →
    Completes (.compareQueueEntry k) s (fun t => tgetD t.cmpQ k [] = rest ∧ t.rd LEG.PENDING_ON n = on ∧
      t.rd LEG.PENDING_OFF n = off ∧ t.rd LEG.PENDING_VALID n = 1 ∧ (t.leg n).pendSrc = .esp ∧ (t.leg n).seen = true ∧
      t.rd LEG.CMP_ON n = s.rd LEG.CMP_ON n)) ∧
  (∀ (n : Nat) (s : State), n < 96 → s.mainOn = true → s.bridgeHalted 77 = false →
    Completes (.legCntClr n) s (fun t => t.rd LEG.LATE_CNT n = 0 ∧ t.rd LEG.DEFER_CNT n = 0 ∧
      RegsBut [LEG.LATE_CNT.key n 0, LEG.DEFER_CNT.key n 0] s t ∧ SameBut (fun u => { u with regs := [] }) s t)) ∧
  (∀ (n : Nat) (s : State), n < 96 → s.mainOn = true → s.bridgeHalted 77 = false →
    Completes (.ownperSet n) s (fun t => t.rd LEG.CFG_OWNPER n = 1 ∧
      (s.rd LEG.CFG_OWNPER n = 0 → s.role n = 4 → (s.leg n).ownRun = false → (s.leg n).ownFirst = none →
        (s.leg n).ownWait = false →
        if s.rd BRK.STATUS_RUN (n / 12) = 0 then (t.leg n).ownFirst = some s.freeStart else (t.leg n).ownWait = true)))

/-- BRICK_ENABLE schedules the first START at least 64 t ahead on a tick edge; BRICK_DISABLE stops the counter and puts
every output of the brick in the OFF coding, Trellis signalling pulses aside (R93, R94, Table 4.4). -/
def Obligations.BrickEnableAndDisable : Prop :=
  (∀ (k : Nat) (s : State), k < 8 → s.mainOn = true → s.rd BRK.CTRL_ENABLE k = 0 → s.rd BRK.SYNC_SRC k = 0 →
    s.halts = [] →
    Completes (.brickEnable k) s (fun t => t.rd BRK.CTRL_ENABLE k = 1 ∧
      (∃ a, (t.brk k).first = some a ∧ s.pw + 2048 ≤ a ∧ a < s.pw + 2080 ∧ a % 32 = 0) ∧
      RegsBut [BRK.CTRL_ENABLE.key k 0] s t ∧ (∀ j, j ≠ k → t.brk j = s.brk j) ∧
      SameBut (fun u => { u with regs := [], brks := [], legs := [] }) s t)) ∧
  (∀ (k n : Nat) (d : Side) (s : State), k < 8 → s.mainOn = true → s.bridgeHalted 77 = false →
    s.rd BRK.CTRL_ENABLE k ≠ 0 → n / 12 = k → (s.leg n).sigPulse = none →
    (s.side n d).notch = 0 →
    Completes (.brickDisable k) s (fun t => t.rd BRK.CTRL_ENABLE k = 0 ∧ t.rd BRK.STATUS_RUN k = 0 ∧
      (t.side n d).on = false ∧ (t.brk k).guard = false ∧ (∀ j, j ≠ k → t.brk j = s.brk j)))

/-- Halts: HALT_ENTRY with HALT.MODE SAFE holds an enabled brick at once, and each brick posts HALT_ENTERED; HALT_END
takes the cause away, CONTACTOR_LEVEL_FALL turns a freezing brick to FINISH_SAFE, and RESUME acts in SERVICE and
FACTORY with no halt in force (R107, R108, R110, R111). -/
def Obligations.HaltsOfBricks : Prop :=
  (∀ (c : HaltCause) (at_ k : Nat) (s : State), c ∉ s.halts → k < 8 →
    s.rd BRK.CTRL_ENABLE k ≠ 0 ∨ s.rd BRK.STATUS_RUN k ≠ 0 →
    s.rd BRK.STATUS_HALTED k = 0 → c = .ckPwm ∨ s.rd BRK.HALT k = 0 →
    Completes (.haltEntry c at_) s (fun t => t.halts = s.halts ++ [c] ∧ t.rd BRK.STATUS_HALTED k = 1 ∧
      t.rd BRK.STATUS_HALT_APPLIED k = 0)) ∧
  (∀ (c : HaltCause) (at_ k : Nat) (s : State), c ∉ s.halts → k < 8 →
    Completes (.haltEntry c at_) s (fun t => ∃ lo,
      ⟨evWord 0x41 [(1, 1, k), (2, 1, t.rd BRK.STATUS_HALT_APPLIED k), (3, 1, c.code)] lo⟩ ∈ t.evq)) ∧
  (∀ (c : HaltCause) (at_ k : Nat) (s : State), s.halts = [c] → k < 8 → s.bridge = [] →
    s.mm.cur ≠ .prestart →
    Completes (.haltEnd c at_) s (fun t => t.halts = [] ∧ t.rd BRK.STATUS_FREEZING k = 0 ∧
      t.rd BRK.STATUS_HALTED k = s.rd BRK.STATUS_HALTED k)) ∧
  (∀ (k : Nat) (s : State), k < 8 → s.contactorsOpen = false → s.rd BRK.STATUS_FREEZING k ≠ 0 →
    Completes .contactorLevelFall s (fun t => t.rd BRK.STATUS_FREEZING k = 0 ∧ t.rd BRK.STATUS_HALT_APPLIED k = 1 ∧
      t.rd BRK.STATUS_FREEZE_DG k = 1 ∧ (t.brk k).finish = true)) ∧
  (∀ (k : Nat) (s : State), k < 8 → s.halts = [] → s.mm.cur = .service ∨ s.mm.cur = .factory →
    Completes (.resume k) s (fun t => t.rd BRK.STATUS_HALTED k = 0 ∧ RegsBut [BRK.STATUS_HALTED.key k 0] s t ∧
      SameBut (fun u => { u with regs := [] }) s t)) ∧
  (∀ (k : Nat) (s : State), k < 8 → s.halts ≠ [] → s.bridgeHalted 77 = false →
    Completes (.resume k) s (fun t => SameBut id s t))

/-- Reloads: BRICK_START counts the period and starts a brick on its first START, BRICK_MID passes the MID point,
RELOAD_GUARD_OPEN opens the guard and locks the pending pairs, and OWN_START counts an own period (R89, R97, R98, R100,
R101, R112). -/
def Obligations.ReloadsOfBricks : Prop :=
  (∀ (k : Nat) (s : State), k < 8 → HaltCause.ckPwm ∉ s.halts → s.rd BRK.STATUS_RUN k ≠ 0 →
    Completes (.brickStart k) s (fun t => t.rd BRK.PCOUNT k = (s.rd BRK.PCOUNT k + 1) % 2 ^ 64 ∧
      t.rd BRK.STATUS_RUN k ≠ 0 ∧ (t.brk k).guard = false)) ∧
  (∀ (k a : Nat) (s : State), k < 8 → HaltCause.ckPwm ∉ s.halts → s.rd BRK.STATUS_RUN k = 0 → (s.brk k).first = some a →
    Completes (.brickStart k) s (fun t => t.rd BRK.PCOUNT k = 0 ∧ t.rd BRK.STATUS_RUN k = 1 ∧ (t.brk k).start = a)) ∧
  (∀ (k : Nat) (s : State), k < 8 → s.rd BRK.STATUS_RUN k ≠ 0 → (s.brk k).midNext = true →
    Completes (.brickMid k) s (fun t => (t.brk k).midNext = false ∧
      t.pw = Nat.max s.pw (tickOf ((s.brk k).start + s.rd BRK.PERIOD_NOW k / 2)) ∧
      (s.rd BRK.STATUS_DBL_ACTIVE k ≠ 0 → (t.brk k).last = s.realOf ((s.brk k).start + s.rd BRK.PERIOD_NOW k / 2)))) ∧
  (∀ (k n : Nat) (s : State), k < 8 → s.rd BRK.STATUS_RUN k ≠ 0 → (s.brk k).guard = false → n / 12 = k →
    s.ownLeg n = false →
    Completes (.reloadGuardOpen false k) s (fun t => (t.brk k).guard = true ∧ (t.leg n).guard = true ∧
      (t.leg n).locked = (s.brickLoads k && s.rdB LEG.PENDING_VALID n))) ∧
  (∀ (n : Nat) (s : State), n < 96 → (s.leg n).ownRun = true → (s.leg n).guard = false →
    Completes (.reloadGuardOpen true n) s (fun t => (t.leg n).guard = true ∧ (t.leg n).ownNext = s.rd LEG.LPERIOD n ∧
      (∀ m, m ≠ n → t.leg m = s.leg m))) ∧
  (∀ (n : Nat) (s : State), n < 96 → HaltCause.ckPwm ∉ s.halts → s.ownLeg n = true →
    (s.leg n).ownRun = true ∨ (s.leg n).ownFirst ≠ none →
    Completes (.ownStart n) s (fun t => (t.leg n).ownRun = true ∧
      (t.leg n).ownNum = (if (s.leg n).ownRun then (s.leg n).ownNum + 1 else 0)))

/-! ### Outputs and gate links (R91, R92, R102, R115 to R136) -/

/-- The edges of a leg: HC_EDGE, DEAD_TIME_EXPIRY, STRETCHED_PULSE_END, NOTCH_PHASE_END, LINK_ALIVE_PULSE,
INTERLOCK_TIMEOUT, MAXON_EXPIRY and REFRESH_END (R91, R92, R102, R118, R119, R126, R127, R130). -/
def Obligations.OutputEdges : Prop :=
  (∀ (n p : Nat) (rise : Bool) (s : State), n < 96 → s.nextEdge n = some (p, rise) → s.rdB LEG.STATUS_HC n ≠ rise →
    Completes (.hcEdge n) s (fun t => t.rd LEG.STATUS_HC n = b2n rise ∧ (t.leg n).pos = p + 1 ∧
      t.pw = Nat.max s.pw (s.legStart n + p))) ∧
  (∀ (n a : Nat) (d : Side) (s : State), n < 96 → (s.side n d).turnOn = some a → (s.side n d).waiting = false →
    s.holdRow n = 0 → s.sideHeld n d = false → s.offLimit n d ≤ a → s.oppOff n d = true →
    Completes (.deadTimeExpiry n d) s (fun t => (t.side n d).on = true ∧ (t.side n d).turnOn = none ∧
      t.pw = Nat.max s.pw a ∧ (∀ m, m ≠ n → t.leg m = s.leg m))) ∧
  (∀ (n a : Nat) (d : Side) (s : State), n < 96 → (s.side n d).turnOff = some a → (s.side n d).on = true →
    Completes (.stretchedPulseEnd n d) s (fun t => (t.side n d).on = false ∧ (t.side n d).turnOff = none ∧
      t.pw = Nat.max s.pw a ∧ (∀ m, m ≠ n → t.leg m = s.leg m))) ∧
  (∀ (n a b : Nat) (d : Side) (s : State), n < 96 → (s.side n d).turnOff = some a → (s.side n d).on = false →
    (s.side n d).turnOn = some b →
    Completes (.stretchedPulseEnd n d) s (fun t => (t.side n d).turnOn = none ∧ (t.side n d).turnOff = none ∧
      t.rd LEG.STATUS_EXT_SEEN n = 1 ∧ RegsBut [LEG.STATUS_EXT_SEEN.key n 0] s t)) ∧
  (∀ (n : Nat) (d : Side) (s : State), n < 96 → (s.side n d).notch = 2 →
    Completes (.notchPhaseEnd n d) s (fun t => (t.side n d).notch = 1 ∧ (t.side n d).notchAt = t.pw)) ∧
  (∀ (n : Nat) (d : Side) (s : State), n < 96 → (s.side n d).notch = 1 →
    Completes (.notchPhaseEnd n d) s (fun t => (t.side n d).notch = 0)) ∧
  (∀ (n a : Nat) (d : Side) (s : State), n < 96 → (s.side n d).alive = some a →
    Completes (.linkAlivePulse n d) s (fun t => (t.side n d).alive = some (a + 64000) ∧
      SameBut (fun u => { u with legs := [], now := 0, pw := 0, dt := 0 }) s t)) ∧
  (∀ (n a : Nat) (d : Side) (s : State), n < 96 → (s.side n d).alive = some a → (s.side n d).on = false →
    s.holdRow n = 0 ∨ 3 < s.holdRow n → (s.toPw a).aliveOmit n d (Nat.max s.pw a) = false →
    Completes (.linkAlivePulse n d) s (fun t => (t.side n d).link = Nat.max s.pw a + 512)) ∧
  (∀ (n a : Nat) (d : Side) (s : State), n < 96 → (s.side n d).alive = some a →
    (1 ≤ s.holdRow n ∧ s.holdRow n ≤ 3) ∨ (s.toPw a).aliveOmit n d (Nat.max s.pw a) = true →
    Completes (.linkAlivePulse n d) s (fun t => (t.side n d).link = (s.side n d).link)) ∧
  (∀ (n a : Nat) (d : Side) (s : State), n < 96 → (s.side n d).turnOn = some a → s.oppExists n d = true →
    s.oppOff n d = false → (s.side n d.other).on = false → (s.side n d.other).notch = 0 →
    Completes (.interlockTimeout n d) s (fun t => (t.side n d).turnOn = none ∧ t.rd LEG.GSTAT_INTLK_TMO n = 1 ∧
      (t.leg n).gblock = true)) ∧
  (∀ (n : Nat) (d : Side) (s : State), n < 96 → (s.side n d).on = true → s.rd LEG.MAXON n ≠ 0 → (s.leg n).refresh = none →
    Completes (.maxonExpiry n d) s (fun t => (t.side n d).on = false ∧
      t.rd LEG.REFRESH_CNT n = Nat.min (s.rd LEG.REFRESH_CNT n + 1) 0xFFFFFFFF ∧ ∃ r, (t.leg n).refresh = some r)) ∧
  (∀ (n a : Nat) (r : RefreshSt) (s : State), n < 96 → (s.leg n).refresh = some r → r.until_ = some a →
    Completes (.refreshEnd n) s (fun t => (t.leg n).refresh = none ∧ t.pw = Nat.max s.pw a))

/-- The status inputs and what they block: STATUS_LEVEL_CHANGE, STATUS_PULSE_CLASSIFIED, CONFIRM_TIMEOUT,
STUCK_CHECK_EXPIRY, GSTAT_PERSIST_EXPIRY, GSTAT_CLEAR, GATE_CNT_CLR and VLED_SAMPLE (R117, R123 to R125, R134, R135). -/
def Obligations.StatusInputs : Prop :=
  (∀ (n at_ : Nat) (d : Side) (ball : Bool) (s : State), n < 96 →
    (s.side n d).lvl ≠ (ball != s.rdB BRK.GCFG_SPOL (n / 12)) →
    Completes (.statusLevelChange n d ball at_) s (fun t => (t.side n d).lvl = (ball != s.rdB BRK.GCFG_SPOL (n / 12)) ∧
      (t.side n d).lvlAt = Nat.max s.now at_ ∧ (t.side n d).on = (s.side n d).on)) ∧
  (∀ (n at_ a : Nat) (d : Side) (ball : Bool) (s : State), n < 96 → (s.side n d).lvl = true → (s.side n d).on = false →
    (s.side n d).pulseAt = some a → (ball != s.rdB BRK.GCFG_SPOL (n / 12)) = false →
    Completes (.statusLevelChange n d ball at_) s (fun t => ∃ e : Int, -64 ≤ e ∧ e ≤ 64 ∧
      (t.side n d).pulse = some (a, a + clampN 256 70400 (((Nat.max s.now at_ - a : Nat) : Int) + e).toNat))) ∧
  (∀ (n a b : Nat) (d : Side) (s : State), n < 96 → (s.side n d).pulse = some (a, b) → s.decodes n = true →
    pulseClass (b - a) = some .malf →
    Completes (.statusPulseClassified n d) s (fun t => (t.side n d).pulse = none ∧
      t.rd LEG.MALF_CNT n = Nat.min (s.rd LEG.MALF_CNT n + 1) 0xFFFFFFFF ∧ bit (t.rd (gField d) n) gMalf = true ∧
      (t.leg n).gblock = (s.leg n).gblock)) ∧
  (∀ (n a b : Nat) (d : Side) (c : PulseClass) (s : State), n < 96 → (s.side n d).pulse = some (a, b) →
    s.decodes n = true → pulseClass (b - a) = some c → c ≠ .malf →
    Completes (.statusPulseClassified n d) s (fun t => (t.side n d).pulse = none ∧ (t.leg n).gblock = true ∧
      bit (t.rd (gField d) n) (match c with
        | .uvlo => 0
        | .desat => 1
        | _ => 2) = true)) ∧
  (∀ (n a : Nat) (d : Side) (s : State), n < 96 → (s.side n d).confirmBy = some a → (s.side n d).on = true →
    (s.side n d).confirmed = false → s.decodes n = true →
    Completes (.confirmTimeout n d) s (fun t => bit (t.rd (gField d) n) gLink = true ∧ (t.leg n).gblock = true ∧
      (t.side n d).confirmBy = none)) ∧
  (∀ (n a : Nat) (d : Side) (s : State), n < 96 → (s.side n d).stuckBy = some a → (s.side n d).on = false →
    (s.side n d).lvl = true → s.decodes n = true →
    Completes (.stuckCheckExpiry n d) s (fun t => bit (t.rd (gField d) n) gStuck = true ∧ (t.leg n).gblock = true)) ∧
  (∀ (n a : Nat) (d : Side) (s : State), n < 96 → (s.side n d).lastUvlo = some a →
    Completes (.gstatPersistExpiry n d .uvlo) s (fun t => (t.side n d).lastUvlo = none ∧ a + 384000 ≤ t.now ∧
      SameBut (fun u => { u with legs := [], now := 0, pw := 0, dt := 0 }) s t)) ∧
  (∀ (n mask b : Nat) (s : State), n < 96 → s.mainOn = true → s.bridgeHalted 77 = false → b < 7 →
    bit mask b = true → bit (s.rd LEG.GSTAT_L n) b = true →
    Completes (.gstatClear n mask) s (fun t => bit (t.rd LEG.GSTAT_L n) b = s.gPersists n .low b)) ∧
  (∀ (n : Nat) (s : State), n < 96 → s.mainOn = true → s.bridgeHalted 77 = false →
    Completes (.gateCntClr n) s (fun t => t.rd LEG.DELAY_CNT n = 0 ∧ t.rd LEG.REFRESH_CNT n = 0 ∧ t.rd LEG.MALF_CNT n = 0 ∧
      RegsBut [LEG.DELAY_CNT.key n 0, LEG.REFRESH_CNT.key n 0, LEG.MALF_CNT.key n 0] s t ∧
      SameBut (fun u => { u with regs := [] }) s t)) ∧
  (∀ (k n mv at_ a : Nat) (s : State), k < 8 → s.now ≤ at_ → mv < 20 * s.rd BRK.GCFG_VLED_UVT k → mv < 65536 →
    (s.brk k).vledLow = some a → a + 2 * usH ≤ at_ → s.rd BRK.VLED_UV k = 0 → n / 12 = k →
    Completes (.vledSample k mv at_) s (fun t => t.rd BRK.VLED_MV k = mv ∧ t.rd BRK.VLED_UV k = 1 ∧
      t.rd LEG.GSTAT_VLED_UV n = 1 ∧ (t.leg n).gblock = true))

/-! ### Faults, the dump and telemetry (R360 to R378) -/

/-- The fault opcodes: FLT_CLEAR clears the latch and ACTIVE of the sources not asserted and counts the clears refused;
DUMP_ARM keeps the buffer; FLT_INJECT starts an injection in FACTORY and is refused elsewhere; FLT_HISTORY writes the
newest records; TEL_NOW posts a TELEMETRY record or answers RING_FULL (R79, R364, R366, R367, R372, R378). -/
def Obligations.FaultOpcodes : Prop :=
  (∀ (q : Nat) (x : Started) (b : List Nat) (s : State), Ready s q 0x80 x b → bit x.d.inl 1 = true →
    Ends (.fltClear q) s q x 0x00
      ((List.range 203).filter (fun i => s.rdB SRC.STAT_ACTIVE i && s.srcOn i)).length (fun t =>
      (bit x.d.inl 0 = true → t.rd FLT.FIRST_VALID = 0 ∧ t.rd FLT.FIRST_SIMULTANEOUS = 0 ∧ t.rd FLT.STAT_OVERFLOW = 0) ∧
      ∀ i, i < 203 → (s.srcOn i = false → t.rd SRC.STAT_ACTIVE i = 0) ∧
        (s.srcOn i = true → t.rd SRC.STAT_ACTIVE i = s.rd SRC.STAT_ACTIVE i))) ∧
  (∀ (q : Nat) (x : Started) (b : List Nat) (s : State), Ready s q 0x81 x b →
    Ends (.dumpArm q) s q x 0x00 0 (fun t => t.flt.dumpBuf = (if x.d.len = 0 then none else some (x.d.ptr, x.d.len)) ∧
      SameBut (fun u => { u with rings := [], cplQ := [], flt := {} }) s t)) ∧
  (∀ (q : Nat) (x : Started) (b : List Nat) (s : State), Ready s q 0x82 x b → s.mm.cur = .factory → s.flt.inj = none →
    bits x.d.inl 0 8 ≤ 3 → 1 ≤ bits x.d.inl 8 8 → 1 ≤ bits x.d.inl 16 16 →
    Ends (.fltInject q) s q x 0x00 0 (fun t => t.flt.inj = some
      { src := bits x.d.arg 0 8, kind := bits x.d.inl 0 8, left := bits x.d.inl 8 8 - 1,
        hold := if bits x.d.inl 0 8 = 0 then 1 else bits x.d.inl 16 16, on := true, at_ := s.now })) ∧
  (∀ (q : Nat) (x : Started) (b : List Nat) (s : State), Ready s q 0x82 x b → s.mm.cur ≠ .factory →
    Ends (.fltInject q) s q x 0x14 0 (fun t => SameBut (fun u => { u with rings := [], cplQ := [] }) s t)) ∧
  (∀ (q : Nat) (x : Started) (b : List Nat) (s : State), Ready s q 0x83 x b →
    Ends (.fltHistory q) s q x 0x00 (Nat.min (x.d.len / 16) s.flt.history.length) (fun t =>
      t.hostMem = placeBytes s.hostMem
        (hostBytes x.d.ptr ((s.flt.history.drop (s.flt.history.length - x.d.len / 16)).flatMap (·.bytes))) ∧
      SameBut (fun u => { u with rings := [], cplQ := [], hostMem := [] }) s t)) ∧
  (∀ (q r : Nat) (x : Started) (b : List Nat) (s : State), Ready s q 0x90 x b → s.evRing 9 = some r →
    s.evRoom r (s.evWaiting r + b2n (0 < (s.ring r).lostNow) + 1) = true →
    Ends (.telNow q) s q x 0x00 0 (fun t => Posted s t 0x90 ∧
      SameBut (fun u => { u with rings := [], cplQ := [], evq := [] }) s t)) ∧
  (∀ (q : Nat) (x : Started) (b : List Nat) (s : State), Ready s q 0x90 x b → s.evRing 9 = none →
    Ends (.telNow q) s q x 0x15 0 (fun t => SameBut (fun u => { u with rings := [], cplQ := [] }) s t))

/-- Fault events: FAULT_SOURCE_ASSERT takes up the next event, counts it and promotes its source at CFG.N;
FAULT_OCCURRENCE_END ends an occurrence; RAIL_MISMATCH sets and clears WIRE; FIRST_ERROR_LATCH and FIRST_VALID_CLEAR;
SOURCE_ACTIVE_CLEAR; FLT_CNT_CLR (R31, R360 to R366). -/
def Obligations.FaultEvents : Prop :=
  (∀ (e : FltEv) (rest : List FltEv) (s : State), s.flt.queue = e :: rest → e.asserts = true → e.src < 203 →
    s.rd SRC.CFG_N e.src ≤ 1 →
    Completes (.faultSourceAssert none) s (fun t => t.rd SRC.STAT_ACTIVE e.src = 1 ∧
      t.rd SRC.TOTAL e.src = Nat.min (s.rd SRC.TOTAL e.src + (1 + e.rep)) 0xFFFFFFFF)) ∧
  (∀ s : State, s.flt.queue = [] →
    Completes (.faultSourceAssert (some .ocmCe)) s (fun t => t.rd FLT.OCM_CE = Nat.min (s.rd FLT.OCM_CE + 1) 0xFFFFFFFF ∧
      RegsBut [FLT.OCM_CE.key 0 0] s t ∧ SameBut (fun u => { u with regs := [] }) s t)) ∧
  (∀ (i a : Nat) (s : State), i < 256 → (s.fsrc i).occEnd = some a → (s.fsrc i).causes = [] → s.rd SRC.STAT_WIRE i = 0 →
    Completes (.faultOccurrenceEnd i) s (fun t => (t.fsrc i).occEnd = none ∧ t.rd SRC.STAT_ASSERTED i = 0 ∧
      t.now = Nat.max s.now a ∧ ∀ j, j ≠ i → t.fsrc j = s.fsrc j)) ∧
  (∀ (i at_ : Nat) (s : State), i < 256 → s.srcPresent i = true → s.rd SRC.STAT_WIRE i = 0 → s.flt.queue.length < 256 →
    Completes (.railMismatch i true at_) s (fun t => t.rd SRC.STAT_WIRE i = 1 ∧ t.rd SRC.STAT_ASSERTED i = 1 ∧
      ∃ e, t.flt.queue = s.flt.queue ++ [e] ∧ e.src = i ∧ e.wire = true)) ∧
  (∀ (i at_ : Nat) (s : State), i < 256 →
    Completes (.railMismatch i false at_) s (fun t => t.rd SRC.STAT_WIRE i = 0 ∧ t.flt = s.flt ∧
      RegsBut [SRC.STAT_WIRE.key i 0, SRC.STAT_ASSERTED.key i 0] s t)) ∧
  (∀ (c : FirstCand) (sim : Bool) (s : State), bestCand s.flt.first = some (c, sim) →
    Completes .firstErrorLatch s (fun t => t.rd FLT.FIRST_VALID = 1 ∧ t.rd FLT.FIRST_SIMULTANEOUS = b2n sim ∧
      t.rd FLT.FIRST_SOURCE = c.src % 256 ∧ t.rd FLT.FIRST_CODE = c.code % 256 ∧ t.rd FLT.FIRST_CLASS = c.cls % 4 ∧
      t.rd FLT.FIRST_DT = c.dt % 2 ^ 64 ∧ t.now = Nat.max s.now (s.flt.firstAt + 12800))) ∧
  (∀ s : State, s.mainOn = true → Completes .firstValidClear s (fun t => t.rd FLT.FIRST_VALID = 0 ∧
    t.rd FLT.FIRST_SIMULTANEOUS = 0 ∧
    t.rd FLT.STAT_OVERFLOW = 0 ∧ SameBut (fun u => { u with regs := [] }) s t ∧
    RegsBut [FLT.FIRST_VALID.key 0 0, FLT.FIRST_SIMULTANEOUS.key 0 0, FLT.STAT_OVERFLOW.key 0 0] s t)) ∧
  (∀ (i : Nat) (s : State), i < 203 → s.mainOn = true → s.rd SRC.STAT_ACTIVE i = 1 →
    Completes (.sourceActiveClear i) s (fun t =>
      t.rd SRC.STAT_ACTIVE i = b2n (s.srcOn i) ∧ (s.srcOn i = true → t.rd SRC.STAT_CLEAR_REFUSED i = 1))) ∧
  (∀ (i : Nat) (s : State), i < 203 → s.mainOn = true →
    Completes .fltCntClr s (fun t => t.rd FLT.OCM_CE = 0 ∧ t.rd SRC.TOTAL i = 0 ∧
      SameBut (fun u => { u with regs := [] }) s t))

/-- Injection and the fatal dump: INJ_GO starts an injection in FACTORY and is reported elsewhere;
FAULT_INJECTION_TIMER ends a phase; DUMP_DONE ends the dump with its result, the image in the named buffer, and
DUMP_TIMEOUT abandons it; the restart follows (R367, R372, R373, Table 16.7). -/
def Obligations.InjectionAndDump : Prop :=
  (∀ s : State, s.mm.cur = .factory → s.flt.inj = none →
    Completes .injGo s (fun t => t.flt.inj = some
      { src := s.rd FLT.INJ_SOURCE, kind := s.rd FLT.INJ_KIND, left := s.rd FLT.INJ_COUNT - 1,
        hold := if s.rd FLT.INJ_KIND = 0 then 1 else s.rd FLT.INJ_HOLD, on := true, at_ := s.now })) ∧
  (∀ s : State, s.mainOn = true → s.mm.cur ≠ .factory →
    Completes .injGo s (fun t => Posted s t 0x03 ∧ SameBut (fun u => { u with evq := [] }) s t)) ∧
  (∀ (j : InjSt) (s : State), s.flt.inj = some j → j.on = true → j.left = 0 →
    Completes .faultInjectionTimer s (fun t => t.flt.inj = none ∧ t.now = Nat.max s.now (j.at_ + 12800 * j.hold))) ∧
  (∀ (j : InjSt) (s : State), s.flt.inj = some j → j.on = false →
    Completes .faultInjectionTimer s (fun t => t.now = Nat.max s.now (j.at_ + 128000) ∧
      t.flt.inj = some { j with on := true, left := j.left - 1, at_ := t.now })) ∧
  (∀ (src code dt a len at_ : Nat) (s : State), s.dumping = some (src, code, dt) → s.flt.dumpBuf = some (a, len) →
    s.mgmtHalted = false → s.out = [] →
    Completes (.dumpDone true at_) s (fun t =>
      t.hostMem = placeBytes s.hostMem (hostBytes a
        (((s.to at_).dumpImage src code dt).1.dumpStage ((s.to at_).dumpImage src code dt).2).2) ∧
      t.rd FLT.DUMP_STAT_RESULT = 1 ∧ t.rd FLT.DUMP_STAT_SOURCE = src % 65536 ∧ Trigger.restart ∈ t.mm.trig ∧
      t.dumping = none)) ∧
  (∀ (src code dt a len at_ : Nat) (s : State), s.dumping = some (src, code, dt) → s.flt.dumpBuf = some (a, len) →
    s.mgmtHalted = false →
    Completes (.dumpDone false at_) s (fun t => t.rd FLT.DUMP_STAT_RESULT = 4 ∧ t.rd FLT.DUMP_LEN = 0 ∧
      t.hostMem = s.hostMem ∧ Trigger.restart ∈ t.mm.trig ∧ t.dumping = none)) ∧
  (∀ (ok : Bool) (src code dt at_ : Nat) (s : State), s.dumping = some (src, code, dt) → s.flt.dumpBuf = none →
    s.mgmtHalted = false →
    Completes (.dumpDone ok at_) s (fun t => t.rd FLT.DUMP_STAT_RESULT = 2 ∧ t.rd FLT.DUMP_LEN = 0 ∧
      t.hostMem = s.hostMem ∧ Trigger.restart ∈ t.mm.trig ∧ t.dumping = none)) ∧
  (∀ (src code dt : Nat) (s : State), s.dumping = some (src, code, dt) →
    Completes .dumpTimeout s (fun t => t.rd FLT.DUMP_STAT_RESULT = 3 ∧ t.rd FLT.DUMP_LEN = 0 ∧ t.hostMem = s.hostMem ∧
      Trigger.restart ∈ t.mm.trig ∧ t.now = Nat.max s.now (s.flt.dumpAt + 15 * 12800000000)))

/-! ### Comparator windows and Shears (R137 to R156) -/

/-- Windows: a sample above THR_HIGH sets LATCH of a window with M = 1, a crossing sets that of a hard window, the end of
blanking sets it where the filtered output is active, an edge within the interval restarts it, and a clear is refused
while the condition is active (R138, R140 to R145). -/
def Obligations.WindowLatches : Prop :=
  (∀ (w at_ : Nat) (x : Int) (s : State), w < 224 → isHard w = false → s.rd CW.CFG_M w ≤ 1 → s.rd CW.CFG_EN_HI w = 1 →
    (s.cw w).moveHi = none → (256 * s.rd CW.THR_HIGH w : Int) + s.winError w < x → s.rd CW.STAT_BLANKING w = 0 →
    (s.cw w).edges = [] →
    Completes (.windowConditionChange w at_ [x]) s (fun t => t.rd CW.STAT_LATCH w ≠ 0 ∧ t.rd CW.STAT_LIVE w = 1 ∧
      t.now = Nat.max s.now at_)) ∧
  (∀ (w at_ : Nat) (x : Int) (s : State), isHard w = true → s.rd CW.CFG_EN_HI w = 1 → (s.cw w).moveHi = none →
    (256 * s.rd CW.THR_HIGH w : Int) + s.winError w < x → (s.cw w).out = false →
    Completes (.hardWindowCrossing w at_ x) s (fun t => t.rd CW.STAT_LATCH w ≠ 0 ∧ t.rd CW.STAT_LIVE w = 1 ∧
      t.now = Nat.max s.now at_)) ∧
  (∀ (w a : Nat) (s : State), w < 224 → (s.cw w).blankEnd = some a → (s.cw w).edges = [] → (s.cw w).out = true →
    Completes (.blankingEnd w) s (fun t => t.rd CW.STAT_LATCH w ≠ 0 ∧ t.pw = Nat.max s.pw a)) ∧
  (∀ (w a : Nat) (s : State), w < 224 → (s.cw w).blankEnd = some a → (s.cw w).edges = [] → (s.cw w).out = false →
    Completes (.blankingEnd w) s (fun t => t.rd CW.STAT_BLANKING w = 0 ∧ t.pw = Nat.max s.pw a ∧
      RegsBut [CW.STAT_BLANKING.key w 0] s t ∧
      SameBut (fun u => { u with regs := [], cws := [], now := 0, pw := 0, dt := 0 }) s t)) ∧
  (∀ (w a e : Nat) (s : State), w < 224 → (s.cw w).blankEnd = some a → (s.cw w).edges = [e] → e < a →
    (s.cw w).out = false →
    Completes (.blankingEnd w) s (fun t => t.pw = Nat.max s.pw (e + 32 * s.rd CW.CFG_BLANK w) ∧ (t.cw w).edges = [] ∧
      (t.cw w).blankEnd = none ∧ t.rd CW.STAT_BLANKING w = 0)) ∧
  (∀ (w : Nat) (s : State), w < 224 → s.mainOn = true → s.bridgeHalted 77 = false → s.rd CW.STAT_LATCH w = 1 →
    s.latchedNow w = false → (s.cw w).out = false →
    Completes (.windowLatchClear w) s (fun t => t.rd CW.STAT_LATCH w = 0 ∧ t.rd CW.STAT_HI_SEEN w = 0 ∧
      t.rd CW.STAT_LO_SEEN w = 0)) ∧
  (∀ (w : Nat) (s : State), w < 224 → s.mainOn = true → s.bridgeHalted 77 = false → s.rd CW.STAT_LATCH w = 1 →
    (s.cw w).out = true →
    Completes (.windowLatchClear w) s (fun t => t.rd CW.STAT_LATCH w = 1 ∧ t.rd CW.STAT_CLEAR_REFUSED w = 1))

/-- Trip groups: SWTRIP fires an enabled group that is not ACTIVE and its legs take the group's action; enabling an
ACTIVE group fires it; TRIPPED clears only while the group is not ACTIVE; a stopped register bridge
holds the write (R108, R148 to R150). -/
def Obligations.TripGroups : Prop :=
  (∀ (g : Nat) (s : State), g < 32 → s.mainOn = true → s.bridgeHalted 77 = false → s.rd TG.SWTRIP g = 0 →
    s.rd TG.CFG_ENABLE g = 1 → (s.tg g).srcs = [] →
    Completes (.swtrip g true) s (fun t => t.rd TG.SWTRIP g = 1 ∧ t.rd TG.STAT_ACTIVE g = 1 ∧ t.rd TG.STAT_TRIPPED g = 1 ∧
      ∀ n, n ∈ s.targets g → s.rd TG.CFG_ACTION g ≠ 0 → (g, s.rd TG.CFG_ACTION g) ∈ (t.leg n).trips)) ∧
  (∀ (g : Nat) (s : State), g < 32 → s.modeAdmits .ssf = true → s.mainOn = true → s.bridgeHalted 77 = false →
    s.rd TG.CFG_ENABLE g = 0 → (s.tg g).srcs ≠ [] →
    Completes (.tripGroupEnable g) s (fun t => t.rd TG.CFG_ENABLE g = 1 ∧ t.rd TG.STAT_TRIPPED g = 1)) ∧
  (∀ (g : Nat) (s : State), g < 32 → s.mainOn = true → s.bridgeHalted 77 = false → s.modeAdmits .ssf = false →
    s.rd TG.CFG_ENABLE g = 0 →
    Completes (.tripGroupEnable g) s (fun t => t.rd TG.CFG_ENABLE g = 0 ∧ s.evq.length < t.evq.length)) ∧
  (∀ (g : Nat) (v : Bool) (s : State), g < 32 → s.mainOn = true → s.bridgeHalted 77 = true →
    Completes (.swtrip g v) s (fun t => t.rd TG.SWTRIP g = s.rd TG.SWTRIP g ∧
      t.bridge = s.bridge ++ [⟨77, TG.SWTRIP.addr g 0, 4, b2n v⟩] ∧ t.tgs = s.tgs ∧ t.legs = s.legs)) ∧
  (∀ (g : Nat) (s : State), g < 32 → s.mainOn = true → s.bridgeHalted 77 = false → s.rd TG.STAT_TRIPPED g = 1 →
    s.rd TG.STAT_ACTIVE g = 0 →
    Completes (.groupTrippedClear g) s (fun t => t.rd TG.STAT_TRIPPED g = 0 ∧
      ∀ n a, (g, a) ∈ (t.leg n).trips → a ≤ 1)) ∧
  (∀ (g : Nat) (s : State), g < 32 → s.mainOn = true → s.bridgeHalted 77 = false → s.rd TG.STAT_TRIPPED g = 1 →
    s.rd TG.STAT_ACTIVE g = 1 →
    Completes (.groupTrippedClear g) s (fun t => t.rd TG.STAT_TRIPPED g = 1 ∧ t.rd TG.STAT_CLEAR_REFUSED g = 1 ∧
      t.legs = s.legs))

/-! ### Modes, readiness and power (R32 to R47, R406, R407, R469, R470) -/

/-- MODE_SET: a mode that Table 2.3 does not list is forbidden, then a safety demand denies it, then missing readiness;
one that passes waits for its transition (R35, R37, R39). -/
def Obligations.ModeSetChecks : Prop :=
  (∀ (q : Nat) (m : Mode) (x : Started) (b : List Nat) (s : State), Ready s q 0x01 x b →
    Mode.ofCode (bits x.d.inl 0 8) = some m → m ≠ .prestart →
    (s.listed m = false → Ends (.modeSet q) s q x 0x14 s.mm.cur.code (fun t =>
      SameBut (fun u => { u with rings := [], cplQ := [] }) s t)) ∧
    (s.listed m = true → s.mm.req = none → s.setDenied = true → Ends (.modeSet q) s q x 0x30 s.mm.cur.code (fun t =>
      SameBut (fun u => { u with rings := [], cplQ := [] }) s t)) ∧
    (s.listed m = true → s.mm.req = none → s.setDenied = false → s.mandatoryReady = false →
      Ends (.modeSet q) s q x 0x13 s.mm.cur.code (fun t => SameBut (fun u => { u with rings := [], cplQ := [] }) s t)) ∧
    (s.setCheck m = 0 → s.mm.req = none → Completes (.modeSet q) s (fun t => Goes s t q ∧ t.mm.cur = s.mm.cur ∧
      t.mm.req = some ⟨q, m, (Mode.ofCode (bits x.d.inl 8 8)).getD .follow⟩ ∧ t.regs = s.regs ∧ t.legs = s.legs))) ∧
  (∀ (q : Nat) (x : Started) (b : List Nat) (s : State), Ready s q 0x01 x b → Mode.ofCode (bits x.d.inl 0 8) = none →
    Ends (.modeSet q) s q x 0x14 s.mm.cur.code (fun t => SameBut (fun u => { u with rings := [], cplQ := [] }) s t))

/-- MODE_MANAGER_EVALUATION makes the transition of highest precedence: a safety demand leads to SAFESTOP, readiness
out of WAKE to STANDBY, a protection trip out of a running mode to CEASE with that mode as TARGET, and a pending
MODE_SET is carried out and completes. While the management core is halted nothing is evaluated (the model's reading,
log 144; R38, R39, R246, Table 2.3). -/
def Obligations.ModeTransitions : Prop :=
  (∀ s : State, s.mgmtHalted = false → Trigger.restart ∉ s.mm.trig → s.rd FLT.STAT_FATAL_HOLD = 0 → s.demandLevel = true →
    s.mm.cur ∈ [Mode.standby, .prestart, .follow, .form, .dawn, .ride, .cease, .service] →
    Completes .modeManagerEvaluation s (fun t => t.mm.cur = .safestop ∧ t.mm.prev = s.mm.cur ∧
      t.mm.cause = .safetyDemand ∧ t.mm.seq = (s.mm.seq + 1) % 256)) ∧
  (∀ s : State, s.mgmtHalted = false → Trigger.restart ∉ s.mm.trig → s.rd FLT.STAT_FATAL_HOLD = 0 → s.demandLevel = false →
    s.mm.cur = .wake → s.mm.ftest = false → s.mandatoryReady = true →
    Completes .modeManagerEvaluation s (fun t => t.mm.cur = .standby ∧ t.mm.prev = .wake ∧
      t.mm.cause = .readyComplete ∧ t.mm.seq = (s.mm.seq + 1) % 256)) ∧
  (∀ s : State, s.mgmtHalted = false → Trigger.restart ∉ s.mm.trig → s.rd FLT.STAT_FATAL_HOLD = 0 → s.demandLevel = false →
    s.mm.cur ∈ [Mode.follow, .form, .dawn] → Trigger.protection ∈ s.mm.trig →
    Completes .modeManagerEvaluation s (fun t => t.mm.cur = .cease ∧ t.mm.prev = s.mm.cur ∧
      t.mm.cause = .protectionTrip ∧ t.mm.target = some s.mm.cur)) ∧
  (∀ (q : Nat) (x : Started) (s : State), s.mgmtHalted = false → Trigger.restart ∉ s.mm.trig → s.rd FLT.STAT_FATAL_HOLD = 0 →
    s.demandLevel = false → s.mm.cur = .standby → s.mm.req = some ⟨q, .service, .follow⟩ → s.mm.ending = false →
    ({ s with mm := { s.mm with req := none } } : State).setCheck .service = 0 → (s.ring q).started = some x →
    Ends .modeManagerEvaluation s q x 0x00 Mode.service.code (fun t => t.mm.cur = .service ∧ t.mm.prev = .standby ∧
      t.mm.cause = .hostRequest ∧ t.mm.req = none)) ∧
  (∀ s : State, s.mgmtHalted = true → Completes .modeManagerEvaluation s (fun t => SameBut id s t))

/-- The prestart sequence: the holds of steps 2 and 5 pass their steps, a sync time-out and a prestart time-out wait for
the mode manager, and LEG_CHECK goes on to the next leg (R36, R272 to R274, R469, R470). -/
def Obligations.PrestartSteps : Prop :=
  (∀ (a : Nat) (s : State), s.mgmtHalted = false → s.mm.cur = .prestart → s.mm.step = 2 → s.dcs.preAt = some a →
    Trigger.checkFailed ∉ s.mm.trig →
    Completes .prechargeHoldExpiry s (fun t => 3 ≤ t.mm.step ∧ a + s.rd DCS.PRE_MS * msH ≤ t.now ∧
      t.mm.cur = .prestart)) ∧
  (∀ (a : Nat) (s : State), s.mgmtHalted = false → s.mm.cur = .prestart → s.mm.step = 5 → s.grd.syncAt = some a →
    (s.to (a + s.rd GRD.SYNC_TIME_HOLD_MS * msH)).syncHolds = true →
    Trigger.checkFailed ∉ s.mm.trig →
    Completes .syncHoldExpiry s (fun t => 6 ≤ t.mm.step ∧ a + s.rd GRD.SYNC_TIME_HOLD_MS * msH ≤ t.now ∧
      t.mm.cur = .prestart)) ∧
  (∀ s : State, s.mgmtHalted = false → s.mm.cur = .prestart → s.mm.step = 5 → s.grd.syncAt = none →
    Completes .syncTimeout s (fun t => Trigger.checkFailed ∈ t.mm.trig ∧
      t.now = Nat.max s.now (s.mm.stepAt + s.rd GRD.SYNC_TIME_TMO_MS * msH) ∧ t.regs = s.regs)) ∧
  (∀ s : State, s.mgmtHalted = false → s.mm.cur = .prestart →
    Completes .prestartTimeout s (fun t => Trigger.prestartTimeout ∈ t.mm.trig ∧
      t.now = Nat.max s.now (s.mm.enteredAt + s.rd GLB.PRESTART_TMO * 100 * msH) ∧ t.regs = s.regs)) ∧
  (∀ (r : ChkResp) (n : Nat) (s : State), s.mgmtHalted = false → s.mm.cur = .prestart → s.mm.step = 3 → s.rd DCS.CFG ≠ 0 →
    Trigger.protection ∉ s.mm.trig → Trigger.checkFailed ∉ s.mm.trig →
    s.chkLegs.find? (fun n => decide (s.mm.checkNext ≤ n)) = some n →
    Completes (.legCheck r) s (fun t => t.mm.checkNext = n + 1 ∧ t.mm.cur = .prestart))

/-- The host watchdog and the FACTORY key: a kick restarts it and ends its fault, an expiry posts HOST_WATCHDOG and in a
running mode asks for CEASE; the third key value of a sequence in WAKE with FTEST opens FACTORY (R42, R45). -/
def Obligations.WatchdogAndKey : Prop :=
  (∀ s : State, s.mainOn = true → Completes .hwdtKick s (fun t => t.mm.kicked = true ∧ t.mm.wdtOn = true ∧
    t.mm.kickAt = s.now ∧ t.mm.key = 0 ∧
    t.mm.cur = s.mm.cur)) ∧
  (∀ s : State, s.rd GLB.MODECFG_HWDT_MS ≠ 0 → s.mm.wdtOn = true → s.mm.cur ≠ .keepalive →
    Completes .hostWatchdogExpiry s (fun t => t.mm.kicked = false ∧ Posted s t 0x06 ∧
      t.now = Nat.max s.now (s.mm.kickAt + s.rd GLB.MODECFG_HWDT_MS * msH) ∧
      (s.mm.cur ∈ [Mode.follow, .form, .dawn, .ride] → Trigger.hostLost ∈ t.mm.trig))) ∧
  (∀ s : State, s.mm.cur = .wake → s.mm.ftest = true → s.mm.key = 2 →
    Completes (.fkeyWrite 0x7E19) s (fun t => t.mm.keyDone = true ∧ t.mm.key = 0 ∧
      SameBut (fun u => { u with mm := {} }) s t)) ∧
  (∀ (v : Nat) (s : State), s.mm.key = 0 → v % 65536 ≠ 0x51A7 →
    Completes (.fkeyWrite v) s (fun t => SameBut id s t))

/-- Power and readiness: MAIN_SUPPLIES_GOOD enters WAKE once no rail has been outside its levels of Table 18.1, nor
PFW_N low, for 1 ms (V33_THR stands at its reset value in KEEPALIVE), and goes on waiting where one is;
POWER_FAIL_WARNING enters KEEPALIVE with the cause and rail of PWR.LAST on a warning that its rails make, and without
one only shows them. READY_SET and READY_LOST move a READY bit, BRINGUP_TIMEOUT names its cause, and the PCIe link's
loss clears READY.RING (R40, R46, R47, R405 to R407, R419, Table 16.1; the last clause is the model's reading, log
41). -/
def Obligations.PowerAndReadiness : Prop :=
  (∀ (ftest refsel : Bool) (r : Rails) (at_ i : Nat) (s : State), s.mm.cur = .keepalive → i < 6 →
    s.rd PWR.CFG_V33_THR = State.reset.rd PWR.CFG_V33_THR → s.railFault r = none → r.pfwN = true →
    s.mm.railBad + msH ≤ Nat.max s.now at_ →
    Completes (.mainSuppliesGood ftest refsel r at_) s (fun t => t.mm.cur = .wake ∧ t.mm.cause = .powerOn ∧
      t.mm.ftest = ftest ∧ t.mm.goodAt = Nat.max s.now at_ ∧ t.rd PWR.STAT_GOOD = 63 ∧ t.rd PWR.STAT_PFW_N = 1 ∧
      t.rd PWR.VMON 0 i = r.mv.getD i 0 ∧ t.rd CLK.STAT_REF10 = b2n refsel ∧ t.hostMem = s.hostMem ∧
      t.saf = s.saf.cutOff)) ∧
  (∀ (ftest refsel : Bool) (r : Rails) (at_ : Nat) (s : State), s.mm.cur = .keepalive →
    s.railFault r ≠ none ∨ r.pfwN = false →
    Completes (.mainSuppliesGood ftest refsel r at_) s (fun t => t.mm.cur = .keepalive ∧
      t.mm.railBad = Nat.max s.now at_ ∧ t.rd PWR.STAT_PFW_N = b2n r.pfwN)) ∧
  (∀ (r : Rails) (w : Nat × Nat) (lowH at_ : Nat) (s : State), s.mm.cur ≠ .keepalive → s.warningOf r lowH = some w →
    Completes (.powerFailWarning r lowH at_) s (fun t => t.mm.cur = .keepalive ∧ t.mm.prev = s.mm.cur ∧
      t.mm.cause = .supplyLoss ∧ t.rd PWR.LAST_CAUSE = w.1 ∧ t.rd PWR.LAST_RAIL = w.2 ∧ t.rd PWR.STAT_PFW_SEEN = 1 ∧
      t.now = Nat.max s.now at_ ∧ t.hostMem = s.hostMem)) ∧
  (∀ (r : Rails) (lowH at_ : Nat) (s : State), s.mm.cur ≠ .keepalive → s.warningOf r lowH = none →
    Completes (.powerFailWarning r lowH at_) s (fun t => t.rd PWR.STAT_PFW_N = b2n r.pfwN ∧
      RegsBut ([PWR.STAT_GOOD.key 0 0, PWR.STAT_PFW_N.key 0 0] ++ (List.range 6).map (fun i => PWR.VMON.key 0 i)) s t ∧
      SameBut (fun u => { u with regs := [], now := 0, pw := 0, dt := 0 }) s t)) ∧
  (∀ (b x at_ : Nat) (s : State), s.mm.cur ≠ .keepalive → s.bitPresent b = true → s.ready b = false →
    b ∉ [1, 3, 4, 7, 8, 9, 10, 11, 12, 13, 37, 39, 41, 43, 44, 45] →
    Completes (.readySet b x at_) s (fun t => t.ready b = true ∧ (∀ c, c < 48 → c ≠ b → t.ready c = s.ready c) ∧
      t.now = Nat.max s.now at_)) ∧
  (∀ (b x at_ : Nat) (s : State), s.mm.cur ≠ .keepalive → b = 8 ∨ b = 9 → s.ready b = false →
    Completes (.readySet b x at_) s (fun t => t.ready b = true ∧ t.rd ETH.MAC_ADDR (b - 8) = x % 2 ^ 48)) ∧
  (∀ (b at_ : Nat) (s : State), b < 46 → b ∉ [37, 43] → s.ready b = true →
    Completes (.readyLost b at_) s (fun t => t.ready b = false ∧ (∀ c, c < 48 → c ≠ b → t.ready c = s.ready c) ∧
      Posted s t 0x04)) ∧
  (∀ (b : Nat) (s : State), mandatoryBits.find? (fun b => !s.ready b) = some b → s.mm.cur = .wake →
    Completes .bringupTimeout s (fun t => t.mm.cause = .bringupTimeout ∧ t.mm.cur = .wake ∧
      t.now = Nat.max s.now (s.mm.goodAt + 180 * msH))) ∧
  (∀ (at_ : Nat) (s : State), s.mm.linkUp = true →
    Completes (.pcieLinkDown false at_) s (fun t => t.mm.linkUp = false ∧ t.ready 7 = false)) ∧
  (∀ (low : Bool) (at_ : Nat) (s : State), s.mm.linkUp = false →
    Completes (.perstNAssertion low at_) s (fun t => t.mm.perstLow = low ∧
      SameBut (fun u => { u with mm := {}, now := 0, pw := 0, dt := 0 }) s t)) ∧
  (∀ s : State, s.rd CLO.STAT_PF_DONE = 0 →
    Completes .railsLostEarly s (fun t => t.clo.queue = [] ∧
      SameBut (fun u => { u with clo := { u.clo with queue := [] } }) s t))

/-! ### The supervisors and the DC stage (R214 to R285) -/

/-- The phase-group supervisor's commands: UNRETIRE and RELEASE, the end of a spare's ramp, the time-out of SHADOW and the
return from it (R229, R230, R234). While the reference brick of the group runs, UNRETIRE and RELEASE wait for its next
START (R217; the model's reading, log 137). -/
def Obligations.PhaseGroups : Prop :=
  (∀ (g n : Nat) (s : State), g < 3 → n < 96 → s.mainOn = true → s.modeAdmits .ssf = true → s.phaseGroup n = some g →
    (s.leg n).sup = .retired → s.groupRuns g = false →
    Completes (.unretire g n) s (fun t => (t.leg n).sup = .active ∧ ∀ m, m ≠ n → (t.leg m).sup = (s.leg m).sup)) ∧
  (∀ (g n : Nat) (s : State), g < 3 → n < 96 → s.mainOn = true → s.modeAdmits .ssf = true → s.phaseGroup n = some g →
    (s.leg n).sup = .retired → s.groupRuns g = true →
    Completes (.unretire g n) s (fun t => (t.pl n).next = some (.active, some 1) ∧ t.legs = s.legs ∧ t.evq = s.evq)) ∧
  (∀ (g n : Nat) (s : State), g < 3 → n < 96 → s.mainOn = true → s.modeAdmits .ssf = true → s.role n = roleSpare →
    (s.pl n).group = some g → (s.leg n).sup.counted = true → s.groupRuns g = true →
    Completes (.release g n) s (fun t => (t.pl n).next = some (.spare, some 2) ∧ t.legs = s.legs ∧ t.evq = s.evq)) ∧
  (∀ (g n : Nat) (s : State), g < 3 → n < 96 → s.mainOn = true → s.modeAdmits .ssf = true → s.role n = roleSpare →
    (s.pl n).group = some g → (s.leg n).sup.counted = true → s.groupRuns g = false →
    Completes (.release g n) s (fun t => (t.leg n).sup = .spare ∧ ∀ m, m ≠ n → (t.leg m).sup = (s.leg m).sup)) ∧
  (∀ (g a : Nat) (i : Insertion) (s : State), g < 3 → (s.phg g).ins = some i → i.rampAt = some a →
    (s.leg i.spare).sup = .inserting →
    Completes (.spareRampEnd g) s (fun t => (t.phg g).ins = none ∧ (t.leg i.spare).sup = .active ∧
      t.now = Nat.max s.now (a + s.rd PHG.TIMING_SPARE_RAMP g * msH))) ∧
  (∀ (n g a : Nat) (s : State), n < 96 → s.phaseGroup n = some g → (s.pl n).shadowAt = some a → (s.leg n).sup = .shadow →
    s.judgedLeg g n = false →
    Completes (.shadowTimeout n) s (fun t =>
      (∃ spare, (t.phg g).verdicts = (s.phg g).verdicts ++ [⟨n, some 1, spare⟩]) ∧
      t.now = Nat.max s.now (a + (s.rd PHG.TIMING_SHADOW_TMO g * msH - (s.pl n).shadow)) ∧ t.legs = s.legs)) ∧
  (∀ (n g a : Nat) (s : State), n < 96 → s.phaseGroup n = some g → (s.pl n).okSince = some a → (s.leg n).sup = .shadow →
    s.judgedLeg g n = false →
    Completes (.shadowRestore n) s (fun t => (t.leg n).sup = .active ∧ t.now = Nat.max s.now (a + 100 * msH)))

/-- The grid supervisor: a return request is latched in CEASE alone, a PROFILE write pends, the runs of EXIT_MS and
RESTORE_MS reach the mode manager, and the passive checks come back after PASSIVE_HOLD (R244 to R248). -/
def Obligations.GridTimers : Prop :=
  (∀ s : State, s.mm.cur = .cease → Completes .grdReturn s (fun t => t.rd GRD.STAT_RETURN_REQ = 1 ∧
    RegsBut [GRD.STAT_RETURN_REQ.key 0 0] s t ∧ SameBut (fun u => { u with regs := [] }) s t)) ∧
  (∀ s : State, s.mm.cur ≠ .cease → Completes .grdReturn s (fun t => SameBut id s t)) ∧
  (∀ (v : Nat) (s : State), v < 4 → s.mainOn = true →
    Completes (.profileWrite v) s (fun t => t.rd GRD.PROFILE = v ∧
      t.rd GRD.STAT_PENDING_SET = b2n (v ≠ s.rd GRD.STAT_SET) ∧ t.rd GRD.STAT_SET = s.rd GRD.STAT_SET)) ∧
  (∀ (a : Nat) (s : State), s.grd.exitAt = some a → s.rd GRD.CFG_EN ≠ 0 → s.mm.cur = .ride →
    Completes .exitMsExpiry s (fun t => Trigger.rideReturn ∈ t.mm.trig ∧ t.regs = s.regs ∧
      t.now = Nat.max s.now (a + s.rd GRD.SETCFG_EXIT_MS 0 (s.rd GRD.STAT_SET) * msH))) ∧
  (∀ (a : Nat) (s : State), s.grd.restoreAt = some a → s.rd GRD.CFG_EN ≠ 0 → s.mm.cur = .cease →
    Cause.momentaryCessation ∈ s.mm.causes →
    Completes .restoreMsExpiry s (fun t => Trigger.restored ∈ t.mm.trig ∧ t.regs = s.regs ∧
      t.now = Nat.max s.now (a + s.rd GRD.SETCFG_RESTORE_MS 0 (s.rd GRD.STAT_SET) * msH))) ∧
  (∀ s : State, s.mm.cur ∈ [Mode.follow, .form, .dawn] →
    Completes .passiveHoldExpiry s (fun t => t.rd GRD.STAT_PASSIVE ≠ 0 ∧ t.now = Nat.max s.now s.grd.passiveAt))

/-- The probe: a correlator sample joins the chip of its instant, the next multiple of 50 µs not sampled yet; an estimate is
formed at the next chip number divisible by 8 that had none; listen periods begin at the first code-period boundary at
least LISTEN seconds after the last, and end (R252, R253). -/
def Obligations.ProbeCommands : Prop :=
  (∀ s : State, s.dtOn = true → s.ready 37 = true → s.prb.cur = none → s.prb.lastAt = none →
    Completes .correlatorSample s (fun t => ∃ c, t.prb.cur = some c ∧
      t.prb.lastAt = some (ceilDiv s.dtNs 50000 * 50000) ∧ c.num = ceilDiv s.dtNs 50000 * 50000 / 4000000 ∧ c.n = 1)) ∧
  (∀ (a : Nat) (s : State), s.dtOn = true → s.ready 37 = true → s.prb.cur = none → s.prb.lastAt = some a → s.dtNs ≤ a →
    Completes .correlatorSample s (fun t => ∃ c, t.prb.cur = some c ∧
      t.prb.lastAt = some (a + 50000) ∧ c.num = (a + 50000) / 4000000 ∧ c.n = 1)) ∧
  (∀ s : State, s.dtOn = true → s.ready 37 = true →
    Completes .probeEstimate s (fun t => t.rd PRB.EST_CNT = Nat.min (s.rd PRB.EST_CNT + 1) 0xFFFFFFFF ∧
      t.prb.lastEst = Nat.max (ceilDiv s.dtNs (8 * chipNs)) (s.prb.lastEst / 8 + 1) * 8)) ∧
  (∀ (p : Nat) (s : State), s.dtOn = true → s.prb.listen = some p →
    Completes .listenPeriod s (fun t => t.prb.listen = none ∧ t.rd PRB.STAT_LISTENING = 0)) ∧
  (∀ s : State, s.dtOn = true → s.prb.listen = none → s.rd PRB.LISTEN ≠ 0 → s.probeRuns = true →
    Completes .listenPeriod s (fun t => (∃ p, t.prb.listen = some p ∧ t.prb.lastListen = (p * codeNs : Nat) ∧
      s.dtNs ≤ p * codeNs ∧ s.prb.lastListen + (s.rd PRB.LISTEN * 1000000000 : Nat) ≤ t.prb.lastListen) ∧
      t.rd PRB.STAT_LISTENING = 1))

/-- The inputs of the DC stage: the timed changes of their states, the retry count, UNBLOCK and SWEEP
(R265, R267, R268, R270, R271, R278, R282, R283). -/
def Obligations.DcInputs : Prop :=
  (∀ (k a : Nat) (s : State), k < 24 → (s.dci k).vinAt = some a → s.rd DCI.STAT_STATE k = 1 →
    Completes (.vinStartHold k) s (fun t => (t.dci k).toStart = true ∧ t.now = Nat.max s.now (a + secH) ∧
      (∀ j, j ≠ k → t.dci j = s.dci j) ∧ SameBut (fun u => { u with dcis := [], now := 0, pw := 0, dt := 0 }) s t)) ∧
  (∀ (k : Nat) (s : State), k < 24 → s.rd DCI.STAT_STATE k = 2 → (s.dci k).hand = false → (s.dci k).slow = false →
    Completes (.startSlow k) s (fun t => t.rd DCI.STAT_START_SLOW k = 1 ∧ (t.dci k).slow = true ∧
      t.rd DCI.STAT_STATE k = 2 ∧ t.now = Nat.max s.now ((s.dci k).since + 500 * msH))) ∧
  (∀ (k : Nat) (s : State), k < 24 → s.rd DCI.STAT_STATE k = 3 →
    Completes (.softStartEnd k) s (fun t => t.rd DCI.STAT_STATE k = 4 ∧ (t.dci k).held = (s.dci k).held ∧
      t.now = Nat.max s.now ((s.dci k).since + s.rd DCI.START_SS_MS k * msH))) ∧
  (∀ (k a : Nat) (s : State), k < 24 → (s.dci k).scAt = some a → s.rd DCI.STAT_STATE k ∈ [2, 3] →
    Completes (.shortDetection k) s (fun t => t.rd DCI.STAT_SC_SEEN k = 1 ∧
      t.rd DCI.STAT_RETRY k = Nat.min 4 (s.rd DCI.STAT_RETRY k + 1) ∧
      t.rd DCI.STAT_STATE k = (if 3 ≤ s.rd DCI.STAT_RETRY k then 8 else 7))) ∧
  (∀ (k : Nat) (s : State), k < 24 → s.rd DCI.STAT_STATE k = 7 →
    Completes (.hiccupEnd k) s (fun t => t.rd DCI.STAT_STATE k = 2 ∧
      t.now = Nat.max s.now ((s.dci k).since + 100 * msH))) ∧
  (∀ (k a : Nat) (s : State), k < 24 → (s.dci k).goodAt = some a →
    Completes (.retryCountReset k) s (fun t => t.rd DCI.STAT_RETRY k = 0 ∧ t.now = Nat.max s.now (a + 10 * secH) ∧
      RegsBut [DCI.STAT_RETRY.key k 0] s t ∧ SameBut (fun u => { u with regs := [], now := 0, pw := 0, dt := 0 }) s t)) ∧
  (∀ (k : Nat) (s : State), k < 24 → s.rd DCI.STAT_STATE k = 6 →
    Completes (.burstSleepEnd k) s (fun t => (t.dci k).toStart = true ∧
      t.now = Nat.max s.now ((s.dci k).since + s.rd DCI.BURST_SLEEP_MS k * msH) ∧
      (∀ j, j ≠ k → t.dci j = s.dci j) ∧ SameBut (fun u => { u with dcis := [], now := 0, pw := 0, dt := 0 }) s t)) ∧
  (∀ s : State, Completes .dawnPPost s (fun t => t.dcs.dawnAt = s.dcs.dawnAt + 100 * msH ∧
    t.now = Nat.max s.now (s.dcs.dawnAt + 100 * msH) ∧ t.legs = s.legs)) ∧
  (∀ (k : Nat) (s : State), k < 24 → s.modeAdmits .ssf = true → s.rd DCI.STAT_STATE k = 8 →
    Completes (.unblock k) s (fun t => t.rd DCI.STAT_STATE k = 0 ∧ t.rd DCI.STAT_RETRY k = 0)) ∧
  (∀ (k : Nat) (s : State), k < 24 → s.modeAdmits .ssf = false → Completes (.unblock k) s (fun t => SameBut id s t)) ∧
  (∀ (k : Nat) (s : State), k < 24 → s.mainOn = true →
    Completes (.sweep k) s (fun t => (t.dci k).sweep = true ∧ (∀ j, j ≠ k → t.dci j = s.dci j) ∧
      SameBut (fun u => { u with dcis := [] }) s t))

/-! ### Sensing (R157 to R177) -/

/-- The cores: a software trigger reaches the sequences that take it, a trigger starts a delay counter or is an overrun, a
burst starts or wakes its core, a slot ends with its result in the core's queue, a result lands in its four points, and
timers go on (R158 to R167, Table 7.6). -/
def Obligations.AdcCommands : Prop :=
  (∀ (c mask : Nat) (s : State), c < 18 → s.mainOn = true → s.bridgeHalted 79 = false →
    Completes (.adcSwtrig c mask) s (fun t => t.adcTrigs = s.adcTrigs ++
        ((onesOf mask 8).filter (fun q => s.rd CORE.SEQCTRL_EN c q ≠ 0 && s.rd CORE.SEQTRIG_SRC c q = 7)).map
          (fun q => (c, q, s.pw)) ∧
      SameBut (fun u => { u with adcTrigs := [] }) s t)) ∧
  (∀ (c q a : Nat) (rest : List (Nat × Nat × Nat)) (s : State), s.adcTrigs = (c, q, a) :: rest → s.ready (14 + c) = true →
    s.rd CORE.SEQCTRL_EN c q ≠ 0 → (s.seq c q).due = none →
    Completes .adcTrigger s (fun t => t.adcTrigs = rest ∧ (t.seq c q).due = some (a + 32 * s.rd CORE.SEQTRIG_DELAY c q) ∧
      (t.seq c q).pos = (s.seq c q).pos ∧ (t.seq c q).use = (s.seq c q).use ∧
      (t.seq c q).cfg.first = s.rd CORE.SEQCTRL_FIRST c q ∧ (t.seq c q).cfg.len = s.rd CORE.SEQCTRL_LEN c q ∧
      (t.seq c q).cfg.burst = (if s.rd CORE.SEQCTRL_BURST c q = 0 ∨ s.rd CORE.SEQCTRL_LEN c q < s.rd CORE.SEQCTRL_BURST c q
        then s.rd CORE.SEQCTRL_LEN c q else s.rd CORE.SEQCTRL_BURST c q) ∧ t.regs = s.regs)) ∧
  (∀ (c q a d : Nat) (rest : List (Nat × Nat × Nat)) (s : State), s.adcTrigs = (c, q, a) :: rest → s.ready (14 + c) = true →
    s.rd CORE.SEQCTRL_EN c q ≠ 0 → (s.seq c q).due = some d →
    Completes .adcTrigger s (fun t => t.adcTrigs = rest ∧ t.seqSt = s.seqSt ∧
      t.rd CORE.OVR_CNT c = Nat.min (s.rd CORE.OVR_CNT c + 1) 0xFFFFFFFF)) ∧
  (∀ (c q a : Nat) (s : State), c < 18 → q < 8 → (s.seq c q).due = some a → (s.seq c q).waiting = false →
    (s.core c).burst = none → s.rd CORE.STAT_WAKING c = 0 → s.rd CORE.STAT_POWERED c ≠ 0 →
    (s.results c).length < 32 →
    Completes (.burstReady c q) s (fun t => (t.seq c q).due = none ∧ t.rd CORE.STAT_BUSY c = 1 ∧
      t.rd CORE.STAT_RUN_SEQ c = q ∧ (∃ b, (t.core c).burst = some b ∧ b.seq = q ∧ b.at_ = s.realOf a) ∧
      t.pw = Nat.max s.pw a)) ∧
  (∀ (c q a : Nat) (s : State), c < 18 → q < 8 → (s.seq c q).due = some a → (s.seq c q).waiting = false →
    (s.core c).burst = none → s.rd CORE.STAT_WAKING c = 0 → s.rd CORE.STAT_POWERED c = 0 →
    Completes (.burstReady c q) s (fun t => (t.seq c q).waiting = true ∧ t.rd CORE.STAT_WAKING c = 1 ∧
      (t.core c).wakeAt = some (s.realOf a + 19200))) ∧
  (∀ (c q a : Nat) (b : BurstSt) (s : State), c < 18 → q < 8 → (s.seq c q).due = some a → (s.seq c q).waiting = false →
    (s.core c).burst = some b → b.seq ≠ q → s.rd CORE.STAT_WAKING c = 0 → s.rd CORE.STAT_POWERED c ≠ 0 →
    Completes (.burstReady c q) s (fun t => (t.seq c q).waiting = true ∧ (t.core c).burst = some b ∧
      t.rd CORE.LATE_CNT c = Nat.min (s.rd CORE.LATE_CNT c + 1) 0xFFFFFFFF ∧ RegsBut [CORE.LATE_CNT.key c 0] s t)) ∧
  (∀ (c a : Nat) (s : State), c < 18 → (s.core c).wakeAt = some a → s.nextWaiting c = none →
    Completes (.coreWakeDone c) s (fun t => t.rd CORE.STAT_WAKING c = 0 ∧ t.rd CORE.STAT_POWERED c = 1 ∧
      t.now = Nat.max s.now a)) ∧
  (∀ (c : Nat) (s : State), c < 18 → s.rd CORE.CFG c ≠ 0 → (s.core c).burst = none → s.nextWaiting c = none →
    s.rd CORE.STAT_POWERED c ≠ 0 →
    Completes (.corePowerDown c) s (fun t => t.rd CORE.STAT_POWERED c = 0 ∧ (t.core c).hoe = none ∧
      t.now = Nat.max s.now ((s.core c).idleAt + 2 * usH) ∧
      RegsBut [CORE.STAT_POWERED.key c 0, CORE.STAT_HOE.key c 0] s t)) ∧
  (∀ (c : Nat) (v : AinVolt) (b : BurstSt) (s : State), c < 18 → (s.core c).burst = some b → b.held = false → b.left ≤ 1 →
    s.nextWaiting c = none →
    Completes (.conversionEnd c v) s (fun t => (t.core c).burst = none ∧ t.rd CORE.STAT_BUSY c = 0 ∧
      t.now = Nat.max s.now b.endAt ∧
      ∃ tag, t.results c = s.results c ++ [⟨inputChan c b.input,
        s.chValue (inputChan c b.input) (s.adcCode (inputChan c b.input) v), tcode (s.adcCode (inputChan c b.input) v) 32,
        tag⟩])) ∧
  (∀ (i : Nat) (r : AdcRes) (rest : List AdcRes) (s : State), i < 34 → s.results i = r :: rest → r.chan < 176 →
    Completes (.sensorResultPost i) s (fun t => t.results i = rest ∧ t.sp (4 * r.chan) = r.value % 2 ^ 32 ∧
      t.sp (4 * r.chan + 1) = r.raw % 2 ^ 32 ∧ t.sp (4 * r.chan + 2) = r.tag % 2 ^ 32 ∧
      t.sp (4 * r.chan + 3) = (s.sp (4 * r.chan + 3) + 1) % 2 ^ 32 ∧
      (18 ≤ i → (s.sd (i - 18)).old = 0 → t.rd SD.STAT_SETTLING (i - 18) = 0))) ∧
  (∀ (k d : Nat) (s : State), k < 16 → (s.tmr k).next = some d →
    Completes (.timerExpiry k) s (fun t => (t.tmr k).next = some (d + 32 * s.rd TMR.PERIOD k) ∧
      t.pw = Nat.max s.pw d ∧ (∀ j, j ≠ k → t.tmr j = s.tmr j))) ∧
  (∀ (c : Nat) (s : State), c < 18 → s.mainOn = true → s.bridgeHalted 79 = false →
    Completes (.adcCntClr c) s (fun t => t.rd CORE.OVR_CNT c = 0 ∧ t.rd CORE.LATE_CNT c = 0 ∧
      RegsBut [CORE.OVR_CNT.key c 0, CORE.LATE_CNT.key c 0] s t ∧ SameBut (fun u => { u with regs := [] }) s t))

/-- System calibration: pending points are applied, the steps begin, end by their averages, noise or time-out, and ABORT
ends the procedure (R170, R171). -/
def Obligations.CalibrationSteps : Prop :=
  (∀ (ch v : Nat) (s : State), s.mainOn = true → s.bridgeHalted 79 = false → ch < 176 → v < 2 ^ 32 →
    tget s.shadow (calBase + 2 * ch + 1) = some v → fFinite v = true →
    fLt v gainLo = false → fLt gainHi v = false → fClamp gainLo gainHi v = v →
    Completes .coefApply s (fun t => t.sp (calBase + 2 * ch + 1) = v ∧
      tget t.shadow (calBase + 2 * ch + 1) = none)) ∧
  (∀ (ch : Nat) (s : State), ch < 176 → s.mainOn = true → s.bridgeHalted 79 = false → s.modeAdmits .sf = true →
    Completes (.calStepLo ch) s (fun t => t.rd CAL.STAT_STATE = 1 ∧ t.rd CAL.STAT_CHAN = ch ∧
      t.cal = { at_ := s.now })) ∧
  (∀ (ch : Nat) (s : State), ch < 176 → s.mainOn = true → s.bridgeHalted 79 = false → s.modeAdmits .sf = true →
    s.rd CAL.STAT_STATE = 2 →
    Completes (.calStepHi ch) s (fun t => t.rd CAL.STAT_STATE = 3 ∧ t.rd CAL.STAT_CHAN = s.rd CAL.STAT_CHAN ∧
      t.cal = { at_ := s.now })) ∧
  (∀ s : State, s.mainOn = true → s.bridgeHalted 79 = false → s.modeAdmits .sf = true → s.rd CAL.STAT_STATE ≠ 0 →
    Completes .calAbort s (fun t => t.rd CAL.STAT_STATE = 0 ∧ t.rd CAL.STAT_RESULT = 3)) ∧
  (∀ s : State, s.rd CAL.STAT_STATE = 1 → 4096 ≤ s.cal.n →
    (s.cal.hi - s.cal.lo) * 100 ≤ (4 * halfScale (s.rd CAL.STAT_CHAN) : Int) →
    Completes .calAverageDone s (fun t => t.rd CAL.STAT_STATE = 2 ∧ t.rd CAL.STAT_RESULT = 0 ∧
      t.rd CAL.MLO = fRatI s.cal.sum 4096 % 2 ^ 32 ∧ t.pts = s.pts)) ∧
  (∀ s : State, s.rd CAL.STAT_STATE = 1 → 4096 ≤ s.cal.n →
    (4 * halfScale (s.rd CAL.STAT_CHAN) : Int) < (s.cal.hi - s.cal.lo) * 100 →
    Completes .calAverageDone s (fun t => t.rd CAL.STAT_STATE = 0 ∧ t.rd CAL.STAT_RESULT = 1 ∧ t.pts = s.pts)) ∧
  (∀ s : State, s.rd CAL.STAT_STATE = 1 ∨ s.rd CAL.STAT_STATE = 3 → s.cal.n < 4096 →
    Completes .calTimeout s (fun t => t.rd CAL.STAT_STATE = 0 ∧ t.rd CAL.STAT_RESULT = 2 ∧
      t.now = Nat.max s.now (s.cal.at_ + 5 * secH) ∧ t.pts = s.pts))

/-- The sinc filters take the levels of their lines: a clock-and-data stream is sampled at the edge that CODING names, and
an interval of OSR bits leaves the result of R174, or one that is discarded while the filter settles; the 256th equal bit
sets STUCK, the 8th bit error of a Manchester stream sets LOST, its 64th good bit clears it and restarts the filter; SYNC
restarts the clock-and-data filters (R173 to R176, Table 7.7). How long the Manchester decoder waits for a transition is
the model's choice (log 135). -/
def Obligations.SincFilters : Prop :=
  (∀ (i at_ : Nat) (l : List (Bool × Bool)) (s : State), i < 16 → s.rd SD.STAT_RUN i ≠ 0 → s.ready 32 = true →
    s.rd SD.CFG_CODING i < 2 → l.length = s.rd SD.CFG_OSR i → l ≠ [] → (s.sd i).cnt = 0 → (s.sd i).skip = 0 →
    (s.sd i).held = [] → s.sdBad i = false → (s.sd i).run + l.length < 256 → (s.results (18 + i)).length < 16 →
    Completes (.sdiResult i (.clocked l) at_) s (fun t => t.now = Nat.max s.now at_ ∧
      ∃ tag raw, raw = (sdRaw (s.sdN i) (s.rd SD.CFG_OSR i) (s.sd i).combs
          ((l.map (fun e => if s.rd SD.CFG_CODING i = 0 then e.1 else e.2)).foldl (fun a b => sdBit a (if b then 1 else -1))
            (s.sd i).ints)).1 ∧
        t.results (18 + i) = s.results (18 + i) ++ [⟨160 + i, s.chValue (160 + i) raw, tcode raw 32, tag⟩])) ∧
  (∀ (i at_ : Nat) (l : List (Bool × Bool)) (s : State), i < 16 → s.rd SD.STAT_RUN i ≠ 0 → s.ready 32 = true →
    s.rd SD.CFG_CODING i < 2 → l.length = s.rd SD.CFG_OSR i → l ≠ [] → (s.sd i).cnt = 0 → (s.sd i).skip ≠ 0 →
    s.sdBad i = false → (s.sd i).run + l.length < 256 →
    Completes (.sdiResult i (.clocked l) at_) s (fun t => (t.sd i).skip = (s.sd i).skip - 1 ∧ (t.sd i).cnt = 0 ∧
      t.results (18 + i) = s.results (18 + i) ++ (s.sd i).held.take (16 - (s.results (18 + i)).length) ∧
      (t.sd i).held = (s.sd i).held.drop (16 - (s.results (18 + i)).length) ∧
      (∀ j, j ≠ 18 + i → t.results j = s.results j) ∧ RegsBut [GLB.QSTAT_HWM.key 0 (18 + i)] s t)) ∧
  (∀ (i more at_ : Nat) (l : List (Bool × Bool)) (s : State), i < 16 → s.rd SD.STAT_RUN i ≠ 0 → s.ready 32 = true →
    s.rd SD.CFG_CODING i < 2 → s.sdBad i = false → (s.sd i).run ≠ 0 → (s.sd i).run + l.length + more = 256 →
    (∀ e, e ∈ l → e = ((s.sd i).last, (s.sd i).last)) → (s.sd i).cnt + l.length + more < s.rd SD.CFG_OSR i → l ≠ [] →
    Completes (.sdiLink i (.clocked l) more at_) s (fun t => t.rd SD.STAT_STUCK i = 1 ∧ t.rd SD.STAT_LOST i = 0 ∧
      t.rd SD.STAT_LINK_EV i = 1 ∧ Posted s t 0x1B ∧ t.rd SD.BITERR_CNT i = s.rd SD.BITERR_CNT i ∧ t.resQ = s.resQ)) ∧
  (∀ (i at_ : Nat) (s : State), i < 16 → s.rd SD.STAT_RUN i ≠ 0 → s.ready 32 = true → s.rd SD.CFG_CODING i = 2 →
    s.sdBad i = false → (s.sd i).errs = 7 → 500000 < (s.sd i).since + s.rd SD.CFG_MBIT i →
    (s.sd i).cnt + 1 < s.rd SD.CFG_OSR i →
    Completes (.sdiLink i (.sampled [(s.sd i).level]) 0 at_) s (fun t => t.rd SD.STAT_LOST i = 1 ∧ t.rd SD.STAT_STUCK i = 0 ∧
      t.rd SD.STAT_LINK_EV i = 1 ∧ Posted s t 0x1B ∧
      t.rd SD.BITERR_CNT i = Nat.min (s.rd SD.BITERR_CNT i + 1) 0xFFFFFFFF ∧ t.resQ = s.resQ)) ∧
  (∀ (i at_ : Nat) (s : State), i < 16 → s.rd SD.STAT_RUN i ≠ 0 → s.ready 32 = true → s.rd SD.CFG_CODING i = 2 →
    s.rd SD.STAT_LOST i ≠ 0 → (s.sd i).good = 63 → (s.sd i).found = true →
    300000 ≤ (s.sd i).since + s.rd SD.CFG_MBIT i →
    Completes (.sdiLink i (.sampled [!(s.sd i).level]) 0 at_) s (fun t => t.rd SD.STAT_LOST i = 0 ∧
      t.rd SD.STAT_LINK_EV i = 1 ∧ t.rd SD.STAT_SETTLING i = 1 ∧ (t.sd i).skip = s.sdN i - 1 ∧ (t.sd i).cnt = 0 ∧
      Posted s t 0x1B ∧ t.resQ = s.resQ)) ∧
  (∀ (i : Nat) (s : State), i < 16 → s.mainOn = true → s.bridgeHalted 79 = false → s.rd SD.CFG_EN i ≠ 0 →
    s.rd SD.CFG_CODING i ≠ 2 →
    Completes .sdmSync s (fun t => (t.sd i).synced = some s.now ∧ (t.sd i).skip = s.sdN i - 1 ∧
      t.rd SD.STAT_SETTLING i = 1 ∧ t.rd SD.STAT_RUN i = 1)) ∧
  (∀ (i : Nat) (s : State), i < 16 → s.mainOn = true → s.bridgeHalted 79 = false →
    Completes .sdmCntClr s (fun t => t.rd SD.BITERR_CNT i = 0 ∧ SameBut (fun u => { u with regs := [] }) s t))

/-! ### Trellis (R287 to R304) -/

/-- The keep-alive and the downlink: stop and resume with their KA_STATE, a keep-alive that falls due and counts KA_SEQ, a
command for one segment, refused in SAFESTOP, its end with the last frame and its time-out (R291, R296 to R298, R304). -/
def Obligations.TrellisDownlink : Prop :=
  (∀ s : State, s.mainOn = true → s.has 10 = true → s.rd TRL.STAT_KA_HOST_STOP = 0 →
    Completes .kaStop s (fun t => t.rd TRL.STAT_KA_HOST_STOP = 1 ∧ Posted s t 0x63 ∧
      (∀ k, k < 24 → (t.seg k).kaWait = false) ∧ RegsBut [TRL.STAT_KA_HOST_STOP.key 0 0] s t ∧
      SameBut (fun u => { u with regs := [], evq := [], trl := {}, dcis := [] }) s t)) ∧
  (∀ s : State, s.mainOn = true → s.has 10 = true → s.rd TRL.STAT_KA_HOST_STOP ≠ 0 →
    s.mm.cur ≠ .safestop →
    Completes .kaResume s (fun t => t.rd TRL.STAT_KA_HOST_STOP = 0 ∧ Posted s t 0x63 ∧
      RegsBut [TRL.STAT_KA_HOST_STOP.key 0 0] s t ∧ SameBut (fun u => { u with regs := [], evq := [] }) s t)) ∧
  (∀ s : State, s.mm.cur = .safestop →
    Completes .kaResume s (fun t => SameBut (fun u => u) s t)) ∧
  (∀ (q : Nat) (x : Started) (b : List Nat) (s : State), Ready s q 0x63 x b → bits x.d.inl 0 8 = 0 →
    Ends (.kaCtrl q) s q x 0 (s.rd TRL.KA_SEQ) (fun t => t.rd TRL.STAT_KA_HOST_STOP ≠ 0 ∧
      SameBut (fun u => { u with regs := [], evq := [], rings := [], cplQ := [], trl := {}, dcis := [] }) s t)) ∧
  (∀ (q : Nat) (x : Started) (b : List Nat) (s : State), Ready s q 0x63 x b → bits x.d.inl 0 8 = 1 → s.mm.cur ≠ .safestop →
    Ends (.kaCtrl q) s q x 0 (s.rd TRL.KA_SEQ) (fun t => t.rd TRL.STAT_KA_HOST_STOP = 0 ∧
      SameBut (fun u => { u with regs := [], evq := [], rings := [], cplQ := [] }) s t)) ∧
  (∀ (q : Nat) (x : Started) (b : List Nat) (s : State), Ready s q 0x63 x b → bits x.d.inl 0 8 = 1 → s.mm.cur = .safestop →
    Ends (.kaCtrl q) s q x 0x30 (s.rd TRL.KA_SEQ) (fun t => t.regs = s.regs ∧
      SameBut (fun u => { u with rings := [], cplQ := [] }) s t)) ∧
  (∀ (k a : Nat) (s : State), k < 24 → s.kaOn = true → s.rd SEG.CFG_EN k ≠ 0 → (s.seg k).alive = false →
    (s.seg k).kaAt = some a → s.trl.kaInt = none →
    Completes (.keepaliveFrame k) s (fun t => t.now = Nat.max s.now a ∧ (t.seg k).kaWait = true ∧
      (t.seg k).kaDue = some t.now ∧ (t.seg k).kaAt = none ∧ t.trl.kaInt = some t.now ∧
      t.rd TRL.KA_SEQ = (s.rd TRL.KA_SEQ + 1) % 2 ^ 32 ∧ RegsBut [TRL.KA_SEQ.key 0 0] s t)) ∧
  (∀ (k n : Nat) (f : TrlFrame) (s : State), k < 24 → (s.seg k).ended = some (f, n) → f.type = 1 →
    Completes (.downlinkFrameEnd k) s (fun t => (t.seg k).ended = none ∧ (t.seg k).kaAt = some (n + 100 * msH) ∧
      (t.seg k).cmds = (s.seg k).cmds ∧ t.regs = s.regs)) ∧
  (∀ (q : Nat) (x : Started) (b : List Nat) (s : State), Ready s q 0x60 x b → s.mm.cur = .safestop →
    Ends (.trlCmd q) s q x 0x30 0 (fun t => SameBut (fun u => { u with rings := [], cplQ := [] }) s t)) ∧
  (∀ (q : Nat) (x : Started) (b : List Nat) (s : State), Ready s q 0x60 x b → s.mm.cur ≠ .safestop →
    bits x.d.arg 16 5 < 24 → 1 ≤ bits x.d.arg 28 4 → bits x.d.arg 28 4 ≤ 8 →
    Completes (.trlCmd q) s (fun t => Goes s t q ∧ t.regs = s.regs ∧
      (t.seg (bits x.d.arg 16 5)).cmds = (s.seg (bits x.d.arg 16 5)).cmds ++
        [⟨3, bits x.d.arg 0 15, (leBytes x.d.inl 8).take (bits x.d.arg 28 4), some q⟩] ∧
      t.trl.cmds = s.trl.cmds ++ [⟨q, s.now, 0, 1, false⟩])) ∧
  (∀ (k q n a m : Nat) (c : Bool) (x : Started) (f : TrlFrame) (s : State), k < 24 → (s.seg k).ended = some (f, n) → f.type = 3 →
    f.ring = some q → s.trl.cmds = [⟨q, a, m, 1, c⟩] → (s.ring q).started = some x →
    Completes (.downlinkFrameEnd k) s (fun t => (t.seg k).ended = none ∧ t.trl.cmds = [] ∧
      Ended s t q x (clampedIf c) (m + 1) ∧ t.regs = s.regs)) ∧
  (∀ (q : Nat) (x : Started) (c : TrlCmd) (rest : List TrlCmd) (s : State), q < 32 → s.trl.cmds = c :: rest → c.q = q →
    (s.ring q).started = some x →
    Completes (.trlCmdTimeout q) s (fun t => t.now = Nat.max s.now (c.at_ + secH) ∧ Ended s t q x 0x21 c.sent ∧
      (∀ d ∈ t.trl.cmds, d.q ≠ q) ∧ (∀ k, k < 24 → ∀ f ∈ (t.seg k).cmds, f.ring ≠ some q))) ∧
  (∀ (k : Nat) (s : State), k < 24 → s.mainOn = true → s.has 10 = true →
    Completes .trlCntClr s (fun t => t.rd SEG.RX_OK k = 0 ∧ t.rd SEG.RX_CRC k = 0 ∧ t.rd SEG.RX_MISS k = 0 ∧
      t.rd SEG.RX_UNK k = 0 ∧ t.rd SEG.ROUND_CNT k = 0 ∧ SameBut (fun u => { u with regs := [] }) s t))

/-- Rounds and the array map: a round and its batches, a poll that holds or waits for a credit of queue 75, replies
that the demodulator decodes and that framing counts as good, with a wrong CRC or unknown, or that are lost without a
credit, slots without a reply, the end of a round, the map's commands, its ageing and its fold (R281, R293 to R295,
R299 to R301, R304). -/
def Obligations.TrellisRoundsAndMap : Prop :=
  (∀ (k : Nat) (s : State), k < 24 → s.trlRuns = true → s.trlMode = true → s.rd SEG.CFG_EN k ≠ 0 →
    s.rd SEG.CFG_POLL_EN k ≠ 0 → (s.seg k).round = none → (s.seg k).now_ = true →
    Completes (.pollRoundStart k) s (fun t => (t.seg k).now_ = false ∧ t.rd SEG.STAT_POLLING k = 1 ∧
      (t.seg k).round = some { at_ := s.now, next := s.rd SEG.POLL_BASE k, left := s.rd SEG.POLL_COUNT k } ∧
      t.now = s.now ∧ RegsBut [SEG.STAT_POLLING.key k 0] s t)) ∧
  (∀ (k a : Nat) (s : State), k < 24 → s.trlRuns = true → s.trlMode = true → s.rd SEG.CFG_EN k ≠ 0 →
    s.rd SEG.CFG_POLL_EN k ≠ 0 → (s.seg k).round = none → (s.seg k).now_ = false → (s.seg k).roundAt = some a →
    Completes (.pollRoundStart k) s (fun t => (t.seg k).roundAt = some t.now ∧
      t.now = Nat.max s.now (a + s.rd SEG.ROUND_ROUND_S k * secH))) ∧
  (∀ (k : Nat) (r : TrlRound) (s : State), k < 24 → (s.seg k).round = some r → r.left ≠ 0 → (s.seg k).poll = none →
    r.batches = [] → s.mm.cur ≠ .safestop → (s.seg k).credit = true ∨ s.trlFrames < 64 →
    Completes (.pollFrame k) s (fun t => RegsBut [GLB.QSTAT_HWM.key 0 75] s t ∧ t.now = s.now ∧
      (t.seg k).credit = true ∧
        (∃ b, (t.seg k).poll = some (⟨2, r.next, [Nat.min 64 r.left, s.rd SEG.CFG_SLOT k], none⟩, b) ∧ b.addr = r.next ∧
        b.n = Nat.min 64 r.left) ∧
      (∃ u, (t.seg k).round = some u ∧ u.next = r.next + Nat.min 64 r.left ∧ u.left = r.left - Nat.min 64 r.left))) ∧
  (∀ (k : Nat) (r : TrlRound) (s : State), k < 24 → (s.seg k).round = some r → r.left ≠ 0 → (s.seg k).poll = none →
    r.batches = [] → (s.seg k).credit = false → 64 ≤ s.trlFrames → r.waits = false →
    Completes (.pollFrame k) s (fun t => (t.seg k).round = some { r with waits := true } ∧ (t.seg k).poll = none ∧
      t.rd GLB.QSTAT_STALL_CNT 0 75 = Nat.min (s.rd GLB.QSTAT_STALL_CNT 0 75 + 1) 0xFFFFFFFF ∧ t.now = s.now)) ∧
  (∀ (k p c a : Nat) (r : TrlRound) (b : TrlBatch) (l : List TrlBatch) (s : State), k < 24 → s.trlRuns = true →
    s.rd SEG.STAT_UL_RATE k = 0 → s.hears k p c a = true → (s.seg k).credit = true → (s.seg k).round = some r →
    r.batches = b :: l → b.sent = true → s.halts.contains .ckSys = false → s.trl.frames = [] →
    crc8 (leBytes p 5) ≠ c ∨ bits p 36 4 ≠ (b.addr + b.slot) % 16 →
    Completes (.uplinkReply k p c a) s (fun t => t.rd SEG.RX_CRC k = Nat.min (s.rd SEG.RX_CRC k + 1) 0xFFFFFFFF ∧
      t.capmem = s.capmem ∧ t.evq = s.evq ∧ t.trl.miss = s.trl.miss ∧ (t.seg k).credit = false ∧ t.trl.frames = [] ∧
      (t.seg k).round = some { r with batches := { b with heard := true } :: l })) ∧
  (∀ (k p a : Nat) (r : TrlRound) (b : TrlBatch) (l : List TrlBatch) (s : State), k < 24 → s.trlRuns = true →
    s.rd SEG.STAT_UL_RATE k = 0 → s.hears k p (crc8 (leBytes p 5)) a = true → (s.seg k).credit = true → (s.seg k).round = some r →
    r.batches = b :: l → b.sent = true → s.halts.contains .ckSys = false → s.trl.frames = [] →
    bits p 36 4 = (b.addr + b.slot) % 16 → (s.mapRead (b.addr + b.slot)).2.2.2 = false →
    mapValid (s.mapRead (b.addr + b.slot)).2.2.1 = false →
    Completes (.uplinkReply k p (crc8 (leBytes p 5)) a) s (fun t =>
      t.rd SEG.RX_UNK k = Nat.min (s.rd SEG.RX_UNK k + 1) 0xFFFFFFFF ∧ t.capmem = s.capmem ∧ (t.seg k).credit = false ∧
      t.trl.miss = s.trl.miss ∧ (t.seg k).round = some { r with batches := { b with heard := true } :: l })) ∧
  (∀ (k p a : Nat) (r : TrlRound) (b : TrlBatch) (l : List TrlBatch) (s : State), k < 24 → s.trlRuns = true →
    s.rd SEG.STAT_UL_RATE k = 0 → s.hears k p (crc8 (leBytes p 5)) a = true → (s.seg k).credit = true → (s.seg k).round = some r →
    r.batches = b :: l → b.sent = true → s.halts.contains .ckSys = false → s.trl.frames = [] →
    bits p 36 4 = (b.addr + b.slot) % 16 → (s.mapRead (b.addr + b.slot)).2.2.2 = false →
    mapValid (s.mapRead (b.addr + b.slot)).2.2.1 = true → mapSeg (s.mapRead (b.addr + b.slot)).2.2.1 = k →
    b.addr + b.slot < 0x7FFF → s.rd MEM.FLIP_CTRL = 0 →
    Completes (.uplinkReply k p (crc8 (leBytes p 5)) a) s (fun t =>
      t.rd SEG.RX_OK k = Nat.min (s.rd SEG.RX_OK k + 1) 0xFFFFFFFF ∧
      mapNstat (t.mapRead (b.addr + b.slot)).2.2.1 = bits p 30 6 ∧
      mapExpired (t.mapRead (b.addr + b.slot)).2.2.1 = false ∧
      mapValid (t.mapRead (b.addr + b.slot)).2.2.1 = true ∧
      (∃ u, (t.seg k).round = some u ∧ u.good = r.good + 1))) ∧
  (∀ (k p c a : Nat) (r : TrlRound) (b : TrlBatch) (l : List TrlBatch) (s : State), k < 24 → s.trlRuns = true →
    s.rd SEG.STAT_UL_RATE k = 0 → s.hears k p c a = true → (s.seg k).credit = true → (s.seg k).round = some r →
    r.batches = b :: l → b.sent = true → s.halts.contains .ckSys = true →
    Completes (.uplinkReply k p c a) s (fun t =>
      t.trl.frames = s.trl.frames ++ [⟨k, p, c, s.dtAt a, b.addr + b.slot⟩] ∧ (t.seg k).credit = false ∧ t.regs = s.regs ∧
      SameBut (fun u => { u with trl := {} }) s t)) ∧
  (∀ (k p c a : Nat) (s : State), k < 24 → s.hears k p c a = false ∨ (s.seg k).credit = false →
    Completes (.uplinkReply k p c a) s (fun t => SameBut id s t)) ∧
  (∀ (k : Nat) (r : TrlRound) (b : TrlBatch) (l : List TrlBatch) (s : State), k < 24 → (s.seg k).round = some r →
    r.batches = b :: l → b.got = false → b.heard = false →
    Completes (.replySlotEnd k) s (fun t => t.rd SEG.RX_MISS k = Nat.min (s.rd SEG.RX_MISS k + 1) 0xFFFFFFFF ∧
      t.now = Nat.max s.now (b.t0 + msH + (b.slot + 1) * b.len * 1280000) ∧
      (∃ u, (t.seg k).round = some u ∧ u.silent = r.silent ++ [b.addr + b.slot] ∧ u.missing = r.missing + 1) ∧
      RegsBut [SEG.RX_MISS.key k 0, GLB.QSTAT_HWM.key 0 75] s t)) ∧
  (∀ (k : Nat) (r : TrlRound) (b : TrlBatch) (l : List TrlBatch) (s : State), k < 24 → (s.seg k).round = some r →
    r.batches = b :: l → b.got = false → b.heard = true →
    Completes (.replySlotEnd k) s (fun t => RegsBut [GLB.QSTAT_HWM.key 0 75] s t ∧
      t.now = Nat.max s.now (b.t0 + msH + (b.slot + 1) * b.len * 1280000) ∧
      (∃ u, (t.seg k).round = some u ∧ u.silent = r.silent ++ [b.addr + b.slot] ∧ u.missing = r.missing))) ∧
  (∀ (k : Nat) (r : TrlRound) (s : State), k < 24 → (s.seg k).round = some r → r.left = 0 → (s.seg k).poll = none →
    r.batches = [] → r.silent = [] →
    Completes (.roundDone k) s (fun t => (t.seg k).round = none ∧ (t.seg k).fold = true ∧
      t.rd SEG.ROUND_CNT k = Nat.min (s.rd SEG.ROUND_CNT k + 1) 0xFFFFFFFF ∧ t.rd SEG.STAT_POLLING k = 0 ∧
      t.rd SEG.ROUND_MS k = (s.now - r.at_) / msH % 2 ^ SEG.ROUND_MS.width ∧ Posted s t 0x60)) ∧
  (∀ (q : Nat) (x : Started) (b : List Nat) (s : State), Ready s q 0x64 x b →
    Ends (.pollNow q) s q x 0 (s.rd SEG.ROUND_CNT (bits x.d.arg 0 5)) (fun t =>
      (t.seg (bits x.d.arg 0 5)).now_ = true ∧ t.regs = s.regs)) ∧
  (∀ (q a m str : Nat) (x : Started) (s : State), Ready s q 0x61 x (leBytes a 2 ++ [m, str] ++ leBytes 0 4) →
    a < 0x7FFF → m < 256 → str < 256 → bit m 7 = true → m % 32 < 24 → s.rd MEM.FLIP_CTRL = 0 →
    Ends (.mapWrite q) s q x 0 1 (fun t => (t.mapRead a).2.1 = 0 ∧ mapValid (t.mapRead a).2.2.1 = true ∧
      mapSeg (t.mapRead a).2.2.1 = m % 32 ∧ mapString (t.mapRead a).2.2.1 = str)) ∧
  (∀ (q a m str : Nat) (x : Started) (s : State), Ready s q 0x61 x (leBytes a 2 ++ [m, str] ++ leBytes 0 4) →
    a < 65536 → m < 256 → str < 256 → (0x7FFF ≤ a ∨ 24 ≤ m % 32) →
    Ends (.mapWrite q) s q x 0x11 0 (fun t => SameBut (fun u => { u with rings := [], cplQ := [] }) s t)) ∧
  (∀ (q : Nat) (x : Started) (b : List Nat) (s : State), Ready s q 0x62 x b → bits x.d.arg 0 15 + x.d.len / 16 ≤ 32768 →
    (s.mapGet (bits x.d.arg 0 15) (x.d.len / 16)).2.2 = none →
    Ends (.mapRead q) s q x 0 (x.d.len / 16) (fun t => HostBut x.d.ptr (16 * (x.d.len / 16)) s t ∧
      t.hostMem = placeBytes s.hostMem (hostBytes x.d.ptr
        ((s.mapGet (bits x.d.arg 0 15) (x.d.len / 16)).2.1.flatMap (fun w => leBytes w 8))))) ∧
  (∀ (q ca : Nat) (x : Started) (b : List Nat) (s : State), Ready s q 0x62 x b → bits x.d.arg 0 15 + x.d.len / 16 ≤ 32768 →
    (s.mapGet (bits x.d.arg 0 15) (x.d.len / 16)).2.2 = some ca →
    Ends (.mapRead q) s q x stEcc ca (fun t => t.hostMem = placeBytes s.hostMem (hostBytes x.d.ptr
        ((s.mapGet (bits x.d.arg 0 15) (x.d.len / 16)).2.1.flatMap (fun w => leBytes w 8))))) ∧
  (∀ s : State, s.has 10 = true → s.hoeRuns = true → s.rd HOE.STAT_SHED = 0 →
    Completes .mapAgeing s (fun t => t.now = Nat.max s.now s.hoe.ageAt ∧ t.hoe.ageAt = t.now + 3600 * secH ∧
      t.rd HOE.TASK 0 5 = t.dtNs)) ∧
  (∀ (k : Nat) (s : State), k < 24 → (s.seg k).fold = true → s.capmem = [] →
    (∀ i, i < 16 → s.rd MEM.REMAP_VALID 0 i = 0) →
    Completes (.mapFold k) s (fun t => (t.seg k).fold = false ∧ (t.dci k).foldAt = none ∧ t.sp (dcPt k + 6) = 0 ∧
      t.sp (dcPt k + 7) = fInf false ∧ t.sp (dcPt k + 4) = 0 ∧ t.sp (dcPt k + 5) = 0))

/-! ### Metering and retention (R305 to R325, R409 to R420) -/

/-- The metering unit: the seal, cycle and interval figures, frequency, reverse power, the S0 inputs, gaps, transfers to
Cloche, the restore and the opcodes (R308 to R310, R314 to R322). -/
def Obligations.MeteringFigures : Prop :=
  (∀ s : State, s.has 11 = true → s.mainOn = true → s.bridgeHalted 79 = false →
    Completes .seal s (fun t => t.rd MTR.CFG_SEAL = 1 ∧ RegsBut [MTR.CFG_SEAL.key 0 0] s t ∧
      SameBut (fun u => { u with regs := [] }) s t)) ∧
  (∀ (a : Nat) (s : State), s.has 11 = true → s.ready 43 = true → s.mtr.cycAt = none →
    Completes (.meterCycleEnd a) s (fun t => t.now = Nat.max s.now a ∧ t.mtr.cycAt = some t.now ∧ t.mtr.cyc = [] ∧
      t.mtr.acc = s.mtr.acc ∧ t.pts = s.pts ∧ t.regs = s.regs)) ∧
  (∀ (a d : Nat) (s : State), s.has 11 = true → s.ready 43 = true → s.mtr.cycAt = some d → s.mtr.cyc ≠ [] →
    s.mtrOn = true →
    Completes (.meterCycleEnd a) s (fun t => t.mtr.cycAt = some (Nat.max s.now a) ∧ t.mtr.cyc = [] ∧
      t.mtr.ivCyc = s.mtr.ivCyc + 1 ∧ t.sp 0x4411 = cyclePtot s.mtr.cyc % 2 ^ 32)) ∧
  (∀ (v : Int) (l : List Int) (s : State), s.has 11 = true → s.ready 43 = true → 12 ≤ s.mtr.ivCyc →
    s.mtr.ivSq = v :: l →
    Completes .meterIntervalEnd s (fun t => t.mtr.ivCyc = 0 ∧ t.mtr.ivN = 0 ∧ t.mtr.ivSq = [] ∧
      t.sp 0x4400 = rmsOf v s.mtr.ivN % 2 ^ 32)) ∧
  (∀ s : State, s.has 11 = true → s.ready 43 = true → s.mtr.fN ≠ 0 →
    Completes .meterFrequency s (fun t => t.mtr.fFrom = t.now ∧ t.mtr.fN = 0 ∧ t.mtr.fDur = 0 ∧
      t.sp 0x4410 = fRatio false (s.mtr.fN * secH) s.mtr.fDur % 2 ^ 32)) ∧
  (∀ (a : Nat) (s : State), s.has 11 = true → s.ready 43 = true → s.mtr.revAt = some a → s.rd MTR.STAT_REV_ACTIVE = 0 →
    s.rd MTR.REV_CFG_OPEN = 0 →
    Completes .revPower s (fun t => t.rd MTR.STAT_REV_ACTIVE = 1 ∧ Posted s t 0x70)) ∧
  (∀ (i a : Nat) (s : State), i < 4 → s.has 11 = true → s.ready 43 = true → s.rd S0.CFG_EN i ≠ 0 →
    (s.s0 i).armed = true → (s.s0 i).level = some (!s.rdB S0.CFG_POL i) →
    (s.s0 i).since + s.rd S0.CFG_MIN_MS i * msH ≤ Nat.max s.now a →
    Completes (.s0Pulse i (s.rdB S0.CFG_POL i) a) s (fun t => t.rd S0.COUNT i = (s.rd S0.COUNT i + 1) % 2 ^ 32 ∧
      t.rd S0.STAT_LEVEL i = 0 ∧ (t.s0 i).pulses = (s.s0 i).pulses + 1 ∧ (t.s0 i).armed = false ∧
      (t.s0 i).level = some (s.rdB S0.CFG_POL i) ∧ (t.s0 i).since = t.now ∧ t.now = Nat.max s.now a ∧
      RegsBut [S0.COUNT.key i 0, S0.STAT_LEVEL.key i 0] s t)) ∧
  (∀ (i a : Nat) (s : State), i < 4 → s.has 11 = true → s.ready 43 = true → (s.s0 i).level = some (s.rdB S0.CFG_POL i) →
    (s.s0 i).since + s.rd S0.CFG_MIN_MS i * msH ≤ Nat.max s.now a →
    Completes (.s0Pulse i (!s.rdB S0.CFG_POL i) a) s (fun t => (t.s0 i).armed = true ∧ t.rd S0.STAT_LEVEL i = 1 ∧
      (t.s0 i).pulses = (s.s0 i).pulses ∧ (t.s0 i).since = t.now ∧ RegsBut [S0.STAT_LEVEL.key i 0] s t)) ∧
  (∀ (i a : Nat) (high : Bool) (s : State), i < 4 → s.has 11 = true → s.ready 43 = true →
    Nat.max s.now a < (s.s0 i).since + s.rd S0.CFG_MIN_MS i * msH →
    Completes (.s0Pulse i high a) s (fun t => (t.s0 i).armed = (s.s0 i).armed ∧ (t.s0 i).pulses = (s.s0 i).pulses ∧
      (t.s0 i).level = some high ∧ RegsBut [S0.STAT_LEVEL.key i 0] s t)) ∧
  (∀ (i : Nat) (s : State), i < 4 → s.has 11 = true → s.mainOn = true → s.rd S0.CFG_EN i ≠ 0 → (s.s0 i).clean = false →
    Completes (.s0WindowEnd i) s (fun t => (t.s0 i).pulses = 0 ∧
      t.rd S0.STAT_SKIPPED i = Nat.min (s.rd S0.STAT_SKIPPED i + 1) 65535 ∧ t.evq = s.evq ∧
      RegsBut [S0.STAT_SKIPPED.key i 0] s t)) ∧
  (∀ s : State, s.has 11 = true → s.mainOn = true → s.rd MTR.CFG_EN ≠ 0 → s.mapOk = false → s.mtr.gap = none →
    Completes .meterGap s (fun t => t.mtr.gap = some (s.now, 0, 0) ∧ t.mtr.cyc = [] ∧ Posted s t 0x74 ∧
      t.mtr.acc = s.mtr.acc)) ∧
  (∀ (a c n : Nat) (s : State), s.mainOn = true → s.mtrOn = true → s.mtr.gap = some (a, c, n) →
    Completes .meterGap s (fun t => t.mtr.gap = none ∧ t.mtr.gapH = s.mtr.gapH + (s.now - a) ∧ Posted s t 0x74 ∧
      t.mtr.acc = s.mtr.acc)) ∧
  (∀ s : State, s.has 11 = true → s.ready 43 = true → s.mtr.restored = true → s.clo.queue.length < 4 →
    Completes .retentionTransfer s (fun t => (∃ u, t.clo.queue = s.clo.queue ++ [u] ∧ u.pf = false ∧ u.dt = t.dtNs) ∧
      t.mtr.acc = s.mtr.acc ∧ t.mtr.ratedNew = false)) ∧
  (∀ s : State, s.has 11 = true → s.ready 3 = true → s.mtr.restored = false → s.rd CLO.STAT_LOST = 0 →
    s.rd CLO.STAT_PF_DONE ≠ 0 →
    Completes .meterRestore s (fun t => t.mtr.restored = true ∧ (∀ i, i < 4 → t.rd S0.COUNT i = tgetD s.clo.s0 i 0 % 2 ^ 32) ∧
      t.mtr.sent = s.clo.acc ∧ t.rd CLO.STAT_PF_DONE = 0 ∧ t.rd MTR.STAT_PF_INCOMPLETE = 0 ∧
      ∃ l lo r, t.evq = s.evq ++ ⟨evWord 0x72 l lo⟩ :: r)) ∧
  (∀ (q : Nat) (x : Started) (b : List Nat) (s : State), Ready s q 0x70 x b →
    Ends (.mtrSnapshot q) s q x 0 ((s.mtr.snap + 1) % 2 ^ 32) (fun t => t.mtr.snap = (s.mtr.snap + 1) % 2 ^ 32 ∧
      t.mtr.acc = s.mtr.acc ∧ t.regs = s.regs ∧ HostBut x.d.ptr 576 s t ∧
      (∃ r : List Nat, r.length = 576 ∧ t.hostMem = placeBytes s.hostMem (hostBytes x.d.ptr r)))) ∧
  (∀ (q : Nat) (x : Started) (b : List Nat) (s : State), Ready s q 0x71 x b → s.rd MTR.STAT_LOST ≠ 0 →
    Ends (.mtrLostAck q) s q x 0 (s.rd MTR.LOST_INFO_CASE) (fun t => t.rd MTR.STAT_LOST = 0 ∧
      t.rd MTR.LOST_INFO_CASE = 0 ∧ t.rd MTR.LOST_NS = 0 ∧ t.mtr.acc = s.mtr.acc)) ∧
  (∀ (q : Nat) (x : Started) (b : List Nat) (s : State), Ready s q 0x72 x b → s.rd CLO.STAT_LOST = 0 → s.clo.live = true →
    s.rd CLO.STAT_BUSY = 0 → s.rd CLO.STAT_STAGE < 2 → s.guardOf.2.2 = true →
    Completes (.mtrCommitNow q) s (fun t => Goes s t q ∧ t.rd CLO.STAT_BUSY = 1 ∧ t.rd CLO.STAT_DEFERRED = 0 ∧
      t.clo.ringsNow = s.clo.rings ++ [q] ∧ t.clo.rings = [])) ∧
  (∀ (q : Nat) (x : Started) (b : List Nat) (s : State), Ready s q 0x72 x b → s.rd CLO.STAT_LOST = 0 → s.clo.live = true →
    s.rd CLO.STAT_BUSY = 0 → s.rd CLO.STAT_STAGE < 2 → s.guardOf.2.2 = false → s.clo.rings = [] →
    Ends (.mtrCommitNow q) s q x 0 0 (fun t => t.rd CLO.STAT_DEFERRED = 1 ∧ t.rd CLO.STAT_DUE = 1 ∧
      t.rd CLO.DEFER_CNT = Nat.min (s.rd CLO.DEFER_CNT + 1) 0xFFFFFFFF ∧ t.clo.slotA = s.clo.slotA ∧
      t.clo.slotB = s.clo.slotB))

/-- Cloche: updates are applied whole while the die runs, commits fall due, end in their slot as its
512 B, and its samples, stages and clears follow the
store (R411 to R418, R420, Table 18.3). -/
def Obligations.RetentionAndStore : Prop :=
  (∀ (u : RetUpd) (rest : List RetUpd) (s : State), s.clo.live = true → s.clo.queue = u :: rest → u.pf = false →
    Completes .retentionUpdateApply s (fun t => t.clo.queue = rest ∧ t.clo.dt = u.dt ∧ t.clo.lost = u.lost ∧
      t.clo.rated = u.rated.getD s.clo.rated ∧ t.regs = s.regs ∧ SameBut (fun v => { v with clo := {} }) s t)) ∧
  (∀ (u : RetUpd) (rest : List RetUpd) (s : State), s.clo.live = true → s.clo.queue = u :: rest → u.pf = true →
    Completes .retentionUpdateApply s (fun t => t.clo.queue = rest ∧ t.clo.dt = u.dt ∧ t.rd CLO.STAT_PF_DONE = 1)) ∧
  (∀ s : State, s.clo.live = false → Completes .retentionUpdateApply s (fun t => SameBut id s t)) ∧
  (∀ s : State, s.rd CLO.STAT_PF_DONE ≠ 0 → s.mm.cur = .keepalive → s.rd CLO.STAT_LOST = 0 → s.clo.live = true →
    s.rd CLO.STAT_BUSY = 0 → s.rd CLO.STAT_STAGE < 2 →
    s.guardOf.2.2 = true →
    Completes (.commitDue true) s (fun t => t.rd CLO.STAT_BUSY = 1 ∧ t.rd CLO.STAT_DUE = 1 ∧
      (∃ f, t.clo.stage_ = some (f, s.clo.nextB, s.now) ∧ f.seq = (s.clo.seq + 1) % 2 ^ 32 ∧ f.acc = s.clo.acc ∧
        f.dt = s.clo.dt))) ∧
  (∀ s : State, s.dtOn = true → s.has 11 = true → s.ready 43 = true → s.rd CLO.STAT_LOST = 0 → s.clo.live = true →
    s.rd CLO.STAT_BUSY ≠ 0 →
    Completes (.commitDue false) s (fun t => t.rd CLO.STAT_DUE = 1 ∧ t.clo.again = true ∧
      t.clo.stage_ = s.clo.stage_ ∧ RegsBut [CLO.STAT_DUE.key 0 0] s t)) ∧
  (∀ (f : FramSlot) (n : Nat) (s : State), s.clo.stage_ = some (f, true, n) → s.clo.again = false →
    Completes (.framCommitDone true) s (fun t => t.clo.slotB = f.bytes ∧ t.clo.slotA = s.clo.slotA ∧ t.clo.seq = f.seq ∧
      t.clo.stage_ = none ∧ t.rd CLO.STAT_BUSY = 0 ∧ t.rd CLO.STAT_DUE = 0 ∧
      t.rd CLO.COMMIT_CNT = Nat.min (s.rd CLO.COMMIT_CNT + 1) 0xFFFFFFFF ∧
      t.now = Nat.max s.now (n + (10 * s.rd CLO.NVM_T_PU + 1060) * usH))) ∧
  (∀ (f : FramSlot) (n : Nat) (s : State), s.clo.stage_ = some (f, false, n) → s.clo.again = false →
    s.rd CLO.STAT_STAGE < 2 →
    Completes (.framCommitDone false) s (fun t => t.clo.slotA = [] ∧ t.clo.slotB = s.clo.slotB ∧ t.clo.seq = s.clo.seq ∧
      t.rd CLO.STAT_BUSY = 0 ∧ t.rd CLO.COMMIT_CNT = s.rd CLO.COMMIT_CNT)) ∧
  (∀ (v h a : Nat) (s : State), s.clo.live = true → 2500 ≤ v → s.rd CLO.STAT_DUE = 0 →
    Completes (.storeSample v h false a) s (fun t => t.now = Nat.max s.now a ∧ t.rd CLO.VOLT_VSTORE = Nat.min v 65535 ∧
      t.rd CLO.VOLT_VHARV = Nat.min h 65535 ∧ t.rd CLO.STAT_STAGE = 0 ∧ t.clo.live = true)) ∧
  (∀ (v h a : Nat) (p : Bool) (s : State), s.clo.live = true → v < 1800 →
    Completes (.storeSample v h p a) s (fun t => t.rd CLO.STAT_STAGE = 3 ∧ t.rd CLO.STAT_LOST = 1 ∧
      t.rd CLO.STAT_RTC_VALID = 0 ∧ t.clo.live = false ∧ t.clo.acc = [] ∧ t.clo.stage_ = none ∧
      t.rd CLO.STAT_BUSY = 0 ∧ t.clo.slotA = (match s.clo.stage_ with
        | some (_, false, _) => []
        | _ => s.clo.slotA) ∧
      t.clo.slotB = (match s.clo.stage_ with
        | some (_, true, _) => []
        | _ => s.clo.slotB))) ∧
  (∀ (a : Nat) (s : State), s.clo.live = false → 330 ≤ s.clo.vHarv →
    Completes (.keepaliveDieStart a) s (fun t => t.clo.live = true ∧ t.rd CLO.STAT_COLD = 1 ∧ t.rd CLO.STAT_STAGE = 2 ∧
      t.rd CLO.VOLT_VSTORE = 1900 ∧ t.rd CLO.LOG_KIND 0 0 = 5 ∧ t.now = Nat.max s.now a)) ∧
  (∀ (a : Nat) (s : State), s.clo.live = false → s.clo.vHarv < 330 → s.charging = true →
    Completes (.keepaliveDieStart a) s (fun t => t.clo.live = true ∧ t.rd CLO.STAT_STAGE = 2 ∧
      t.rd CLO.VOLT_VSTORE = 1900 ∧ t.now = Nat.max s.now a ∧
      RegsBut [CLO.STAT_STAGE.key 0 0, CLO.VOLT_VSTORE.key 0 0] s t)) ∧
  (∀ (a : Nat) (s : State), s.clo.live = false → s.clo.vHarv < 330 → s.charging = false →
    Completes (.keepaliveDieStart a) s (fun t => t.clo.live = false ∧ t.regs = s.regs)) ∧
  (∀ (i : Nat) (s : State), i < 6 → s.mainOn = true →
    Completes .logClr s (fun t => t.rd CLO.LOG_SEC 0 i = 0 ∧ t.rd CLO.LOG_KIND 0 i = 0 ∧ t.rd CLO.LOG_ITEM 0 i = 0 ∧
      t.rd CLO.LOG_MV 0 i = 0 ∧ SameBut (fun u => { u with regs := [] }) s t)) ∧
  (∀ s : State, s.mainOn = true → Completes .cloCntClr s (fun t => t.rd CLO.COMMIT_CNT = 0 ∧ t.rd CLO.DEFER_CNT = 0 ∧
    RegsBut [CLO.COMMIT_CNT.key 0 0, CLO.DEFER_CNT.key 0 0] s t ∧ SameBut (fun u => { u with regs := [] }) s t)) ∧
  (∀ (on : Bool) (s : State), s.rdB CLO.STAT_XTAL ≠ on →
    Completes (.xtal32kOscillationChange on) s (fun t => t.rd CLO.STAT_XTAL = b2n on ∧ t.clo.rtcNs = s.rtcNow ∧
      t.clo.rtcAt = s.now ∧ RegsBut [CLO.STAT_XTAL.key 0 0] s t))

/-! ### Capture (R326 to R345) -/

/-- Sieve: a capture arms or is refused, force, abort and the auto trigger, clock events taken up or skipped, the end of a
capture, reads, and the trace streams (R331 to R341, R343 to R345). -/
def Obligations.SieveCaptures : Prop :=
  (∀ (q e : Nat) (x : Started) (b : List Nat) (s : State), Ready s q 0x50 x b → e = bits x.d.arg 0 3 → s.capOf e = none →
    s.rd CAP.BASE e + s.rd CAP.SIZE e ≤ s.sieRegion → s.rd CAP.CFG_RAW_EN e ≠ 0 → s.rd CAP.CFG_SRC e ≠ 0 →
    Completes (.sieCapture q) s (fun t => Goes s t q ∧ t.evq = s.evq ∧
      t.rd CAP.STAT_STATE e = (if s.rd CAP.PRE e = 0 then 2 else 1) ∧
      ∃ c, t.capOf e = some c ∧ c.ring = some q ∧ c.idx = 0 ∧ c.trigIdx = none ∧ c.ending = none ∧
        c.cfg.post = s.rd CAP.POST e ∧ c.cfg.pre = s.rd CAP.PRE e)) ∧
  (∀ (q e : Nat) (x : Started) (b : List Nat) (s : State), Ready s q 0x50 x b → e = bits x.d.arg 0 3 →
    (s.capOf e).isSome = true →
    Ends (.sieCapture q) s q x 0x11 (0x80 * 2 ^ 24) (fun t => SameBut (fun u => { u with rings := [], cplQ := [] }) s t)) ∧
  (∀ (q e : Nat) (x : Started) (b : List Nat) (s : State), Ready s q 0x50 x b → e = bits x.d.arg 0 3 → s.capOf e = none →
    s.sieRegion < s.rd CAP.BASE e + s.rd CAP.SIZE e →
    Ends (.sieCapture q) s q x 0x11 (0x81 * 2 ^ 24) (fun t => SameBut (fun u => { u with rings := [], cplQ := [] }) s t)) ∧
  (∀ (q e : Nat) (x : Started) (b : List Nat) (c : CapSt) (s : State), Ready s q 0x51 x b → e = bits x.d.arg 0 3 →
    s.capOf e = some c → s.rd CAP.STAT_STATE e = 2 → c.cause = none →
    Ends (.sieForce q) s q x 0 2 (fun t => t.capOf e = some { c with cause := some ⟨1, 0, s.dtNs, s.dtNs, 0, fabCycle s.now⟩ } ∧
      t.regs = s.regs)) ∧
  (∀ (e : Nat) (c : CapSt) (s : State), e < 8 → s.mainOn = true → s.bridgeHalted 78 = false →
    s.capOf e = some c → s.rd CAP.STAT_STATE e = 1 → c.cause = none →
    Completes (.capForce e) s (fun t => t.capOf e = some { c with cause := some ⟨1, 0, s.dtNs, s.dtNs, 0, fabCycle s.now⟩ } ∧
      SameBut (fun u => { u with caps := [] }) s t)) ∧
  (∀ (e : Nat) (s : State), e < 8 → s.mainOn = true → s.bridgeHalted 78 = false → s.capOf e = none →
    Completes (.capForce e) s (fun t => SameBut (fun u => u) s t)) ∧
  (∀ (q e : Nat) (x : Started) (b : List Nat) (c : CapSt) (s : State), Ready s q 0x52 x b → e = bits x.d.arg 0 3 →
    s.capOf e = some c →
    Ends (.sieAbort q) s q x 0 (s.rd CAP.STAT_STATE e) (fun t => t.capOf e = some { c with abort := true } ∧
      t.regs = s.regs)) ∧
  (∀ (e : Nat) (c : CapSt) (s : State), e < 8 → s.mainOn = true → s.bridgeHalted 78 = false →
    s.capOf e = some c →
    Completes (.capAbort e) s (fun t => t.capOf e = some { c with abort := true } ∧
      SameBut (fun u => { u with caps := [] }) s t)) ∧
  (∀ (q : Nat) (x : Started) (b : List Nat) (s : State), Ready s q 0x53 x b →
    (s.memGet ((sieveBase + bits x.d.arg 0 32) / 8) (x.d.len / 8)).2.2 = none →
    Ends (.sieRead q) s q x 0 x.d.len (fun t => HostBut x.d.ptr (8 * (x.d.len / 8)) s t ∧
      t.hostMem = placeBytes s.hostMem (hostBytes x.d.ptr
        ((s.memGet ((sieveBase + bits x.d.arg 0 32) / 8) (x.d.len / 8)).2.1.flatMap (fun w => leBytes w 8))))) ∧
  (∀ (e dt : Nat) (rest : List (Nat × Nat)) (c : CapSt) (s : State), s.engTrigs = (e, dt) :: rest → s.capOf e = some c →
    c.ending = none → s.sieRuns = true → c.lastEv = none → (c.events + 1) % c.cfg.div = 0 →
    Completes .captureEngineSample s (fun t => t.engTrigs = rest ∧ t.rd CAP.IDX e = (c.idx + 1) % 2 ^ 32 ∧
      t.now = s.now ∧ t.pts = s.pts)) ∧
  (∀ (e dt d : Nat) (rest : List (Nat × Nat)) (c : CapSt) (s : State), s.engTrigs = (e, dt) :: rest → s.capOf e = some c →
    c.ending = none → s.sieRuns = true → c.lastEv = some d → d ≤ dt → dt < d + 250 →
    Completes .captureEngineSample s (fun t => t.engTrigs = rest ∧ t.capOf e = some c ∧
      t.rd CAP.SKIP_CNT e = Nat.min (s.rd CAP.SKIP_CNT e + 1) 0xFFFFFFFF ∧ RegsBut [CAP.SKIP_CNT.key e 0] s t)) ∧
  (∀ (e a : Nat) (c : CapSt) (s : State), e < 8 → s.capOf e = some c → c.armedAt = some a → c.cfg.auto ≠ 0 →
    c.cause = none → s.rd CAP.STAT_STATE e = 2 →
    Completes (.autoTriggerExpiry e) s (fun t => t.now = Nat.max s.now (a + c.cfg.auto * msH) ∧ t.regs = s.regs ∧
      ∃ k, t.capOf e = some { c with cause := some k } ∧ k.kind = 2 ∧ k.dt = t.dtNs)) ∧
  (∀ (e q code : Nat) (x : Started) (c : CapSt) (s : State), e < 8 → s.capOf e = some c → (∀ j, j < e → s.capOf j = none) →
    c.ending = some code → c.ring = some q → (s.ring q).started = some x →
    Completes .captureEnd s (fun t => t.capOf e = none ∧ t.rd CAP.STAT_STATE e = 4 ∧ Posted s t 0x50 ∧
      Ended s t q x (if code = 1 then 0x22 else 0) (code * 2 ^ 24 + c.endIdx % 2 ^ 24))) ∧
  (∀ (i v : Nat) (s : State), i < 16 → s.mainOn = true → s.bridgeHalted 78 = false → v < 2 ^ 32 → v % 8 = 0 →
    Completes (.ridxWrite i v) s (fun t => t.rd TRS.RIDX i = v ∧ RegsBut [TRS.RIDX.key i 0, GLB.QSTAT_HWM.key 0 78] s t)) ∧
  (∀ (i : Nat) (s : State), i < 16 → s.mainOn = true → s.bridgeHalted 78 = false → s.rd TRS.CFG_EN i = 0 →
    s.rd TRS.BASE i + s.rd TRS.SIZE i ≤ s.sieRegion →
    Completes (.traceStreamEnable i) s (fun t => t.rd TRS.CFG_EN i = 1 ∧ t.rd TRS.CFG_BAD_BUF i = 0 ∧
      (t.trs i).staged = [] ∧ ((s.trs i).staged = [] → (s.trs i).written % 8 = 0 →
        RegsBut [TRS.CFG_EN.key i 0, TRS.CFG_BAD_BUF.key i 0] s t))) ∧
  (∀ (i : Nat) (s : State), i < 16 → s.mainOn = true → s.bridgeHalted 78 = false → s.rd TRS.CFG_EN i = 0 →
    s.sieRegion < s.rd TRS.BASE i + s.rd TRS.SIZE i →
    Completes (.traceStreamEnable i) s (fun t => t.rd TRS.CFG_EN i = 0 ∧ t.rd TRS.CFG_BAD_BUF i = 1 ∧
      t.trss = s.trss ∧ RegsBut [TRS.CFG_EN.key i 0, TRS.CFG_BAD_BUF.key i 0] s t)) ∧
  (∀ (i : Nat) (s : State), i < 16 → s.mainOn = true → s.bridgeHalted 78 = false →
    Completes .sieCntClr s (fun t => t.rd TRG.FIRE_CNT i = 0 ∧ t.rd TRS.DROP_CNT i = 0 ∧ (i < 8 → t.rd CAP.SKIP_CNT i = 0) ∧
      SameBut (fun u => { u with regs := [] }) s t)) ∧
  (∀ (w : Nat) (s : State), w < 0xE00000 → s.mem.rr = 23 → s.stagedOf 0 ≠ [] →
    Completes (.captureMemoryAccess w 0) s (fun t => t.stagedOf 0 = (s.stagedOf 0).drop 64 ∧ t.mem.rr = 0 ∧
      t.trss = s.trss ∧ t.evq = s.evq))

/-! ### Capture memory and background upkeep (R349 to R358, R368 to R371) -/

/-- Capture memory: the flip mask, the test port, remapping and its refusal outside SERVICE and FACTORY, initialisation, the
bucket and the scrub (R349, R352 to R359). -/
def Obligations.CaptureMemory : Prop :=
  (∀ s : State, s.modeAdmits .sf = true →
    Completes .flipArm s (fun t => t.rd MEM.FLIP_CTRL = 1 ∧ RegsBut [MEM.FLIP_CTRL.key 0 0] s t ∧ t.evq = s.evq)) ∧
  (∀ s : State, s.mainOn = true → s.modeAdmits .sf = false →
    Completes .flipArm s (fun t => Posted s t 0x03 ∧ SameBut (fun u => { u with evq := [] }) s t)) ∧
  (∀ (w : Bool) (s : State), s.modeAdmits .sf = true →
    Completes (.testPortGo w) s (fun t => t.mem.test = some (s.now, w) ∧ t.rd MEM.TEST_STAT_DONE = 0 ∧
      t.rd MEM.TEST_STAT_CE = 0 ∧ t.rd MEM.TEST_STAT_UE = 0 ∧ t.capmem = s.capmem)) ∧
  (∀ (n : Nat) (s : State), s.mem.test = some (n, true) → s.rd MEM.FLIP_CTRL = 0 →
    Completes .testPortDone s (fun t => t.mem.test = none ∧ t.rd MEM.TEST_STAT_DONE = 1 ∧
      t.now = Nat.max s.now (n + 2 * usH) ∧
      (t.memRead (s.rd MEM.TEST_ADDR)).2 = (s.rd MEM.TEST_DATA % 2 ^ 64, false))) ∧
  (∀ (n : Nat) (s : State), s.mem.test = some (n, false) →
    Completes .testPortDone s (fun t => t.mem.test = none ∧ t.rd MEM.TEST_STAT_DONE = 1 ∧
      t.now = Nat.max s.now (n + 2 * usH) ∧ t.rd MEM.TEST_DATA = (s.memRead (s.rd MEM.TEST_ADDR)).2.1 % 2 ^ 64 ∧
      t.rd MEM.TEST_STAT_UE = b2n (s.memRead (s.rd MEM.TEST_ADDR)).2.2)) ∧
  (∀ (g i : Nat) (s : State), s.modeAdmits .sf = true → g < 0x1C0000 → s.remapOf g = none → i < 16 →
    s.rd MEM.REMAP_VALID 0 i = 0 → s.rd MEM.REMAP_BAD 0 i = 0 →
    (∀ j, j < i → s.rd MEM.REMAP_VALID 0 j ≠ 0 ∨ s.rd MEM.REMAP_BAD 0 j ≠ 0) →
    Completes (.remapCmd g) s (fun t => t.rd MEM.REMAP_VALID 0 i = 1 ∧ t.rd MEM.REMAP_GRANULE 0 i = g ∧
      t.remapOf g = some i ∧ t.evq = s.evq)) ∧
  (∀ (g : Nat) (s : State), s.mainOn = true → s.modeAdmits .sf = false →
    Completes (.remapCmd g) s (fun t => Posted s t 0x03 ∧ SameBut (fun u => { u with evq := [] }) s t)) ∧
  (∀ s : State, s.mainOn = true → Completes .memCntClr s (fun t => t.rd MEM.CE_CNT = 0 ∧ t.rd MEM.UE_CNT = 0 ∧
    t.rd MEM.OVF_CNT = 0 ∧
    RegsBut [MEM.CE_CNT.key 0 0, MEM.UE_CNT.key 0 0, MEM.OVF_CNT.key 0 0] s t ∧
    SameBut (fun u => { u with regs := [] }) s t)) ∧
  (∀ (a bad : Nat) (s : State), s.rd MEM.STAT_INIT_MIB ≠ 0 → s.rd MEM.STAT_INIT_MIB < 111 → s.rd MEM.STAT_INIT_MIB ≠ 15 →
    Completes (.memoryInitStep a bad) s (fun t => t.rd MEM.STAT_INIT_MIB = s.rd MEM.STAT_INIT_MIB + 1 ∧
      t.now = Nat.max s.now a ∧
      (∀ p, p / 131072 = s.rd MEM.STAT_INIT_MIB → s.remapOf (p / 8) = none → s.rd MEM.FLIP_CTRL = 0 → t.memCell p = {}) ∧
      RegsBut ([MEM.STAT_INIT_MIB.key 0 0, MEM.FLIP_CTRL.key 0 0] ++
        (List.range 16).map (fun j => MEM.REMAP_PMASK.key 0 j)) s t)) ∧
  (∀ (a bad : Nat) (s : State), s.rd MEM.STAT_INIT_MIB = 15 → s.mem.nvmRemap = [] →
    Completes (.memoryInitStep a bad) s (fun t => t.rd MEM.STAT_INIT_MIB = 16 ∧ t.ready 39 = true)) ∧
  (∀ (a bad : Nat) (s : State), s.rd MEM.STAT_INIT_MIB = 111 →
    Completes (.memoryInitStep a bad) s (fun t => t.rd MEM.STAT_INIT_MIB = 112 ∧ t.rd MEM.STAT_INIT_DONE = 1 ∧
      t.ready 44 = true)) ∧
  (∀ s : State, s.ready 44 = false → (s.fsrc fsCmInitLate).causes = [] →
    Completes .memoryInitLate s (fun t => t.now = Nat.max s.now (s.mm.goodAt + 1500 * msH) ∧
      (t.fsrc fsCmInitLate).causes = [0] ∧ t.rd SRC.STAT_ASSERTED fsCmInitLate = 1)) ∧
  (∀ (p : Nat) (s : State), s.rd MEM.BUCKET_LEVEL < 65536 → p = s.rd MEM.BUCKET_LEAK * msH → p ≠ 0 →
    Completes .bucketLeak s (fun t => t.now = Nat.max s.now (s.mem.leakAt + p) ∧
      t.rd MEM.BUCKET_LEVEL = s.rd MEM.BUCKET_LEVEL - (t.now - s.mem.leakAt) / p ∧
      t.mem.leakAt = s.mem.leakAt + (t.now - s.mem.leakAt) / p * p ∧ RegsBut [MEM.BUCKET_LEVEL.key 0 0] s t)) ∧
  (∀ (n : Nat) (s : State), s.mem.scrubAt = some n → s.hoeRuns = true → s.rd HOE.STAT_SHED = 0 → s.badGranules = [] →
    Completes .scrubPass s (fun t => t.rd MEM.SCRUB_PASS = Nat.min (s.rd MEM.SCRUB_PASS + 1) 0xFFFFFFFF ∧
      t.now = Nat.max s.now (n + s.mem.scrubH * 3600 * secH) ∧ t.rd MEM.SCRUB_DT = t.dtNs ∧
      t.mem.scrubAt = some t.now ∧ t.capmem = s.capmem))

/-- Hoe: each task leaves the DT of its pass, and its own effect; a conversion of a core runs where the core
allows it; an overrun is reported once for each late pass of a running Hoe (R138, R169, R368 to R371). -/
def Obligations.BackgroundUpkeep : Prop :=
  (∀ (c v a : Nat) (s : State), c < 18 → a ≤ s.now → s.hoeRuns = true → s.ready (14 + c) = true →
    (s.core c).hoe = none → s.hoeMay c = true →
    Completes (.adcRecalibration c v a) s (fun t => t.rd CORE.STAT_HOE c = 1 ∧ (t.core c).hoe = some s.now ∧
      RegsBut [CORE.STAT_HOE.key c 0] s t ∧ t.now = s.now)) ∧
  (∀ (c v a b : Nat) (s : State), c < 18 → (s.core c).hoe = some b → s.mgmtHalted = false →
    Completes (.adcRecalibration c v a) s (fun t => t.now = Nat.max (Nat.max s.now a) (b + 3200) ∧
      t.rd CORE.STAT_HOE c = 0 ∧ (t.core c).hoe = none ∧ t.sp (0x2C0 + c) = v % 2 ^ 32 ∧
      t.rd HOE.TASK 0 1 = t.dtNs)) ∧
  (∀ (c v a : Nat) (s : State), c < 18 → a ≤ s.now → (s.core c).hoe = none → s.hoeMay c = false →
    Completes (.adcRecalibration c v a) s (fun t => SameBut id s t)) ∧
  (∀ (w : Nat) (s : State), w < 224 → s.hoeRuns = true →
    Completes (.comparatorRecalibration w) s (fun t => t.rd HOE.TASK 0 2 = t.dtNs ∧ RegsBut [HOE.TASK.key 0 2] s t ∧
      (∀ v, v ≠ w → t.cw v = s.cw v) ∧
      ∃ d : Int, -256 ≤ d ∧ d ≤ 256 ∧ t.cw w = { s.cw w with trim := clampI (-1024) 1024 ((s.cw w).trim + d) })) ∧
  (∀ s : State, s.hoeRuns = true → s.rd HOE.STAT_SHED = 0 →
    Completes .nvmWearLevelling s (fun t => t.rd HOE.TASK 0 3 = t.dtNs ∧ RegsBut [HOE.TASK.key 0 3] s t ∧
      SameBut (fun u => { u with regs := [], hoe := {} }) s t)) ∧
  (∀ s : State, s.hoeRuns = true → s.rd HOE.CFG_TEL_EN ≠ 0 → s.rd HOE.STAT_SHED = 0 →
    Completes .telemetry s (fun t => t.now = Nat.max s.now (s.hoe.telAt + s.rd HOE.CFG_TEL_MS * msH) ∧
      t.hoe.telAt = t.now ∧ t.rd HOE.TASK 0 4 = t.dtNs ∧ Posted s t 0x90 ∧ RegsBut [HOE.TASK.key 0 4] s t)) ∧
  (∀ s : State, s.hoeRuns = true → s.ready 13 = true → s.hoe.drift = none →
    Completes .driftMonitor s (fun t => t.hoe.drift = some (s.now, s.dt) ∧ t.regs = s.regs)) ∧
  (∀ (a d : Nat) (s : State), s.hoeRuns = true → s.ready 13 = true → s.hoe.drift = some (a, d) →
    Completes .driftMonitor s (fun t => t.now = Nat.max s.now (a + secH) ∧ t.hoe.drift = some (t.now, t.dt) ∧
      t.rd HOE.TASK 0 6 = t.dtNs)) ∧
  (∀ (i d : Nat) (s : State), i < 7 → s.hoeRuns = true → s.hoeDue i = some d → s.hoe.late.contains i = false →
    Completes (.hoeOverrun i) s (fun t => bit (t.rd HOE.STAT_OVR) i = true ∧ Posted s t 0x91 ∧
      t.now = Nat.max s.now d ∧ t.hoe.late = s.hoe.late ++ [i])) ∧
  (∀ (i : Nat) (s : State), i < 7 → s.hoeRuns = false ∨ s.hoeDue i = none ∨ s.hoe.late.contains i = true →
    Completes (.hoeOverrun i) s (fun t => SameBut id s t))

/-! ### The safety island (R380 to R404) -/

/-- Inputs, outputs and cycles of the island: samples and their demand, test pulses, off-pulses and readbacks, feedback,
requests, cycles, and a demand that only a safety reset ends (R383 to R388, R391, R400). -/
def Obligations.SafetyCycles : Prop :=
  (∀ (l i : Nat) (s : State), s.safUp = true → i < 8 →
    Completes (.safeInputSample l) s (fun t => t.saf.samples = s.safNext (10 * usH) s.saf.samples ∧
      t.now = Nat.max s.now (s.saf.base + s.safNext (10 * usH) s.saf.samples * 10 * usH) ∧
      t.rd SAF.INSTAT_A 0 i = b2n (bit l (2 * i)) ∧ t.rd SAF.INSTAT_B 0 i = b2n (bit l (2 * i + 1)))) ∧
  (∀ (l i : Nat) (s : State), s.safUp = true → i < 8 → s.sa SAF.IN_FUNC i = 1 → s.sa SAF.IN_TPA_EN i = 0 →
    (s.sin (2 * i)).inWin = false → (s.sin (2 * i)).zeros + 1 = s.sa SAF.IN_FILT i → bit l (2 * i) = false →
    s.rd SAF.STAT_DEMAND = 0 →
    Completes (.safeInputSample l) s (fun t => t.rd SAF.STAT_DEMAND = 1 ∧ t.rd SAF.STAT_INHIBIT ≠ 0)) ∧
  (∀ s : State, s.safUp = true → s.saf.tests ≠ 0 →
    Completes .testPulse s (fun t => t.saf.tests = s.safNext (5 * msH) (s.saf.tests - 1) + 1 ∧
      tgetD t.saf.tpAt (s.safNext (5 * msH) (s.saf.tests - 1) % 4) none =
        some (s.saf.base + s.safNext (5 * msH) (s.saf.tests - 1) * 5 * msH) ∧ t.regs = s.regs)) ∧
  (∀ (o : Nat) (s : State), o < 4 → s.safUp = true → s.rd SAF.OUTSTAT_STATE 0 o = 3 → s.sa SAF.OUT_FUNC o ≠ 0 →
    s.sa SAF.OUT_FB o < 8 → s.pairOn (s.sa SAF.OUT_FB o) = true → s.rd SAF.OUTSTAT_RBP 0 o ≠ 0 →
    s.rd SAF.OUTSTAT_RBN 0 o ≠ 0 → s.saf.samples ≠ 0 →
    Completes (.contactorFeedbackTimeout o) s (fun t => t.rd SAF.OUTSTAT_STATE 0 o = 4 ∧ (sContactor, o) ∈ t.saf.bad ∧
      t.now = Nat.max s.now ((s.sout o).chgAt + 10 * s.sa SAF.OUT_TFB o * msH))) ∧
  (∀ (o : Nat) (s : State), o < 4 → s.safUp = true → s.rd SAF.OUTSTAT_P 0 o ≠ 0 → s.rd SAF.OUTSTAT_N 0 o ≠ 0 →
    Completes (.outputOffPulse o true true) s (fun t => t.regs = s.regs ∧
      (t.sout o).pulses = (s.sout o).pulses + 1 ∧
      t.now = Nat.max s.now (s.saf.base + ((s.sout o).pulses + 1) * 125 * msH + 10 * s.sa SAF.OUT_OPW o * usH))) ∧
  (∀ (o : Nat) (on : Bool) (s : State), o < 4 → s.safUp = true → s.rd SAF.OUTSTAT_P 0 o ≠ 0 →
    s.rd SAF.OUTSTAT_N 0 o ≠ 0 → ((s.sout o).pulses + 1) % 2 = 0 →
    Completes (.outputOffPulse o false on) s (fun t => t.rd SAF.OUTSTAT_N 0 o = 0 ∧ (sReadback, o) ∈ t.saf.bad)) ∧
  (∀ (o q : Nat) (c : Bool) (x : Started) (rest : List SafReq) (s : State), s.saf.queue = .output o c q :: rest →
    s.safUp = true → (s.ring q).started = some x →
    Completes .safetyRequest s (fun t => t.saf.queue = rest ∧ t.saf.reqs = s.saf.reqs ++ [(o, c)] ∧
      Ended s t q x 0 (s.rd SAF.OUTSTAT_STATE 0 o) ∧ t.regs = s.regs)) ∧
  (∀ (q : Nat) (rest : List SafReq) (s : State), s.saf.queue = .reset q :: rest → s.safUp = true →
    Completes .safetyRequest s (fun t => t.saf.queue = rest ∧ t.saf.resets = s.saf.resets ++ [(2, some q)] ∧
      SameBut (fun u => { u with saf := {} }) s t)) ∧
  (∀ (i : Nat) (s : State), i < 8 → s.saf.btn = [i] →
    Completes (.resetButton i) s (fun t => t.saf.btn = [] ∧ t.saf.resets = s.saf.resets ++ [(0, none)] ∧
      SameBut (fun u => { u with saf := {} }) s t)) ∧
  (∀ (rb o : Nat) (r : Bool) (s : State), s.safUp = true → o < 4 →
    Completes (.safetyCycle rb r) s (fun t => t.saf.cycles = s.safNext msH s.saf.cycles ∧ t.saf.reqs = [] ∧
      t.saf.resets = [] ∧ t.saf.fresh = [] ∧ t.rd SAF.OUTSTAT_RBP 0 o = b2n (bit rb (2 * o)) ∧
      t.rd SAF.OUTSTAT_RBN 0 o = b2n (bit rb (2 * o + 1)) ∧
      t.now = Nat.max s.now (s.saf.base + s.safNext msH s.saf.cycles * msH))) ∧
  (∀ (rb : Nat) (r : Bool) (s : State), s.safUp = true → s.saf.resets = [] → s.rd SAF.STAT_DEMAND ≠ 0 →
    s.rd SAF.STAT_INHIBIT ≠ 0 →
    Completes (.safetyCycle rb r) s (fun t => t.rd SAF.STAT_DEMAND ≠ 0 ∧ t.rd SAF.STAT_INHIBIT ≠ 0)) ∧
  (∀ (rb : Nat) (s : State), s.safUp = true → s.saf.resets = [] → (sInhibitPath, 0) ∉ s.saf.bad →
    Completes (.safetyCycle rb false) s (fun t => t.rd SAF.STAT_DEMAND ≠ 0 ∧ (sInhibitPath, 0) ∈ t.saf.bad))

/-- PINH_N low latches PINH in every variant that has the island; PINH_N high leaves the demand and the inhibit as they
are; a safety reset that finds no condition in force ends both (R393). -/
def Obligations.PinhLatchesUntilReset : Prop :=
  (∀ (a : Nat) (s : State), s.pinhLow = false → s.safUp = true →
    Completes (.pinh a) s (fun t => t.pinhLow = true ∧ t.rd SAF.STAT_PINH = 1 ∧ t.rd SAF.STAT_DEMAND ≠ 0 ∧
      t.rd SAF.STAT_INHIBIT ≠ 0 ∧ (s.rd SAF.STAT_DEMAND = 0 → t.rd SAF.STAT_CODE = 0x05) ∧
      (s.islandWaiting < 8 → t.evq = s.evq ++ [⟨evWord 0x78 [(1, 1, 0x05), (2, 1, 0), (8, 8, t.dtNs)] t.dtLo⟩]))) ∧
  (∀ (a : Nat) (s : State), s.pinhLow = true → s.safUp = true →
    Completes (.pinhNRise a) s (fun t => t.pinhLow = false ∧ t.rd SAF.STAT_INHIBIT = s.rd SAF.STAT_INHIBIT ∧
      t.rd SAF.STAT_DEMAND = s.rd SAF.STAT_DEMAND ∧ t.rd SAF.STAT_CODE = s.rd SAF.STAT_CODE)) ∧
  (∀ (q : Nat) (x : Started) (s : State), s.safUp = true → s.pinhLow = false → s.saf.resets = [(2, some q)] →
    (s.ring q).started = some x → s.saf.act = [] → s.saf.reqs = [] → s.saf.bad = [] → s.saf.fresh = [] →
    (∀ o, o < 4 → s.rd SAF.OUTSTAT_P 0 o = 0 ∧ s.rd SAF.OUTSTAT_N 0 o = 0) →
    Completes (.safetyCycle 0 true) s (fun t => t.rd SAF.STAT_DEMAND = 0 ∧ t.rd SAF.STAT_CODE = 0 ∧
      t.rd SAF.STAT_FAULT = 0 ∧ t.rd SAF.STAT_INHIBIT = 0 ∧ Ended s t q x 0 0))

/-- Demands, the island's own reset, its configuration and its opcodes: PINH_N, LOCKSTEP and SUPPLY, the exit from reset,
the restore, the rail test, SAF_STATUS, SAF_RESET, SAF_CONTACTOR and SAF_COMMIT (R37, R381, R382, R392, R393, R401,
R402, R404, R468). -/
def Obligations.SafetyCommands : Prop :=
  (∀ (a : Nat) (s : State), s.pinhLow = false → s.safUp = true →
    Completes (.pinh a) s (fun t => t.pinhLow = true ∧ t.inhibited = true ∧ t.rd SAF.STAT_PINH = 1 ∧
      t.rd SAF.STAT_DEMAND ≠ 0 ∧ t.now = Nat.max s.now a)) ∧
  (∀ (a : Nat) (s : State), s.pinhLow = false → s.has 16 = false →
    Completes (.pinh a) s (fun t => t.pinhLow = true ∧ t.inhibited = true ∧ t.demandLevel = true)) ∧
  (∀ (a : Nat) (s : State), s.pinhLow = true → s.safUp = true →
    Completes (.pinhNRise a) s (fun t => t.pinhLow = false ∧ t.saf.pinhAt = t.now ∧ t.rd SAF.STAT_PINH = 0 ∧
      t.rd SAF.STAT_DEMAND = s.rd SAF.STAT_DEMAND ∧ t.now = Nat.max s.now a)) ∧
  (∀ (o : Nat) (s : State), s.safUp = true → o < 4 →
    Completes .islandLockstep s (fun t => t.saf.up = false ∧ t.saf.lock = true ∧ t.rd SAF.STAT_INHIBIT = 1 ∧
      t.inhibited = true ∧ t.rd SAF.OUTSTAT_P 0 o = 0 ∧ t.rd SAF.OUTSTAT_N 0 o = 0 ∧ t.saf.stored = s.saf.stored)) ∧
  (∀ (o : Nat) (s : State), s.safUp = true → o < 4 →
    Completes .safeSupplyFault s (fun t => t.saf.up = false ∧ t.saf.lock = false ∧ t.rd SAF.STAT_INHIBIT = 1 ∧
      t.inhibited = true ∧ t.rd SAF.OUTSTAT_P 0 o = 0 ∧ t.rd SAF.OUTSTAT_N 0 o = 0 ∧ t.ready 4 = false)) ∧
  (∀ (a : Nat) (s : State), s.has 16 = true → s.saf.up = false → s.saf.lock = false →
    Completes (.islandResetExit a) s (fun t => t.safUp = true ∧ t.saf.base = t.now ∧ t.now = Nat.max s.now a ∧
      t.rd SAF.STAT_INHIBIT = 1 ∧ t.rd SAF.STAT_DEMAND = 0 ∧ t.rd SAF.STAT_CODE = 0 ∧ t.saf.act = [] ∧
      t.saf.stored = s.saf.stored)) ∧
  (∀ (g : Bool) (s : State), s.safUp = true → s.saf.restored = false → s.ready 1 = true → s.saf.stored = none →
    Completes (.configRestore g) s (fun t => t.saf.restored = true ∧ SameBut (fun u => { u with saf := {} }) s t)) ∧
  (∀ (v : Tbl Nat) (s : State), s.safUp = true → s.saf.restored = false → s.ready 1 = true → s.saf.stored = some v →
    Completes (.configRestore true) s (fun t => t.saf.restored = true ∧ t.saf.act = v ∧ t.saf.cmd = none ∧
      t.saf.conf = none)) ∧
  (∀ (v : Tbl Nat) (s : State), s.safUp = true → s.saf.restored = false → s.ready 1 = true → s.saf.stored = some v →
    (sConfig, 0) ∉ s.saf.bad →
    Completes (.configRestore false) s (fun t => t.saf.act = s.saf.act ∧ (sConfig, 0) ∈ t.saf.bad ∧
      t.rd SAF.STAT_DEMAND ≠ 0)) ∧
  (∀ s : State, s.safUp = true → s.saf.railTest = true →
    Completes (.inhibitRailTest true) s (fun t => t.saf.railTest = false ∧ t.saf.railOn = false ∧
      t.now = s.now + 20 * usH ∧ t.regs = s.regs ∧
      t.evq = s.evq)) ∧
  (∀ s : State, s.safUp = true → s.saf.railTest = true →
    Completes (.inhibitRailTest false) s (fun t => t.saf.railTest = false ∧ t.rd SAF.STAT_DEMAND ≠ 0 ∧
      t.rd SAF.STAT_INHIBIT ≠ 0)) ∧
  (∀ (q : Nat) (x : Started) (b : List Nat) (s : State), Ready s q 0x78 x b →
    Ends (.safStatus q) s q x 0 (s.word SAF.flds 0x120004) (fun t =>
      SameBut (fun u => { u with rings := [], cplQ := [] }) s t)) ∧
  (∀ (q : Nat) (x : Started) (b : List Nat) (s : State), Ready s q 0x79 x b → s.sa SAF.CFG_HOST_RESET = 0 →
    ∃ r, Ends (.safReset q) s q x 0x30 r (fun t => SameBut (fun u => { u with rings := [], cplQ := [] }) s t)) ∧
  (∀ (q : Nat) (x : Started) (b : List Nat) (s : State), Ready s q 0x79 x b → s.sa SAF.CFG_HOST_RESET ≠ 0 →
    Completes (.safReset q) s (fun t => Goes s t q ∧ t.saf.queue = s.saf.queue ++ [.reset q])) ∧
  (∀ (q : Nat) (x : Started) (b : List Nat) (s : State), Ready s q 0x7A x b → bit x.d.inl 0 = false →
    Completes (.safContactor q) s (fun t => Goes s t q ∧
      t.saf.queue = s.saf.queue ++ [.output (bits x.d.arg 0 2) false q])) ∧
  (∀ (q : Nat) (x : Started) (b : List Nat) (s : State), Ready s q 0x7A x b → bit x.d.inl 0 = true →
    s.modeIn [.service, .factory] = false →
    Ends (.safContactor q) s q x 0x14 0 (fun t => t.saf = s.saf)) ∧
  (∀ (q : Nat) (x : Started) (b : List Nat) (s : State), Ready s q 0x7A x b → bit x.d.inl 0 = true →
    s.modeIn [.service, .factory] = true → s.demand = true →
    Ends (.safContactor q) s q x 0x30 0 (fun t => t.saf = s.saf)) ∧
  (∀ (q : Nat) (x : Started) (b : List Nat) (s : State), Ready s q 0x7B x b → s.modeAdmits .ssf = false →
    Ends (.safCommit q) s q x 0x14 0 (fun t => t.saf = s.saf ∧ t.regs = s.regs)) ∧
  (∀ (q : Nat) (x : Started) (b : List Nat) (s : State), Ready s q 0x7B x b → s.modeAdmits .ssf = true →
    Completes (.safCommit q) s (fun t => Goes s t q ∧ t.saf.queue = s.saf.queue ++ [.commit q (bits x.d.inl 0 32)] ∧
      t.saf.act = s.saf.act ∧ t.saf.stored = s.saf.stored)) ∧
  (∀ (q c : Nat) (x : Started) (rest : List SafReq) (s : State), s.saf.queue = .commit q c :: rest → s.safUp = true →
    (s.ring q).started = some x → safCrc (fun f _ j => s.rd f 0 j) ≠ c →
    Completes .safetyRequest s (fun t => t.saf = { s.saf with queue := rest } ∧
      Ended s t q x 0x11 (safCrc (fun f _ j => s.rd f 0 j)) ∧
      RegsBut [GLB.QSTAT_HWM.key 0 85, GLB.QSTAT_STALL_CNT.key 0 85] s t ∧ (s.islandWaiting < 8 → Posted s t 0x7D))) ∧
  (∀ (q : Nat) (x : Started) (rest : List SafReq) (s : State),
    s.saf.queue = .commit q (safCrc (fun f _ j => s.rd f 0 j)) :: rest → s.safUp = true →
    (s.ring q).started = some x → cfgOk (fun f j => s.rd f 0 j) = true →
    Completes .safetyRequest s (fun t => t.saf.queue = rest ∧ t.saf.act = s.safPending ∧
      t.saf.stored = some s.safPending ∧ t.saf.cmd = none ∧ Ended s t q x 0 (safCrc (fun f _ j => s.rd f 0 j)))) ∧
  (∀ (n : Nat) (s : State), s.mainOn = true → s.has 16 = true → n < 2 →
    Completes .safCntClr s (fun t => t.rd SAF.RX_OK 0 n = 0 ∧ t.rd SAF.RX_BAD 0 n = 0 ∧ t.rd SAF.MISS 0 n = 0 ∧
      SameBut (fun u => { u with regs := [] }) s t))

/-- Safe frames and the MACs: copies accepted, counted as bad and twinned, timeouts, a network down, status frames, frames
at a MAC, the link and the MDIO master; a record of the island that finds no credit of queue 85 is not posted and counts
as stalled (R394 to R398, R403, R443, R444). -/
def Obligations.SafeFramesAndMacs : Prop :=
  (∀ (n : Nat) (f : SafeFrame) (rest : List SafeFrame) (s : State), n < 2 → tgetD s.saf.rx n [] = f :: rest →
    s.safUp = true → s.pduValid f = false →
    Completes (.safeFrameReceive n) s (fun t => tgetD t.saf.rx n [] = rest ∧
      t.rd SAF.RX_BAD 0 n = Nat.min (s.rd SAF.RX_BAD 0 n + 1) 0xFFFFFFFF ∧ RegsBut [SAF.RX_BAD.key 0 n] s t ∧
      t.evq = s.evq ∧ t.saf.cmd = s.saf.cmd)) ∧
  (∀ (n : Nat) (f : SafeFrame) (rest : List SafeFrame) (s : State), n < 2 → tgetD s.saf.rx n [] = f :: rest →
    s.safUp = true → s.sa SAF.NETCFG_EN ≠ 0 → s.pduValid f = true → s.saf.cmd = none →
    bit (leAt f.pdu 16 1) 0 = false →
    Completes (.safeFrameReceive n) s (fun t => t.rd SAF.RX_OK 0 n = Nat.min (s.rd SAF.RX_OK 0 n + 1) 0xFFFFFFFF ∧
      t.rd SAF.LAST_SEQ = leAt f.pdu 8 4 % 2 ^ 32 ∧ (∃ c, t.saf.cmd = some c ∧ c.seq = leAt f.pdu 8 4 ∧ c.net = n) ∧
      t.rd SAF.STAT_DEMAND ≠ 0 ∧ t.rd (netDown n) = 0)) ∧
  (∀ (n : Nat) (f : SafeFrame) (c : SafeCmd) (rest : List SafeFrame) (s : State), n < 2 →
    tgetD s.saf.rx n [] = f :: rest → s.safUp = true → s.sa SAF.NETCFG_EN ≠ 0 → s.pduValid f = true →
    s.saf.cmd = some c → leAt f.pdu 8 4 = c.seq → c.seq < 2 ^ 32 → c.net ≠ n → c.confirmed = false →
    f.pdu.take 28 = c.pdu.take 28 →
    Completes (.safeFrameReceive n) s (fun t => t.saf.cmd = some { c with confirmed := true } ∧
      t.saf.conf = some (c.seq, leAt c.pdu 16 1, leAt c.pdu 17 1))) ∧
  (∀ (c : SafeCmd) (s : State), s.saf.cmd = some c → s.safUp = true → s.sa SAF.NETCFG_EN ≠ 0 → s.saf.timedOut = false →
    Completes .frameTimeout s (fun t => t.saf.timedOut = true ∧ t.now = Nat.max s.now (c.at_ + s.frameT c) ∧
      t.rd SAF.STAT_DEMAND ≠ 0 ∧ t.saf.cmd = some c)) ∧
  (∀ (n : Nat) (c : SafeCmd) (s : State), n < 2 → s.saf.cmd = some c → s.safUp = true → s.sa SAF.NETCFG_EN ≠ 0 →
    s.rd (netDown n) = 0 → tgetD s.saf.netAt n 0 < tgetD s.saf.netAt (1 - n) 0 → s.sa SAF.CFG_BOTH_REQ = 0 →
    Completes (.networkDown n) s (fun t => t.rd (netDown n) = 1 ∧ (s.islandWaiting < 8 → Posted s t 0x7C) ∧
      t.now = Nat.max s.now (tgetD s.saf.netAt n 0 - 1 + 3 * s.frameT c) ∧
      RegsBut [(netDown n).key 0 0, GLB.QSTAT_HWM.key 0 85, GLB.QSTAT_STALL_CNT.key 0 85] s t)) ∧
  (∀ (n : Nat) (c : SafeCmd) (s : State), n < 2 → s.saf.cmd = some c → s.safUp = true → s.sa SAF.NETCFG_EN ≠ 0 →
    s.rd (netDown n) = 0 → tgetD s.saf.netAt n 0 < tgetD s.saf.netAt (1 - n) 0 → s.sa SAF.CFG_BOTH_REQ = 0 →
    8 ≤ s.islandWaiting →
    Completes (.networkDown n) s (fun t => t.rd (netDown n) = 1 ∧ t.evq = s.evq ∧
      t.rd GLB.QSTAT_STALL_CNT 0 85 = Nat.min (s.rd GLB.QSTAT_STALL_CNT 0 85 + 1) 0xFFFFFFFF)) ∧
  (∀ (w : Nat × Nat × Nat) (rest : List (Nat × Nat × Nat)) (s : State), s.saf.twins = w :: rest → s.safUp = true →
    Completes .missingTwin s (fun t => t.saf.twins = rest ∧ t.now = Nat.max s.now w.2.2 ∧
      t.rd SAF.MISS 0 w.1 = Nat.min (s.rd SAF.MISS 0 w.1 + 1) 0xFFFFFFFF)) ∧
  (∀ s : State, s.safUp = true → s.sa SAF.NETCFG_EN ≠ 0 →
    Completes .statusFrameSend s (fun t => t.saf.stSeq = (s.saf.stSeq + 1) % 2 ^ 32 ∧ t.saf.status.length = 32 ∧
      t.now = Nat.max s.now (s.saf.stAt + s.sa SAF.NETTIMING_STATUS_MS * msH) ∧ t.saf.stAt = t.now)) ∧
  (∀ (n a : Nat) (f : EthFrame) (s : State), n < 2 → s.rd ETH.CFG_EN n ≠ 0 → s.ready (8 + n) = true → f.bad = true →
    Completes (.ethFrameReceive n f a) s (fun t => t.rd ETH.RX_ERR n = Nat.min (s.rd ETH.RX_ERR n + 1) 0xFFFFFFFF ∧
      t.now = Nat.max s.now a ∧ RegsBut [ETH.RX_ERR.key n 0] s t ∧ t.saf = s.saf)) ∧
  (∀ (n a : Nat) (l : Nat) (s : State), n < 2 → s.rd ETH.CFG_EN n ≠ 0 → s.ready (8 + n) = true → s.rd ETH.IPV4 n ≠ 0 →
    s.macHeld n + l ≤ 8192 →
    Completes (.ethFrameReceive n ⟨.broadcast, false, l, .arp (s.rd ETH.IPV4 n)⟩ a) s (fun t =>
      t.rd ETH.RX_OK n = Nat.min (s.rd ETH.RX_OK n + 1) 0xFFFFFFFF ∧
      t.rd ETH.TX_OK n = Nat.min (s.rd ETH.TX_OK n + 1) 0xFFFFFFFF)) ∧
  (∀ (n a l : Nat) (g : SafeFrame) (s : State), n < 2 → s.rd ETH.CFG_EN n ≠ 0 → s.ready (8 + n) = true → s.has 16 = true →
    s.sa SAF.LOCAL_IP n ≠ 0 → tgetD s.saf.rx n [] = [] → l ≤ 8192 →
    Completes (.ethFrameReceive n ⟨.broadcast, false, l, .udp (s.sa SAF.LOCAL_IP n) (s.sa SAF.NETPORT) g⟩ a) s (fun t =>
      tgetD t.saf.rx n [] = [{ g with len := l, at_ := t.now }] ∧
      t.rd ETH.RX_OK n = Nat.min (s.rd ETH.RX_OK n + 1) 0xFFFFFFFF)) ∧
  (∀ (n a : Nat) (f : EthFrame) (s : State), n < 2 → s.rd ETH.CFG_EN n ≠ 0 → s.ready (8 + n) = true → f.bad = false →
    s.macTakes n f.dst = false ∨ s.macSafeOnly f.body = true →
    Completes (.ethFrameReceive n f a) s (fun t => t.rd ETH.RX_OTHER n = Nat.min (s.rd ETH.RX_OTHER n + 1) 0xFFFFFFFF ∧
      RegsBut [ETH.RX_OTHER.key n 0] s t ∧ t.saf = s.saf)) ∧
  (∀ (n a : Nat) (f : EthFrame) (s : State), n < 2 → s.rd ETH.CFG_EN n ≠ 0 → s.ready (8 + n) = true → f.bad = false →
    s.macTakes n f.dst = true → s.macSafeOnly f.body = false → 8192 < s.macHeld n + f.len →
    Completes (.ethFrameReceive n f a) s (fun t => t.rd ETH.RX_DROP n = Nat.min (s.rd ETH.RX_DROP n + 1) 0xFFFFFFFF ∧
      RegsBut [ETH.RX_DROP.key n 0] s t ∧ t.saf = s.saf)) ∧
  (∀ (n v : Nat) (up : Bool) (s : State), n < 2 →
    Completes (.ethLinkChange n up v) s (fun t => t.rd ETH.STAT_LINK n = b2n up ∧
      t.rd ETH.STAT_PHY_SPEED n = v % 2 ^ ETH.STAT_PHY_SPEED.width ∧ SameBut (fun u => { u with regs := [] }) s t)) ∧
  (∀ (n : Nat) (s : State), n < 2 → s.mainOn = true →
    Completes (.ethCntClr n) s (fun t => t.rd ETH.RX_OK n = 0 ∧ t.rd ETH.RX_DROP n = 0 ∧ t.rd ETH.RX_ERR n = 0 ∧
      t.rd ETH.RX_OTHER n = 0 ∧ t.rd ETH.TX_OK n = 0 ∧ SameBut (fun u => { u with regs := [] }) s t)) ∧
  (∀ (phy reg d : Nat) (s : State), s.mainOn = true → s.rd MDIO.STAT_BUSY = 0 → phy < 32 → reg < 32 → d < 65536 →
    Completes (.mdioAccess 1 phy reg d) s (fun t => t.eth.mdio = some (true, phy, reg, d, s.now) ∧
      t.rd MDIO.STAT_BUSY = 1)) ∧
  (∀ (op phy reg d : Nat) (s : State), s.mainOn = true → s.rd MDIO.STAT_BUSY ≠ 0 → op = 1 ∨ op = 2 →
    Completes (.mdioAccess op phy reg d) s (fun t => t.eth = s.eth ∧ Posted s t 0x05)) ∧
  (∀ (d phy reg v n : Nat) (s : State), s.eth.mdio = some (false, phy, reg, v, n) →
    Completes (.mdioAccessDone d) s (fun t => t.eth.mdio = none ∧ t.rd MDIO.STAT_BUSY = 0 ∧
      t.rd MDIO.STAT_DATA = d % 65536 ∧ t.now = Nat.max s.now (n + 327680) ∧
      RegsBut [MDIO.STAT_BUSY.key 0 0, MDIO.STAT_DATA.key 0 0] s t))

/-! ### Clocks and time (R422 to R437) -/

/-- The clock unit and device time: REF_LOST and REF_RETURN, CLOCK_FREQUENCY_ERROR, CLK_SEARCH and SEARCH_DONE,
CLK_HOP and HOP_SWITCH, which one by one take the idle core, EPOCH_POINT, TIME_SET (R422, R423, R425, R426, R430,
R431). A search that fails leaves VALID clear (the model's reading, log 143). -/
def Obligations.ClockUnit : Prop :=
  (∀ (a : Nat) (s : State), s.rd CLK.STAT_REF_LOST = 0 →
    Completes (.refLost a) s (fun t => t.rd CLK.STAT_REF_LOST = 1 ∧ t.ready 0 = false ∧ t.ready 10 = false ∧
      t.ready 11 = false ∧ t.now = Nat.max s.now a)) ∧
  (∀ (a : Nat) (s : State), s.rd CLK.STAT_REF_LOST ≠ 0 → bit s.mm.everReady 0 = true → bit s.mm.everReady 10 = true →
    bit s.mm.everReady 11 = true →
    Completes (.refReturn a) s (fun t => t.rd CLK.STAT_REF_LOST = 0 ∧ t.ready 0 = true ∧ t.ready 10 = true ∧
      t.ready 11 = true ∧ t.now = Nat.max s.now (a + 2500 * usH))) ∧
  (∀ (c a : Nat) (s : State), c < 5 →
    Completes (.clockFrequencyError c a) s (fun t => t.ready (clockBit c) = false ∧ t.now = Nat.max s.now a)) ∧
  (∀ (q : Nat) (x : Started) (b : List Nat) (s : State), Ready s q 0xA0 x b → bits x.d.arg 0 3 = s.rd CLK.STAT_PLAN →
    Ends (.clkSearch q) s q x 0x11 0 (fun t => SameBut (fun u => { u with rings := [], cplQ := [] }) s t)) ∧
  (∀ (q : Nat) (x : Started) (b : List Nat) (s : State), Ready s q 0xA0 x b → bits x.d.arg 0 3 ≠ s.rd CLK.STAT_PLAN →
    s.clk.search = none → s.clk.hop = none → s.clk.searchWait = [] → s.clk.hopWait = [] →
    Completes (.clkSearch q) s (fun t => Goes s t q ∧ t.clk.search = some (bits x.d.arg 0 3, some q) ∧
      t.rd CLK.STAT_SEARCHING = 1 ∧ RegsBut [CLK.STAT_SEARCHING.key 0 0] s t)) ∧
  (∀ (q : Nat) (x : Started) (b : List Nat) (s : State), Ready s q 0xA0 x b → bits x.d.arg 0 3 ≠ s.rd CLK.STAT_PLAN →
    Completes (.clkSearch q) s (fun t => Goes s t q ∧
      (t.clk.search = some (bits x.d.arg 0 3, some q) ∨ (bits x.d.arg 0 3, q) ∈ t.clk.searchWait) ∧
      (s.clk.search.isSome = true ∨ s.clk.hop.isSome = true → t.clk.search = s.clk.search ∧ t.clk.hop = s.clk.hop ∧
        t.clk.searchWait = s.clk.searchWait ++ [(bits x.d.arg 0 3, q)] ∧ t.regs = s.regs))) ∧
  (∀ (i q c a : Nat) (x : Started) (s : State), s.clk.search = some (i, some q) → i < 8 → (s.ring q).started = some x →
    s.clk.searchWait = [] → s.clk.hopWait = [] →
    Completes (.searchDone true c a) s (fun t => t.clk.search = none ∧ t.rd CLK.STAT_SEARCHING = 0 ∧
      t.rd CLK.BAND_VALID 0 i = 1 ∧ t.rd CLK.BAND_CODE 0 i = c % 2 ^ CLK.BAND_CODE.width ∧ Posted s t 0xA4 ∧
      Ended s t q x 0 0)) ∧
  (∀ (i q c a : Nat) (x : Started) (s : State), s.clk.search = some (i, some q) → i < 8 → (s.ring q).started = some x →
    Completes (.searchDone false c a) s (fun t => t.rd CLK.BAND_VALID 0 i = 0 ∧ Posted s t 0xA4 ∧ Ended s t q x 0 1)) ∧
  (∀ (q : Nat) (x : Started) (b : List Nat) (s : State), Ready s q 0xA1 x b →
    s.rd CLK.BAND_VALID 0 (bits x.d.arg 0 3) = 0 →
    Ends (.clkHop q) s q x 0x11 0 (fun t => SameBut (fun u => { u with rings := [], cplQ := [] }) s t)) ∧
  (∀ (q : Nat) (x : Started) (b : List Nat) (s : State), Ready s q 0xA1 x b →
    s.rd CLK.BAND_VALID 0 (bits x.d.arg 0 3) ≠ 0 → s.clk.search = none → s.clk.hop = none → s.clk.hopWait = [] →
    Completes (.clkHop q) s (fun t => Goes s t q ∧ t.clk.hop = some (bits x.d.arg 0 3, q, s.now) ∧
      t.rd CLK.STAT_HOP_BUSY = 1 ∧ RegsBut [CLK.STAT_HOP_BUSY.key 0 0] s t)) ∧
  (∀ (q : Nat) (x : Started) (b : List Nat) (s : State), Ready s q 0xA1 x b →
    s.rd CLK.BAND_VALID 0 (bits x.d.arg 0 3) ≠ 0 →
    Completes (.clkHop q) s (fun t => Goes s t q ∧ t.rd CLK.STAT_HOP_BUSY = 1 ∧
      (t.clk.hop = some (bits x.d.arg 0 3, q, s.now) ∨ (bits x.d.arg 0 3, q) ∈ t.clk.hopWait) ∧
      (s.clk.search.isSome = true ∨ s.clk.hop.isSome = true → t.clk.search = s.clk.search ∧ t.clk.hop = s.clk.hop ∧
        t.clk.hopWait = s.clk.hopWait ++ [(bits x.d.arg 0 3, q)]))) ∧
  (∀ (i q n : Nat) (x : Started) (s : State), s.clk.hop = some (i, q, n) → i < 8 → (s.ring q).started = some x →
    s.clk.hopWait = [] →
    Completes .hopSwitch s (fun t => t.clk.hop = none ∧ t.rd CLK.STAT_PLAN = i ∧ t.rd CLK.STAT_HOP_BUSY = 0 ∧
      t.pw = Nat.max s.pw (s.epochFrom (s.pwHalf (n + 100 * usH) / 2)) ∧ Ended s t q x 0 t.dtLo)) ∧
  (∀ (k o e : Nat) (s : State), k < 8 → (s.brk k).waitEpoch = some (o, e) → e ≤ s.nextEpoch →
    Completes .epochPoint s (fun t => t.pw = Nat.max s.pw s.nextEpoch ∧ (t.brk k).waitEpoch = none ∧
      (t.brk k).first = some (s.nextEpoch + o))) ∧
  (∀ s : State, Completes .epochPoint s (fun t => t.pw = Nat.max s.pw s.nextEpoch ∧ t.clk.epochAt = some s.nextEpoch ∧
    t.pts = s.pts ∧ t.hostMem = s.hostMem ∧ ∀ k, k < 8 → (s.brk k).waitEpoch = none → t.brk k = s.brk k)) ∧
  (∀ s : State, s.rd CLK.ALIGN_EN = 0 → s.rdB CLK.STAT_ALIGN_OFF = s.alignOff →
    Completes .epochPoint s (fun t => t.pw = Nat.max s.pw s.nextEpoch ∧ t.regs = s.regs ∧
      t.clk.epochAt = some s.nextEpoch ∧ t.clk.plan = 0 ∧ t.evq = s.evq)) ∧
  (∀ s : State, s.rd CLK.ALIGN_EN ≠ 0 → s.alignOff = false → s.dtOn = true →
    Completes .epochPoint s (fun t => t.pw = Nat.max s.pw s.nextEpoch ∧ t.clk.epochAt = some s.nextEpoch ∧
      t.rd CLK.ALIGN_ERR = satI32 (t.clk.err * 1000 / 128) % 2 ^ 32)) ∧
  (∀ (q : Nat) (x : Started) (b : List Nat) (s : State), Ready s q 0xA2 x b → s.dtSteps = false →
    Ends (.timeSet q) s q x 0x14 0 (fun t => SameBut (fun u => { u with rings := [], cplQ := [] }) s t)) ∧
  (∀ (q : Nat) (x : Started) (b : List Nat) (s : State), Ready s q 0xA2 x b → s.dtSteps = true → s.rd PTP.CFG_SRC = 0 →
    Ends (.timeSet q) s q x 0x11 0 (fun t => SameBut (fun u => { u with rings := [], cplQ := [] }) s t)) ∧
  (∀ (q : Nat) (x : Started) (b : List Nat) (s : State), Ready s q 0xA2 x b → s.dtSteps = true → s.rd PTP.CFG_SRC ≠ 0 →
    Ends (.timeSet q) s q x 0 0 (fun t => t.dtNs = bits x.d.inl 0 64 ∧ t.now = s.now ∧ t.rd CLK.STAT_ALIGNED = 0 ∧
      (s.rd CLK.STAT_ALIGNED = 0 → t.regs = s.regs ∧ Posted s t 0xA1)))

/-- The PTP port: an offset from a Sync, requests answered and sent, PPS edges, the loss of Syncs and of Announces (R429,
R432, R433; the codes of PORT_STATE and the number of intervals of the announce timeout are the model's, log 70). -/
def Obligations.PtpPort : Prop :=
  (∀ (n t1 a : Nat) (p : PtpPdu) (s : State), n < 2 → s.rd PTP.CFG_EN ≠ 0 → n = s.ptpPort → s.dtOn = true →
    s.ptpTakes n p = true → p.msg = .sync t1 → a ≤ s.now → s.ptpSlave = true → s.rd PTP.CFG_SRC = 0 →
    Completes (.ptpMessage n p a) s (fun t => t.now = s.now ∧
      t.rd PTP.OFFSET = satI32 (((s.dtAt s.now - s.rd PTP.LAT_INGRESS_NS 0 n : Nat) : Int) - t1 - s.rd PTP.MPD) % 2 ^ 32 ∧
      t.ptp.last = (t1, s.dtAt s.now - s.rd PTP.LAT_INGRESS_NS 0 n))) ∧
  (∀ (n t1 a : Nat) (p : PtpPdu) (s : State), n < 2 → s.rd PTP.CFG_EN ≠ 0 → n = s.ptpPort → s.dtOn = true →
    s.ptpTakes n p = true → p.msg = .sync t1 → a ≤ s.now → s.ptpSlave = true → s.rd PTP.CFG_SRC ≠ 0 →
    Completes (.ptpMessage n p a) s (fun t => t.regs = s.regs ∧ t.dt = s.dt ∧ t.evq = s.evq)) ∧
  (∀ (n a : Nat) (p : PtpPdu) (s : State), n < 2 → s.rd PTP.CFG_EN ≠ 0 → n = s.ptpPort → s.dtOn = true →
    s.ptpTakes n p = true → p.msg = .delayReq → s.rd PTP.STAT_PORT_STATE = psMaster → s.rd PTP.CFG_PROFILE = 0 →
    Completes (.ptpMessage n p a) s (fun t => t.rd ETH.TX_OK n = Nat.min (s.rd ETH.TX_OK n + 1) 0xFFFFFFFF ∧
      t.ptp.tx = some ⟨9, n, s.rd PTP.CFG_DOMAIN, s.ptpL2, if s.ptpL2 then 0 else s.rd ETH.IPV4 n, false⟩ ∧
      RegsBut [ETH.TX_OK.key n 0] s t)) ∧
  (∀ (n a : Nat) (p : PtpPdu) (s : State), n < 2 → a ≤ s.now →
    s.ptpTakes n p = false ∨ n ≠ s.ptpPort ∨ s.rd PTP.CFG_EN = 0 →
    Completes (.ptpMessage n p a) s (fun t => SameBut id s t)) ∧
  (∀ (a : Nat) (s : State), s.rd PTP.CFG_EN ≠ 0 → s.dtOn = true → s.ptpNet s.ptpPort = true → s.ptpSlave = true →
    s.rd PTP.CFG_PROFILE = 0 → tget s.ptp.sent 2 = some a →
    Completes (.ptpMessageTransmit .delayReq) s (fun t =>
      t.now = Nat.max s.now (a + logSecH (s.rd PTP.INTERVALS_LOG_DELAY)) ∧
      t.rd ETH.TX_OK s.ptpPort = Nat.min (s.rd ETH.TX_OK s.ptpPort + 1) 0xFFFFFFFF ∧
      tget t.ptp.sent 2 = some t.now ∧ t.ptp.dtReq = some (t.dtAt t.now + s.rd PTP.LAT_EGRESS_NS 0 s.ptpPort))) ∧
  (∀ (a : Nat) (s : State), s.rd PTP.CFG_SRC ≠ 1 →
    Completes (.ppsInEdge a) s (fun t => t.rd PTP.STAT_PPS_IN_OK = 1 ∧ t.now = Nat.max s.now a ∧
      RegsBut [PTP.STAT_PPS_IN_OK.key 0 0] s t)) ∧
  (∀ (a : Nat) (s : State), s.rd PTP.CFG_SRC = 1 → s.dtOn = true → a ≤ s.now →
    s.dtAt s.now % 1000000000 ≤ 500000000 →
    Completes (.ppsInEdge a) s (fun t => t.rd PTP.STAT_PPS_IN_OK = 1 ∧
      t.rd PTP.OFFSET = s.dtAt s.now % 1000000000)) ∧
  (∀ (a : Nat) (s : State), s.ptp.syncAt = some a → s.rd PTP.CFG_SRC = 1 → (∀ u, s.ptp.edgeAt = some u → a ≤ u) →
    Completes .ptpSyncLoss s (fun t => t.now = Nat.max s.now (a + 3 * secH) ∧
      t.ptp.syncAt = none ∧ t.ptp.good = 0 ∧ t.ready 13 = false)) ∧
  (∀ (a : Nat) (s : State), s.ptp.syncAt = none → s.ptp.edgeAt = some a →
    Completes .ptpSyncLoss s (fun t => t.now = Nat.max s.now (a + 3 * secH) ∧ t.rd PTP.STAT_PPS_IN_OK = 0 ∧
      t.ptp.edgeAt = none ∧ RegsBut [PTP.STAT_PPS_IN_OK.key 0 0] s t)) ∧
  (∀ (d u : Nat) (s : State), s.syncDue = some d → s.ptp.edgeAt = some u → u + 3 * secH < d →
    Completes .ptpSyncLoss s (fun t => t.now = Nat.max s.now (u + 3 * secH) ∧ t.rd PTP.STAT_PPS_IN_OK = 0 ∧
      t.ptp.edgeAt = none ∧ t.ptp.syncAt = s.ptp.syncAt ∧ RegsBut [PTP.STAT_PPS_IN_OK.key 0 0] s t)) ∧
  (∀ s : State, s.rd PTP.CFG_EN ≠ 0 → s.rd PTP.CFG_SLAVE_ONLY ≠ 0 → s.rd PTP.CFG_PORT < 2 →
    Completes .announceTimeout s (fun t => t.rd PTP.STAT_PORT_STATE = psListening ∧ t.ptp.best = none ∧
      t.ptp.masters = [] ∧ t.ptp.annAt = t.now ∧
        t.now = Nat.max s.now (s.ptp.annAt + 3 * logSecH (s.rd PTP.INTERVALS_LOG_ANNOUNCE)) ∧
      t.rd PTP.STAT_ACTIVE_PORT = s.rd PTP.STAT_ACTIVE_PORT)) ∧
  (∀ s : State, s.dtOn = true → s.rd PTP.PPS_OUT_EN ≠ 0 →
    Completes .ppsOut s (fun t => t.ptp.ppsAt = some t.now ∧ s.now ≤ t.now ∧ t.regs = s.regs ∧ t.evq = s.evq))

end
end

