-- ==== Sys2Proof/Laws/Tbl.lean ====
section
/-!
SUPPORT. Laws of the sparse tables: what a read gives after a write, and that a write keeps the canonical form. The
read laws hold of every list, sorted or not.
-/
namespace Sys2Proof.Machine

variable {α : Type}

@[simp] theorem tget_nil (k : Nat) : tget ([] : Tbl α) k = none := rfl

@[simp] theorem tgetD_nil (k : Nat) (d : α) : tgetD ([] : Tbl α) k d = d := rfl

theorem tget_tdel (t : Tbl α) (k k' : Nat) : tget (tdel t k) k' = if k' = k then none else tget t k' := by
  induction t with
  | nil => simp [tdel]
  | cons p t ih =>
    obtain ⟨a, w⟩ := p
    simp only [tdel]
    by_cases h : k = a
    · by_cases h2 : k' = k <;> simp_all [tget]
    · by_cases h2 : k' = k <;> simp_all [tget]

theorem tget_tadd (t : Tbl α) (k k' : Nat) (v : α) (h : tget t k = none) :
    tget (tadd t k v) k' = if k' = k then some v else tget t k' := by
  induction t with
  | nil => simp [tadd, tget]
  | cons p t ih =>
    obtain ⟨a, w⟩ := p
    have hk : ¬ k = a := by intro e; simp [tget, e] at h
    have ih := ih (by simpa [tget, hk] using h)
    simp only [tadd]
    split
    · rfl
    · simp only [tget, ih]
      by_cases h2 : k' = a
      · have : ¬ a = k := fun e => hk e.symm
        simp [h2, this]
      · simp [h2]

/-- A listed key reads as what was listed; every other key as before. -/
theorem tget_tins (t : Tbl α) (k k' : Nat) (v : α) :
    tget (tins t k v) k' = if k' = k then some v else tget t k' := by
  rw [tins, tget_tadd _ _ _ _ (by simp [tget_tdel]), tget_tdel]; split <;> rfl

/-- A read of the key just written gives the value written. -/
@[simp] theorem tgetD_tput_same [DecidableEq α] (t : Tbl α) (k : Nat) (v d : α) : tgetD (tput t k v d) k d = v := by
  simp only [tput, tgetD]; split
  · simp_all [tget_tdel]
  · simp [tget_tins]

/-- A write leaves every other key as it was. -/
theorem tgetD_tput_other [DecidableEq α] (t : Tbl α) {k k' : Nat} (v d d' : α) (hk : k' ≠ k) :
    tgetD (tput t k v d) k' d' = tgetD t k' d' := by
  simp only [tput, tgetD]; split
  · simp [tget_tdel, hk]
  · simp [tget_tins, hk]

/-! ### The canonical form -/

theorem tabove_mono {t : Tbl α} {a b : Nat} (h : tabove t b = true) (hab : a ≤ b) : tabove t a = true := by
  cases t with
  | nil => rfl
  | cons p t =>
    simp only [tabove, Bool.and_eq_true, decide_eq_true_eq] at h ⊢
    exact ⟨by omega, h.2⟩

theorem tabove_tdel {t : Tbl α} {b : Nat} (k : Nat) (h : tabove t b = true) : tabove (tdel t k) b = true := by
  induction t generalizing b with
  | nil => rfl
  | cons p t ih =>
    obtain ⟨a, w⟩ := p
    simp only [tabove, Bool.and_eq_true, decide_eq_true_eq] at h
    simp only [tdel]
    split
    · exact ih (tabove_mono h.2 (by omega))
    · simp only [tabove, Bool.and_eq_true, decide_eq_true_eq]
      exact ⟨h.1, ih h.2⟩

theorem tsorted_tdel {t : Tbl α} (k : Nat) (h : tsorted t = true) : tsorted (tdel t k) = true := by
  induction t with
  | nil => rfl
  | cons p t ih =>
    obtain ⟨a, w⟩ := p
    have ha : tabove t a = true := h
    simp only [tdel]
    split
    · apply ih
      cases t with
      | nil => rfl
      | cons q t =>
        simp only [tabove, Bool.and_eq_true] at ha
        exact ha.2
    · exact tabove_tdel k ha

theorem tabove_tadd {t : Tbl α} {b k : Nat} {v : α} (h : tabove t b = true) (hk : b < k) (hn : tget t k = none) :
    tabove (tadd t k v) b = true := by
  induction t generalizing b with
  | nil => simp [tadd, tabove, hk]
  | cons p t ih =>
    obtain ⟨a, w⟩ := p
    have ha : ¬ k = a := by intro e; simp [tget, e] at hn
    simp only [tabove, Bool.and_eq_true, decide_eq_true_eq] at h
    simp only [tadd]
    split
    · simp only [tabove, Bool.and_eq_true, decide_eq_true_eq]
      exact ⟨hk, by omega, h.2⟩
    · simp only [tabove, Bool.and_eq_true, decide_eq_true_eq]
      exact ⟨h.1, ih h.2 (by omega) (by simpa [tget, ha] using hn)⟩

theorem tsorted_tadd {t : Tbl α} {k : Nat} (v : α) (h : tsorted t = true) (hn : tget t k = none) :
    tsorted (tadd t k v) = true := by
  cases t with
  | nil => rfl
  | cons p t =>
    obtain ⟨a, w⟩ := p
    have ha : ¬ k = a := by intro e; simp [tget, e] at hn
    simp only [tadd]
    split
    · simp only [tsorted, tabove, Bool.and_eq_true, decide_eq_true_eq]
      exact ⟨‹_›, h⟩
    · exact tabove_tadd h (by omega) (by simpa [tget, ha] using hn)

/-- A write leaves the keys strictly rising. -/
theorem tsorted_tput [DecidableEq α] {t : Tbl α} (k : Nat) (v d : α) (h : tsorted t = true) :
    tsorted (tput t k v d) = true := by
  simp only [tput, tins]; split
  · exact tsorted_tdel k h
  · exact tsorted_tadd v (tsorted_tdel k h) (by simp [tget_tdel])

theorem mem_tadd {t : Tbl α} {k : Nat} {v : α} {p : Nat × α} (h : p ∈ tadd t k v) : p = (k, v) ∨ p ∈ t := by
  induction t with
  | nil => simpa [tadd] using h
  | cons q t ih =>
    obtain ⟨a, w⟩ := q
    simp only [tadd] at h
    split at h
    · simpa using h
    · simp only [List.mem_cons] at h ⊢
      rcases h with h | h
      · exact .inr (.inl h)
      · rcases ih h with h | h
        · exact .inl h
        · exact .inr (.inr h)

theorem mem_tdel {t : Tbl α} {k : Nat} {p : Nat × α} (h : p ∈ tdel t k) : p ∈ t := by
  induction t with
  | nil => simp [tdel] at h
  | cons q t ih =>
    obtain ⟨a, w⟩ := q
    simp only [tdel] at h
    split at h
    · exact List.mem_cons_of_mem _ (ih h)
    · simp only [List.mem_cons] at h ⊢
      exact h.imp id ih

/-- A write keeps the canonical form. -/
theorem twf_tput [DecidableEq α] {t : Tbl α} {d : Nat → α} (k : Nat) (v : α) (h : twf t d = true) :
    twf (tput t k v (d k)) d = true := by
  simp only [twf, Bool.and_eq_true, List.all_eq_true, decide_eq_true_eq] at h ⊢
  refine ⟨tsorted_tput k v _ h.1, fun p hp => ?_⟩
  simp only [tput, tins] at hp
  split at hp
  · exact h.2 p (mem_tdel hp)
  · rcases mem_tadd hp with rfl | hp
    · assumption
    · exact h.2 p (mem_tdel hp)

end Sys2Proof.Machine
end

