-- ==== Sys2Proof/Laws/State.lean ====
section
/-!
SUPPORT. One lemma per field of State for each basic update, and the read laws of register fields and of the units
held in tables. The read laws need no premise about the state.
-/
namespace Sys2Proof.Machine

variable (s : State)

/-! ### Outcomes -/

/-- What a meaning answers: its effect, with the queue, the variant and host memory as they were. -/
def State.ran (s : State) (f : State → State) : State :=
  { f { s with out := [] } with
    pending := s.pending
    variant := s.variant
    hostMem := s.hostMem
    out := [] }

/-- What a meaning that may write host memory answers: the same, with its host writes placed. -/
def State.ranHost (s : State) (f : State → State) : State :=
  { f { s with out := [] } with
    pending := s.pending
    variant := s.variant
    hostMem := placeBytes s.hostMem (f { s with out := [] }).out
    out := [] }

theorem State.run_eq (f : State → State) : s.run f = .next (s.ran f) := rfl

theorem State.runIf_true (f : State → State) : s.runIf true f = .next (s.ran f) := rfl

theorem State.runIf_false (f : State → State) : s.runIf false f = .fault .noSuchUnit := rfl

theorem State.runHost_eq (f : State → State) : s.runHost f = .next (s.ranHost f) := rfl

theorem State.runHostIf_true (f : State → State) : s.runHostIf true f = .next (s.ranHost f) := rfl

theorem State.runHostIf_false (f : State → State) : s.runHostIf false f = .fault .noSuchUnit := rfl

@[simp] theorem State.ran_pending (f : State → State) : (s.ran f).pending = s.pending := rfl
@[simp] theorem State.ran_variant (f : State → State) : (s.ran f).variant = s.variant := rfl
@[simp] theorem State.ran_out (f : State → State) : (s.ran f).out = [] := rfl
@[simp] theorem State.ran_hostMem (f : State → State) : (s.ran f).hostMem = s.hostMem := rfl
@[simp] theorem State.ranHost_pending (f : State → State) : (s.ranHost f).pending = s.pending := rfl
@[simp] theorem State.ranHost_variant (f : State → State) : (s.ranHost f).variant = s.variant := rfl
@[simp] theorem State.ranHost_out (f : State → State) : (s.ranHost f).out = [] := rfl
@[simp] theorem State.ranHost_hostMem (f : State → State) :
    (s.ranHost f).hostMem = placeBytes s.hostMem (f { s with out := [] }).out := rfl
@[simp] theorem State.ran_now (f : State → State) : (s.ran f).now = (f { s with out := [] }).now := rfl
@[simp] theorem State.ranHost_now (f : State → State) : (s.ranHost f).now = (f { s with out := [] }).now := rfl
@[simp] theorem State.ran_pw (f : State → State) : (s.ran f).pw = (f { s with out := [] }).pw := rfl
@[simp] theorem State.ranHost_pw (f : State → State) : (s.ranHost f).pw = (f { s with out := [] }).pw := rfl
@[simp] theorem State.ran_dt (f : State → State) : (s.ran f).dt = (f { s with out := [] }).dt := rfl
@[simp] theorem State.ranHost_dt (f : State → State) : (s.ranHost f).dt = (f { s with out := [] }).dt := rfl
@[simp] theorem State.ran_dtOn (f : State → State) : (s.ran f).dtOn = (f { s with out := [] }).dtOn := rfl
@[simp] theorem State.ranHost_dtOn (f : State → State) : (s.ranHost f).dtOn = (f { s with out := [] }).dtOn := rfl
@[simp] theorem State.ran_free (f : State → State) : (s.ran f).free = (f { s with out := [] }).free := rfl
@[simp] theorem State.ranHost_free (f : State → State) : (s.ranHost f).free = (f { s with out := [] }).free := rfl
@[simp] theorem State.ran_regs (f : State → State) : (s.ran f).regs = (f { s with out := [] }).regs := rfl
@[simp] theorem State.ranHost_regs (f : State → State) : (s.ranHost f).regs = (f { s with out := [] }).regs := rfl
@[simp] theorem State.ran_pts (f : State → State) : (s.ran f).pts = (f { s with out := [] }).pts := rfl
@[simp] theorem State.ranHost_pts (f : State → State) : (s.ranHost f).pts = (f { s with out := [] }).pts := rfl
@[simp] theorem State.ran_seqs (f : State → State) : (s.ran f).seqs = (f { s with out := [] }).seqs := rfl
@[simp] theorem State.ranHost_seqs (f : State → State) : (s.ranHost f).seqs = (f { s with out := [] }).seqs := rfl
@[simp] theorem State.ran_mm (f : State → State) : (s.ran f).mm = (f { s with out := [] }).mm := rfl
@[simp] theorem State.ranHost_mm (f : State → State) : (s.ranHost f).mm = (f { s with out := [] }).mm := rfl
@[simp] theorem State.ran_rings (f : State → State) : (s.ran f).rings = (f { s with out := [] }).rings := rfl
@[simp] theorem State.ranHost_rings (f : State → State) : (s.ranHost f).rings = (f { s with out := [] }).rings := rfl
@[simp] theorem State.ran_rr (f : State → State) : (s.ran f).rr = (f { s with out := [] }).rr := rfl
@[simp] theorem State.ranHost_rr (f : State → State) : (s.ranHost f).rr = (f { s with out := [] }).rr := rfl
@[simp] theorem State.ran_bridge (f : State → State) : (s.ran f).bridge = (f { s with out := [] }).bridge := rfl
@[simp] theorem State.ranHost_bridge (f : State → State) : (s.ranHost f).bridge = (f { s with out := [] }).bridge := rfl
@[simp] theorem State.ran_qUse (f : State → State) : (s.ran f).qUse = (f { s with out := [] }).qUse := rfl
@[simp] theorem State.ranHost_qUse (f : State → State) : (s.ranHost f).qUse = (f { s with out := [] }).qUse := rfl
@[simp] theorem State.ran_qWait (f : State → State) : (s.ran f).qWait = (f { s with out := [] }).qWait := rfl
@[simp] theorem State.ranHost_qWait (f : State → State) : (s.ranHost f).qWait = (f { s with out := [] }).qWait := rfl
@[simp] theorem State.ran_cplQ (f : State → State) : (s.ran f).cplQ = (f { s with out := [] }).cplQ := rfl
@[simp] theorem State.ranHost_cplQ (f : State → State) : (s.ranHost f).cplQ = (f { s with out := [] }).cplQ := rfl
@[simp] theorem State.ran_evq (f : State → State) : (s.ran f).evq = (f { s with out := [] }).evq := rfl
@[simp] theorem State.ranHost_evq (f : State → State) : (s.ranHost f).evq = (f { s with out := [] }).evq := rfl
@[simp] theorem State.ran_legs (f : State → State) : (s.ran f).legs = (f { s with out := [] }).legs := rfl
@[simp] theorem State.ranHost_legs (f : State → State) : (s.ranHost f).legs = (f { s with out := [] }).legs := rfl
@[simp] theorem State.ran_brks (f : State → State) : (s.ran f).brks = (f { s with out := [] }).brks := rfl
@[simp] theorem State.ranHost_brks (f : State → State) : (s.ranHost f).brks = (f { s with out := [] }).brks := rfl
@[simp] theorem State.ran_halts (f : State → State) : (s.ran f).halts = (f { s with out := [] }).halts := rfl
@[simp] theorem State.ranHost_halts (f : State → State) : (s.ranHost f).halts = (f { s with out := [] }).halts := rfl
@[simp] theorem State.ran_cmpQ (f : State → State) : (s.ran f).cmpQ = (f { s with out := [] }).cmpQ := rfl
@[simp] theorem State.ranHost_cmpQ (f : State → State) : (s.ranHost f).cmpQ = (f { s with out := [] }).cmpQ := rfl
@[simp] theorem State.ran_reports (f : State → State) : (s.ran f).reports = (f { s with out := [] }).reports := rfl
@[simp] theorem State.ranHost_reports (f : State → State) : (s.ranHost f).reports = (f { s with out := [] }).reports := rfl
@[simp] theorem State.ran_cws (f : State → State) : (s.ran f).cws = (f { s with out := [] }).cws := rfl
@[simp] theorem State.ranHost_cws (f : State → State) : (s.ranHost f).cws = (f { s with out := [] }).cws := rfl
@[simp] theorem State.ran_tgs (f : State → State) : (s.ran f).tgs = (f { s with out := [] }).tgs := rfl
@[simp] theorem State.ranHost_tgs (f : State → State) : (s.ranHost f).tgs = (f { s with out := [] }).tgs := rfl
@[simp] theorem State.ran_flt (f : State → State) : (s.ran f).flt = (f { s with out := [] }).flt := rfl
@[simp] theorem State.ranHost_flt (f : State → State) : (s.ranHost f).flt = (f { s with out := [] }).flt := rfl
@[simp] theorem State.ran_pinhLow (f : State → State) : (s.ran f).pinhLow = (f { s with out := [] }).pinhLow := rfl
@[simp] theorem State.ranHost_pinhLow (f : State → State) : (s.ranHost f).pinhLow = (f { s with out := [] }).pinhLow := rfl
@[simp] theorem State.ran_dcTaken (f : State → State) : (s.ran f).dcTaken = (f { s with out := [] }).dcTaken := rfl
@[simp] theorem State.ranHost_dcTaken (f : State → State) : (s.ranHost f).dcTaken = (f { s with out := [] }).dcTaken := rfl
@[simp] theorem State.ran_acTaken (f : State → State) : (s.ran f).acTaken = (f { s with out := [] }).acTaken := rfl
@[simp] theorem State.ranHost_acTaken (f : State → State) : (s.ranHost f).acTaken = (f { s with out := [] }).acTaken := rfl
@[simp] theorem State.ran_adcTrigs (f : State → State) : (s.ran f).adcTrigs = (f { s with out := [] }).adcTrigs := rfl
@[simp] theorem State.ranHost_adcTrigs (f : State → State) : (s.ranHost f).adcTrigs = (f { s with out := [] }).adcTrigs := rfl
@[simp] theorem State.ran_cadTrigs (f : State → State) : (s.ran f).cadTrigs = (f { s with out := [] }).cadTrigs := rfl
@[simp] theorem State.ranHost_cadTrigs (f : State → State) : (s.ranHost f).cadTrigs = (f { s with out := [] }).cadTrigs := rfl
@[simp] theorem State.ran_engTrigs (f : State → State) : (s.ran f).engTrigs = (f { s with out := [] }).engTrigs := rfl
@[simp] theorem State.ranHost_engTrigs (f : State → State) : (s.ranHost f).engTrigs = (f { s with out := [] }).engTrigs := rfl
@[simp] theorem State.ran_esp (f : State → State) : (s.ran f).esp = (f { s with out := [] }).esp := rfl
@[simp] theorem State.ranHost_esp (f : State → State) : (s.ranHost f).esp = (f { s with out := [] }).esp := rfl
@[simp] theorem State.ran_shadow (f : State → State) : (s.ran f).shadow = (f { s with out := [] }).shadow := rfl
@[simp] theorem State.ranHost_shadow (f : State → State) : (s.ranHost f).shadow = (f { s with out := [] }).shadow := rfl
@[simp] theorem State.ran_trgs (f : State → State) : (s.ran f).trgs = (f { s with out := [] }).trgs := rfl
@[simp] theorem State.ranHost_trgs (f : State → State) : (s.ranHost f).trgs = (f { s with out := [] }).trgs := rfl
@[simp] theorem State.ran_caps (f : State → State) : (s.ran f).caps = (f { s with out := [] }).caps := rfl
@[simp] theorem State.ranHost_caps (f : State → State) : (s.ranHost f).caps = (f { s with out := [] }).caps := rfl
@[simp] theorem State.ran_trss (f : State → State) : (s.ran f).trss = (f { s with out := [] }).trss := rfl
@[simp] theorem State.ranHost_trss (f : State → State) : (s.ranHost f).trss = (f { s with out := [] }).trss := rfl
@[simp] theorem State.ran_capmem (f : State → State) : (s.ran f).capmem = (f { s with out := [] }).capmem := rfl
@[simp] theorem State.ranHost_capmem (f : State → State) : (s.ranHost f).capmem = (f { s with out := [] }).capmem := rfl
@[simp] theorem State.ran_mem (f : State → State) : (s.ran f).mem = (f { s with out := [] }).mem := rfl
@[simp] theorem State.ranHost_mem (f : State → State) : (s.ranHost f).mem = (f { s with out := [] }).mem := rfl
@[simp] theorem State.ran_trl (f : State → State) : (s.ran f).trl = (f { s with out := [] }).trl := rfl
@[simp] theorem State.ranHost_trl (f : State → State) : (s.ranHost f).trl = (f { s with out := [] }).trl := rfl
@[simp] theorem State.ran_hoe (f : State → State) : (s.ran f).hoe = (f { s with out := [] }).hoe := rfl
@[simp] theorem State.ranHost_hoe (f : State → State) : (s.ranHost f).hoe = (f { s with out := [] }).hoe := rfl
@[simp] theorem State.ran_mtr (f : State → State) : (s.ran f).mtr = (f { s with out := [] }).mtr := rfl
@[simp] theorem State.ranHost_mtr (f : State → State) : (s.ranHost f).mtr = (f { s with out := [] }).mtr := rfl
@[simp] theorem State.ran_clo (f : State → State) : (s.ran f).clo = (f { s with out := [] }).clo := rfl
@[simp] theorem State.ranHost_clo (f : State → State) : (s.ranHost f).clo = (f { s with out := [] }).clo := rfl
@[simp] theorem State.ran_saf (f : State → State) : (s.ran f).saf = (f { s with out := [] }).saf := rfl
@[simp] theorem State.ranHost_saf (f : State → State) : (s.ranHost f).saf = (f { s with out := [] }).saf := rfl
@[simp] theorem State.ran_clk (f : State → State) : (s.ran f).clk = (f { s with out := [] }).clk := rfl
@[simp] theorem State.ranHost_clk (f : State → State) : (s.ranHost f).clk = (f { s with out := [] }).clk := rfl
@[simp] theorem State.ran_ptp (f : State → State) : (s.ran f).ptp = (f { s with out := [] }).ptp := rfl
@[simp] theorem State.ranHost_ptp (f : State → State) : (s.ranHost f).ptp = (f { s with out := [] }).ptp := rfl
@[simp] theorem State.ran_eth (f : State → State) : (s.ran f).eth = (f { s with out := [] }).eth := rfl
@[simp] theorem State.ranHost_eth (f : State → State) : (s.ranHost f).eth = (f { s with out := [] }).eth := rfl
@[simp] theorem State.ran_seqSt (f : State → State) : (s.ran f).seqSt = (f { s with out := [] }).seqSt := rfl
@[simp] theorem State.ranHost_seqSt (f : State → State) : (s.ranHost f).seqSt = (f { s with out := [] }).seqSt := rfl
@[simp] theorem State.ran_cores (f : State → State) : (s.ran f).cores = (f { s with out := [] }).cores := rfl
@[simp] theorem State.ranHost_cores (f : State → State) : (s.ranHost f).cores = (f { s with out := [] }).cores := rfl
@[simp] theorem State.ran_resQ (f : State → State) : (s.ran f).resQ = (f { s with out := [] }).resQ := rfl
@[simp] theorem State.ranHost_resQ (f : State → State) : (s.ranHost f).resQ = (f { s with out := [] }).resQ := rfl
@[simp] theorem State.ran_tmrs (f : State → State) : (s.ran f).tmrs = (f { s with out := [] }).tmrs := rfl
@[simp] theorem State.ranHost_tmrs (f : State → State) : (s.ranHost f).tmrs = (f { s with out := [] }).tmrs := rfl
@[simp] theorem State.ran_sds (f : State → State) : (s.ran f).sds = (f { s with out := [] }).sds := rfl
@[simp] theorem State.ranHost_sds (f : State → State) : (s.ranHost f).sds = (f { s with out := [] }).sds := rfl
@[simp] theorem State.ran_cal (f : State → State) : (s.ran f).cal = (f { s with out := [] }).cal := rfl
@[simp] theorem State.ranHost_cal (f : State → State) : (s.ranHost f).cal = (f { s with out := [] }).cal := rfl
@[simp] theorem State.ran_auxMult (f : State → State) : (s.ran f).auxMult = (f { s with out := [] }).auxMult := rfl
@[simp] theorem State.ranHost_auxMult (f : State → State) : (s.ranHost f).auxMult = (f { s with out := [] }).auxMult := rfl
@[simp] theorem State.ran_phgLegs (f : State → State) : (s.ran f).phgLegs = (f { s with out := [] }).phgLegs := rfl
@[simp] theorem State.ranHost_phgLegs (f : State → State) : (s.ranHost f).phgLegs = (f { s with out := [] }).phgLegs := rfl
@[simp] theorem State.ran_phgs (f : State → State) : (s.ran f).phgs = (f { s with out := [] }).phgs := rfl
@[simp] theorem State.ranHost_phgs (f : State → State) : (s.ranHost f).phgs = (f { s with out := [] }).phgs := rfl
@[simp] theorem State.ran_ceilMark (f : State → State) : (s.ran f).ceilMark = (f { s with out := [] }).ceilMark := rfl
@[simp] theorem State.ranHost_ceilMark (f : State → State) : (s.ranHost f).ceilMark = (f { s with out := [] }).ceilMark := rfl
@[simp] theorem State.ran_prb (f : State → State) : (s.ran f).prb = (f { s with out := [] }).prb := rfl
@[simp] theorem State.ranHost_prb (f : State → State) : (s.ranHost f).prb = (f { s with out := [] }).prb := rfl
@[simp] theorem State.ran_grd (f : State → State) : (s.ran f).grd = (f { s with out := [] }).grd := rfl
@[simp] theorem State.ranHost_grd (f : State → State) : (s.ranHost f).grd = (f { s with out := [] }).grd := rfl
@[simp] theorem State.ran_dcis (f : State → State) : (s.ran f).dcis = (f { s with out := [] }).dcis := rfl
@[simp] theorem State.ranHost_dcis (f : State → State) : (s.ranHost f).dcis = (f { s with out := [] }).dcis := rfl
@[simp] theorem State.ran_dcs (f : State → State) : (s.ran f).dcs = (f { s with out := [] }).dcs := rfl
@[simp] theorem State.ranHost_dcs (f : State → State) : (s.ranHost f).dcs = (f { s with out := [] }).dcs := rfl

/-- Host memory keeps its canonical form (log 4). -/
theorem twf_placeBytes {m : Tbl Byte} (l : List (Nat × Nat)) (h : twf m (fun _ => 0) = true) :
    twf (placeBytes m l) (fun _ => 0) = true := by
  induction l generalizing m with
  | nil => exact h
  | cons p l ih => exact ih (twf_tput (d := fun _ => 0) p.1 _ h)

/-! ### Updates -/

@[simp] theorem State.when_true (f : State → State) : s.when true f = f s := rfl
@[simp] theorem State.when_false (f : State → State) : s.when false f = s := rfl
@[simp] theorem State.each_nil {α : Type} (f : α → State → State) : s.each [] f = s := rfl
@[simp] theorem State.each_cons {α : Type} (a : α) (l : List α) (f : α → State → State) :
    s.each (a :: l) f = (f a s).each l f := rfl

@[simp] theorem State.wr_pending (f : Fld) (v i j : Nat) : (s.wr f v i j).pending = s.pending := rfl
@[simp] theorem State.wr_variant (f : Fld) (v i j : Nat) : (s.wr f v i j).variant = s.variant := rfl
@[simp] theorem State.wr_now (f : Fld) (v i j : Nat) : (s.wr f v i j).now = s.now := rfl
@[simp] theorem State.wr_pw (f : Fld) (v i j : Nat) : (s.wr f v i j).pw = s.pw := rfl
@[simp] theorem State.wr_dt (f : Fld) (v i j : Nat) : (s.wr f v i j).dt = s.dt := rfl
@[simp] theorem State.wr_dtOn (f : Fld) (v i j : Nat) : (s.wr f v i j).dtOn = s.dtOn := rfl
@[simp] theorem State.wr_free (f : Fld) (v i j : Nat) : (s.wr f v i j).free = s.free := rfl
@[simp] theorem State.wr_pts (f : Fld) (v i j : Nat) : (s.wr f v i j).pts = s.pts := rfl
@[simp] theorem State.wr_seqs (f : Fld) (v i j : Nat) : (s.wr f v i j).seqs = s.seqs := rfl
@[simp] theorem State.wr_hostMem (f : Fld) (v i j : Nat) : (s.wr f v i j).hostMem = s.hostMem := rfl
@[simp] theorem State.wr_out (f : Fld) (v i j : Nat) : (s.wr f v i j).out = s.out := rfl
@[simp] theorem State.wr_mm (f : Fld) (v i j : Nat) : (s.wr f v i j).mm = s.mm := rfl
@[simp] theorem State.wr_rings (f : Fld) (v i j : Nat) : (s.wr f v i j).rings = s.rings := rfl
@[simp] theorem State.wr_rr (f : Fld) (v i j : Nat) : (s.wr f v i j).rr = s.rr := rfl
@[simp] theorem State.wr_bridge (f : Fld) (v i j : Nat) : (s.wr f v i j).bridge = s.bridge := rfl
@[simp] theorem State.wr_qUse (f : Fld) (v i j : Nat) : (s.wr f v i j).qUse = s.qUse := rfl
@[simp] theorem State.wr_qWait (f : Fld) (v i j : Nat) : (s.wr f v i j).qWait = s.qWait := rfl
@[simp] theorem State.wr_cplQ (f : Fld) (v i j : Nat) : (s.wr f v i j).cplQ = s.cplQ := rfl
@[simp] theorem State.wr_evq (f : Fld) (v i j : Nat) : (s.wr f v i j).evq = s.evq := rfl
@[simp] theorem State.wr_legs (f : Fld) (v i j : Nat) : (s.wr f v i j).legs = s.legs := rfl
@[simp] theorem State.wr_brks (f : Fld) (v i j : Nat) : (s.wr f v i j).brks = s.brks := rfl
@[simp] theorem State.wr_halts (f : Fld) (v i j : Nat) : (s.wr f v i j).halts = s.halts := rfl
@[simp] theorem State.wr_cmpQ (f : Fld) (v i j : Nat) : (s.wr f v i j).cmpQ = s.cmpQ := rfl
@[simp] theorem State.wr_reports (f : Fld) (v i j : Nat) : (s.wr f v i j).reports = s.reports := rfl
@[simp] theorem State.wr_cws (f : Fld) (v i j : Nat) : (s.wr f v i j).cws = s.cws := rfl
@[simp] theorem State.wr_tgs (f : Fld) (v i j : Nat) : (s.wr f v i j).tgs = s.tgs := rfl
@[simp] theorem State.wr_flt (f : Fld) (v i j : Nat) : (s.wr f v i j).flt = s.flt := rfl
@[simp] theorem State.wr_pinhLow (f : Fld) (v i j : Nat) : (s.wr f v i j).pinhLow = s.pinhLow := rfl
@[simp] theorem State.wr_dcTaken (f : Fld) (v i j : Nat) : (s.wr f v i j).dcTaken = s.dcTaken := rfl
@[simp] theorem State.wr_acTaken (f : Fld) (v i j : Nat) : (s.wr f v i j).acTaken = s.acTaken := rfl
@[simp] theorem State.wr_adcTrigs (f : Fld) (v i j : Nat) : (s.wr f v i j).adcTrigs = s.adcTrigs := rfl
@[simp] theorem State.wr_cadTrigs (f : Fld) (v i j : Nat) : (s.wr f v i j).cadTrigs = s.cadTrigs := rfl
@[simp] theorem State.wr_engTrigs (f : Fld) (v i j : Nat) : (s.wr f v i j).engTrigs = s.engTrigs := rfl
@[simp] theorem State.wr_esp (f : Fld) (v i j : Nat) : (s.wr f v i j).esp = s.esp := rfl
@[simp] theorem State.wr_shadow (f : Fld) (v i j : Nat) : (s.wr f v i j).shadow = s.shadow := rfl
@[simp] theorem State.wr_trgs (f : Fld) (v i j : Nat) : (s.wr f v i j).trgs = s.trgs := rfl
@[simp] theorem State.wr_caps (f : Fld) (v i j : Nat) : (s.wr f v i j).caps = s.caps := rfl
@[simp] theorem State.wr_trss (f : Fld) (v i j : Nat) : (s.wr f v i j).trss = s.trss := rfl
@[simp] theorem State.wr_capmem (f : Fld) (v i j : Nat) : (s.wr f v i j).capmem = s.capmem := rfl
@[simp] theorem State.wr_mem (f : Fld) (v i j : Nat) : (s.wr f v i j).mem = s.mem := rfl
@[simp] theorem State.wr_trl (f : Fld) (v i j : Nat) : (s.wr f v i j).trl = s.trl := rfl
@[simp] theorem State.wr_hoe (f : Fld) (v i j : Nat) : (s.wr f v i j).hoe = s.hoe := rfl
@[simp] theorem State.wr_mtr (f : Fld) (v i j : Nat) : (s.wr f v i j).mtr = s.mtr := rfl
@[simp] theorem State.wr_clo (f : Fld) (v i j : Nat) : (s.wr f v i j).clo = s.clo := rfl
@[simp] theorem State.wr_saf (f : Fld) (v i j : Nat) : (s.wr f v i j).saf = s.saf := rfl
@[simp] theorem State.wr_clk (f : Fld) (v i j : Nat) : (s.wr f v i j).clk = s.clk := rfl
@[simp] theorem State.wr_ptp (f : Fld) (v i j : Nat) : (s.wr f v i j).ptp = s.ptp := rfl
@[simp] theorem State.wr_eth (f : Fld) (v i j : Nat) : (s.wr f v i j).eth = s.eth := rfl
@[simp] theorem State.wr_seqSt (f : Fld) (v i j : Nat) : (s.wr f v i j).seqSt = s.seqSt := rfl
@[simp] theorem State.wr_cores (f : Fld) (v i j : Nat) : (s.wr f v i j).cores = s.cores := rfl
@[simp] theorem State.wr_resQ (f : Fld) (v i j : Nat) : (s.wr f v i j).resQ = s.resQ := rfl
@[simp] theorem State.wr_tmrs (f : Fld) (v i j : Nat) : (s.wr f v i j).tmrs = s.tmrs := rfl
@[simp] theorem State.wr_sds (f : Fld) (v i j : Nat) : (s.wr f v i j).sds = s.sds := rfl
@[simp] theorem State.wr_cal (f : Fld) (v i j : Nat) : (s.wr f v i j).cal = s.cal := rfl
@[simp] theorem State.wr_auxMult (f : Fld) (v i j : Nat) : (s.wr f v i j).auxMult = s.auxMult := rfl
@[simp] theorem State.wr_phgLegs (f : Fld) (v i j : Nat) : (s.wr f v i j).phgLegs = s.phgLegs := rfl
@[simp] theorem State.wr_phgs (f : Fld) (v i j : Nat) : (s.wr f v i j).phgs = s.phgs := rfl
@[simp] theorem State.wr_ceilMark (f : Fld) (v i j : Nat) : (s.wr f v i j).ceilMark = s.ceilMark := rfl
@[simp] theorem State.wr_prb (f : Fld) (v i j : Nat) : (s.wr f v i j).prb = s.prb := rfl
@[simp] theorem State.wr_grd (f : Fld) (v i j : Nat) : (s.wr f v i j).grd = s.grd := rfl
@[simp] theorem State.wr_dcis (f : Fld) (v i j : Nat) : (s.wr f v i j).dcis = s.dcis := rfl
@[simp] theorem State.wr_dcs (f : Fld) (v i j : Nat) : (s.wr f v i j).dcs = s.dcs := rfl

@[simp] theorem State.post_pending (ty : Nat) (l : List (Nat × Nat × Nat)) : (s.post ty l).pending = s.pending := rfl
@[simp] theorem State.post_variant (ty : Nat) (l : List (Nat × Nat × Nat)) : (s.post ty l).variant = s.variant := rfl
@[simp] theorem State.post_now (ty : Nat) (l : List (Nat × Nat × Nat)) : (s.post ty l).now = s.now := rfl
@[simp] theorem State.post_pw (ty : Nat) (l : List (Nat × Nat × Nat)) : (s.post ty l).pw = s.pw := rfl
@[simp] theorem State.post_dt (ty : Nat) (l : List (Nat × Nat × Nat)) : (s.post ty l).dt = s.dt := rfl
@[simp] theorem State.post_dtOn (ty : Nat) (l : List (Nat × Nat × Nat)) : (s.post ty l).dtOn = s.dtOn := rfl
@[simp] theorem State.post_free (ty : Nat) (l : List (Nat × Nat × Nat)) : (s.post ty l).free = s.free := rfl
@[simp] theorem State.post_regs (ty : Nat) (l : List (Nat × Nat × Nat)) : (s.post ty l).regs = s.regs := rfl
@[simp] theorem State.post_pts (ty : Nat) (l : List (Nat × Nat × Nat)) : (s.post ty l).pts = s.pts := rfl
@[simp] theorem State.post_seqs (ty : Nat) (l : List (Nat × Nat × Nat)) : (s.post ty l).seqs = s.seqs := rfl
@[simp] theorem State.post_hostMem (ty : Nat) (l : List (Nat × Nat × Nat)) : (s.post ty l).hostMem = s.hostMem := rfl
@[simp] theorem State.post_out (ty : Nat) (l : List (Nat × Nat × Nat)) : (s.post ty l).out = s.out := rfl
@[simp] theorem State.post_mm (ty : Nat) (l : List (Nat × Nat × Nat)) : (s.post ty l).mm = s.mm := rfl
@[simp] theorem State.post_rings (ty : Nat) (l : List (Nat × Nat × Nat)) : (s.post ty l).rings = s.rings := rfl
@[simp] theorem State.post_rr (ty : Nat) (l : List (Nat × Nat × Nat)) : (s.post ty l).rr = s.rr := rfl
@[simp] theorem State.post_bridge (ty : Nat) (l : List (Nat × Nat × Nat)) : (s.post ty l).bridge = s.bridge := rfl
@[simp] theorem State.post_qUse (ty : Nat) (l : List (Nat × Nat × Nat)) : (s.post ty l).qUse = s.qUse := rfl
@[simp] theorem State.post_qWait (ty : Nat) (l : List (Nat × Nat × Nat)) : (s.post ty l).qWait = s.qWait := rfl
@[simp] theorem State.post_cplQ (ty : Nat) (l : List (Nat × Nat × Nat)) : (s.post ty l).cplQ = s.cplQ := rfl
@[simp] theorem State.post_legs (ty : Nat) (l : List (Nat × Nat × Nat)) : (s.post ty l).legs = s.legs := rfl
@[simp] theorem State.post_brks (ty : Nat) (l : List (Nat × Nat × Nat)) : (s.post ty l).brks = s.brks := rfl
@[simp] theorem State.post_halts (ty : Nat) (l : List (Nat × Nat × Nat)) : (s.post ty l).halts = s.halts := rfl
@[simp] theorem State.post_cmpQ (ty : Nat) (l : List (Nat × Nat × Nat)) : (s.post ty l).cmpQ = s.cmpQ := rfl
@[simp] theorem State.post_reports (ty : Nat) (l : List (Nat × Nat × Nat)) : (s.post ty l).reports = s.reports := rfl
@[simp] theorem State.post_cws (ty : Nat) (l : List (Nat × Nat × Nat)) : (s.post ty l).cws = s.cws := rfl
@[simp] theorem State.post_tgs (ty : Nat) (l : List (Nat × Nat × Nat)) : (s.post ty l).tgs = s.tgs := rfl
@[simp] theorem State.post_flt (ty : Nat) (l : List (Nat × Nat × Nat)) : (s.post ty l).flt = s.flt := rfl
@[simp] theorem State.post_pinhLow (ty : Nat) (l : List (Nat × Nat × Nat)) : (s.post ty l).pinhLow = s.pinhLow := rfl
@[simp] theorem State.post_dcTaken (ty : Nat) (l : List (Nat × Nat × Nat)) : (s.post ty l).dcTaken = s.dcTaken := rfl
@[simp] theorem State.post_acTaken (ty : Nat) (l : List (Nat × Nat × Nat)) : (s.post ty l).acTaken = s.acTaken := rfl
@[simp] theorem State.post_adcTrigs (ty : Nat) (l : List (Nat × Nat × Nat)) : (s.post ty l).adcTrigs = s.adcTrigs := rfl
@[simp] theorem State.post_cadTrigs (ty : Nat) (l : List (Nat × Nat × Nat)) : (s.post ty l).cadTrigs = s.cadTrigs := rfl
@[simp] theorem State.post_engTrigs (ty : Nat) (l : List (Nat × Nat × Nat)) : (s.post ty l).engTrigs = s.engTrigs := rfl
@[simp] theorem State.post_esp (ty : Nat) (l : List (Nat × Nat × Nat)) : (s.post ty l).esp = s.esp := rfl
@[simp] theorem State.post_shadow (ty : Nat) (l : List (Nat × Nat × Nat)) : (s.post ty l).shadow = s.shadow := rfl
@[simp] theorem State.post_trgs (ty : Nat) (l : List (Nat × Nat × Nat)) : (s.post ty l).trgs = s.trgs := rfl
@[simp] theorem State.post_caps (ty : Nat) (l : List (Nat × Nat × Nat)) : (s.post ty l).caps = s.caps := rfl
@[simp] theorem State.post_trss (ty : Nat) (l : List (Nat × Nat × Nat)) : (s.post ty l).trss = s.trss := rfl
@[simp] theorem State.post_capmem (ty : Nat) (l : List (Nat × Nat × Nat)) : (s.post ty l).capmem = s.capmem := rfl
@[simp] theorem State.post_mem (ty : Nat) (l : List (Nat × Nat × Nat)) : (s.post ty l).mem = s.mem := rfl
@[simp] theorem State.post_trl (ty : Nat) (l : List (Nat × Nat × Nat)) : (s.post ty l).trl = s.trl := rfl
@[simp] theorem State.post_hoe (ty : Nat) (l : List (Nat × Nat × Nat)) : (s.post ty l).hoe = s.hoe := rfl
@[simp] theorem State.post_mtr (ty : Nat) (l : List (Nat × Nat × Nat)) : (s.post ty l).mtr = s.mtr := rfl
@[simp] theorem State.post_clo (ty : Nat) (l : List (Nat × Nat × Nat)) : (s.post ty l).clo = s.clo := rfl
@[simp] theorem State.post_saf (ty : Nat) (l : List (Nat × Nat × Nat)) : (s.post ty l).saf = s.saf := rfl
@[simp] theorem State.post_clk (ty : Nat) (l : List (Nat × Nat × Nat)) : (s.post ty l).clk = s.clk := rfl
@[simp] theorem State.post_ptp (ty : Nat) (l : List (Nat × Nat × Nat)) : (s.post ty l).ptp = s.ptp := rfl
@[simp] theorem State.post_eth (ty : Nat) (l : List (Nat × Nat × Nat)) : (s.post ty l).eth = s.eth := rfl
@[simp] theorem State.post_seqSt (ty : Nat) (l : List (Nat × Nat × Nat)) : (s.post ty l).seqSt = s.seqSt := rfl
@[simp] theorem State.post_cores (ty : Nat) (l : List (Nat × Nat × Nat)) : (s.post ty l).cores = s.cores := rfl
@[simp] theorem State.post_resQ (ty : Nat) (l : List (Nat × Nat × Nat)) : (s.post ty l).resQ = s.resQ := rfl
@[simp] theorem State.post_tmrs (ty : Nat) (l : List (Nat × Nat × Nat)) : (s.post ty l).tmrs = s.tmrs := rfl
@[simp] theorem State.post_sds (ty : Nat) (l : List (Nat × Nat × Nat)) : (s.post ty l).sds = s.sds := rfl
@[simp] theorem State.post_cal (ty : Nat) (l : List (Nat × Nat × Nat)) : (s.post ty l).cal = s.cal := rfl
@[simp] theorem State.post_auxMult (ty : Nat) (l : List (Nat × Nat × Nat)) : (s.post ty l).auxMult = s.auxMult := rfl
@[simp] theorem State.post_phgLegs (ty : Nat) (l : List (Nat × Nat × Nat)) : (s.post ty l).phgLegs = s.phgLegs := rfl
@[simp] theorem State.post_phgs (ty : Nat) (l : List (Nat × Nat × Nat)) : (s.post ty l).phgs = s.phgs := rfl
@[simp] theorem State.post_ceilMark (ty : Nat) (l : List (Nat × Nat × Nat)) : (s.post ty l).ceilMark = s.ceilMark := rfl
@[simp] theorem State.post_prb (ty : Nat) (l : List (Nat × Nat × Nat)) : (s.post ty l).prb = s.prb := rfl
@[simp] theorem State.post_grd (ty : Nat) (l : List (Nat × Nat × Nat)) : (s.post ty l).grd = s.grd := rfl
@[simp] theorem State.post_dcis (ty : Nat) (l : List (Nat × Nat × Nat)) : (s.post ty l).dcis = s.dcis := rfl
@[simp] theorem State.post_dcs (ty : Nat) (l : List (Nat × Nat × Nat)) : (s.post ty l).dcs = s.dcs := rfl

@[simp] theorem State.hostPut_pending (a : Nat) (b : List Nat) : (s.hostPut a b).pending = s.pending := rfl
@[simp] theorem State.hostPut_variant (a : Nat) (b : List Nat) : (s.hostPut a b).variant = s.variant := rfl
@[simp] theorem State.hostPut_now (a : Nat) (b : List Nat) : (s.hostPut a b).now = s.now := rfl
@[simp] theorem State.hostPut_pw (a : Nat) (b : List Nat) : (s.hostPut a b).pw = s.pw := rfl
@[simp] theorem State.hostPut_dt (a : Nat) (b : List Nat) : (s.hostPut a b).dt = s.dt := rfl
@[simp] theorem State.hostPut_dtOn (a : Nat) (b : List Nat) : (s.hostPut a b).dtOn = s.dtOn := rfl
@[simp] theorem State.hostPut_free (a : Nat) (b : List Nat) : (s.hostPut a b).free = s.free := rfl
@[simp] theorem State.hostPut_regs (a : Nat) (b : List Nat) : (s.hostPut a b).regs = s.regs := rfl
@[simp] theorem State.hostPut_pts (a : Nat) (b : List Nat) : (s.hostPut a b).pts = s.pts := rfl
@[simp] theorem State.hostPut_seqs (a : Nat) (b : List Nat) : (s.hostPut a b).seqs = s.seqs := rfl
@[simp] theorem State.hostPut_hostMem (a : Nat) (b : List Nat) : (s.hostPut a b).hostMem = s.hostMem := rfl
@[simp] theorem State.hostPut_mm (a : Nat) (b : List Nat) : (s.hostPut a b).mm = s.mm := rfl
@[simp] theorem State.hostPut_rings (a : Nat) (b : List Nat) : (s.hostPut a b).rings = s.rings := rfl
@[simp] theorem State.hostPut_rr (a : Nat) (b : List Nat) : (s.hostPut a b).rr = s.rr := rfl
@[simp] theorem State.hostPut_bridge (a : Nat) (b : List Nat) : (s.hostPut a b).bridge = s.bridge := rfl
@[simp] theorem State.hostPut_qUse (a : Nat) (b : List Nat) : (s.hostPut a b).qUse = s.qUse := rfl
@[simp] theorem State.hostPut_qWait (a : Nat) (b : List Nat) : (s.hostPut a b).qWait = s.qWait := rfl
@[simp] theorem State.hostPut_cplQ (a : Nat) (b : List Nat) : (s.hostPut a b).cplQ = s.cplQ := rfl
@[simp] theorem State.hostPut_evq (a : Nat) (b : List Nat) : (s.hostPut a b).evq = s.evq := rfl
@[simp] theorem State.hostPut_legs (a : Nat) (b : List Nat) : (s.hostPut a b).legs = s.legs := rfl
@[simp] theorem State.hostPut_brks (a : Nat) (b : List Nat) : (s.hostPut a b).brks = s.brks := rfl
@[simp] theorem State.hostPut_halts (a : Nat) (b : List Nat) : (s.hostPut a b).halts = s.halts := rfl
@[simp] theorem State.hostPut_cmpQ (a : Nat) (b : List Nat) : (s.hostPut a b).cmpQ = s.cmpQ := rfl
@[simp] theorem State.hostPut_reports (a : Nat) (b : List Nat) : (s.hostPut a b).reports = s.reports := rfl
@[simp] theorem State.hostPut_cws (a : Nat) (b : List Nat) : (s.hostPut a b).cws = s.cws := rfl
@[simp] theorem State.hostPut_tgs (a : Nat) (b : List Nat) : (s.hostPut a b).tgs = s.tgs := rfl
@[simp] theorem State.hostPut_flt (a : Nat) (b : List Nat) : (s.hostPut a b).flt = s.flt := rfl
@[simp] theorem State.hostPut_pinhLow (a : Nat) (b : List Nat) : (s.hostPut a b).pinhLow = s.pinhLow := rfl
@[simp] theorem State.hostPut_dcTaken (a : Nat) (b : List Nat) : (s.hostPut a b).dcTaken = s.dcTaken := rfl
@[simp] theorem State.hostPut_acTaken (a : Nat) (b : List Nat) : (s.hostPut a b).acTaken = s.acTaken := rfl
@[simp] theorem State.hostPut_adcTrigs (a : Nat) (b : List Nat) : (s.hostPut a b).adcTrigs = s.adcTrigs := rfl
@[simp] theorem State.hostPut_cadTrigs (a : Nat) (b : List Nat) : (s.hostPut a b).cadTrigs = s.cadTrigs := rfl
@[simp] theorem State.hostPut_engTrigs (a : Nat) (b : List Nat) : (s.hostPut a b).engTrigs = s.engTrigs := rfl
@[simp] theorem State.hostPut_esp (a : Nat) (b : List Nat) : (s.hostPut a b).esp = s.esp := rfl
@[simp] theorem State.hostPut_shadow (a : Nat) (b : List Nat) : (s.hostPut a b).shadow = s.shadow := rfl
@[simp] theorem State.hostPut_trgs (a : Nat) (b : List Nat) : (s.hostPut a b).trgs = s.trgs := rfl
@[simp] theorem State.hostPut_caps (a : Nat) (b : List Nat) : (s.hostPut a b).caps = s.caps := rfl
@[simp] theorem State.hostPut_trss (a : Nat) (b : List Nat) : (s.hostPut a b).trss = s.trss := rfl
@[simp] theorem State.hostPut_capmem (a : Nat) (b : List Nat) : (s.hostPut a b).capmem = s.capmem := rfl
@[simp] theorem State.hostPut_mem (a : Nat) (b : List Nat) : (s.hostPut a b).mem = s.mem := rfl
@[simp] theorem State.hostPut_trl (a : Nat) (b : List Nat) : (s.hostPut a b).trl = s.trl := rfl
@[simp] theorem State.hostPut_hoe (a : Nat) (b : List Nat) : (s.hostPut a b).hoe = s.hoe := rfl
@[simp] theorem State.hostPut_mtr (a : Nat) (b : List Nat) : (s.hostPut a b).mtr = s.mtr := rfl
@[simp] theorem State.hostPut_clo (a : Nat) (b : List Nat) : (s.hostPut a b).clo = s.clo := rfl
@[simp] theorem State.hostPut_saf (a : Nat) (b : List Nat) : (s.hostPut a b).saf = s.saf := rfl
@[simp] theorem State.hostPut_clk (a : Nat) (b : List Nat) : (s.hostPut a b).clk = s.clk := rfl
@[simp] theorem State.hostPut_ptp (a : Nat) (b : List Nat) : (s.hostPut a b).ptp = s.ptp := rfl
@[simp] theorem State.hostPut_eth (a : Nat) (b : List Nat) : (s.hostPut a b).eth = s.eth := rfl
@[simp] theorem State.hostPut_seqSt (a : Nat) (b : List Nat) : (s.hostPut a b).seqSt = s.seqSt := rfl
@[simp] theorem State.hostPut_cores (a : Nat) (b : List Nat) : (s.hostPut a b).cores = s.cores := rfl
@[simp] theorem State.hostPut_resQ (a : Nat) (b : List Nat) : (s.hostPut a b).resQ = s.resQ := rfl
@[simp] theorem State.hostPut_tmrs (a : Nat) (b : List Nat) : (s.hostPut a b).tmrs = s.tmrs := rfl
@[simp] theorem State.hostPut_sds (a : Nat) (b : List Nat) : (s.hostPut a b).sds = s.sds := rfl
@[simp] theorem State.hostPut_cal (a : Nat) (b : List Nat) : (s.hostPut a b).cal = s.cal := rfl
@[simp] theorem State.hostPut_auxMult (a : Nat) (b : List Nat) : (s.hostPut a b).auxMult = s.auxMult := rfl
@[simp] theorem State.hostPut_phgLegs (a : Nat) (b : List Nat) : (s.hostPut a b).phgLegs = s.phgLegs := rfl
@[simp] theorem State.hostPut_phgs (a : Nat) (b : List Nat) : (s.hostPut a b).phgs = s.phgs := rfl
@[simp] theorem State.hostPut_ceilMark (a : Nat) (b : List Nat) : (s.hostPut a b).ceilMark = s.ceilMark := rfl
@[simp] theorem State.hostPut_prb (a : Nat) (b : List Nat) : (s.hostPut a b).prb = s.prb := rfl
@[simp] theorem State.hostPut_grd (a : Nat) (b : List Nat) : (s.hostPut a b).grd = s.grd := rfl
@[simp] theorem State.hostPut_dcis (a : Nat) (b : List Nat) : (s.hostPut a b).dcis = s.dcis := rfl
@[simp] theorem State.hostPut_dcs (a : Nat) (b : List Nat) : (s.hostPut a b).dcs = s.dcs := rfl

@[simp] theorem State.useFree_pending : s.useFree.pending = s.pending := rfl
@[simp] theorem State.useFree_variant : s.useFree.variant = s.variant := rfl
@[simp] theorem State.useFree_now : s.useFree.now = s.now := rfl
@[simp] theorem State.useFree_pw : s.useFree.pw = s.pw := rfl
@[simp] theorem State.useFree_dt : s.useFree.dt = s.dt := rfl
@[simp] theorem State.useFree_dtOn : s.useFree.dtOn = s.dtOn := rfl
@[simp] theorem State.useFree_regs : s.useFree.regs = s.regs := rfl
@[simp] theorem State.useFree_pts : s.useFree.pts = s.pts := rfl
@[simp] theorem State.useFree_seqs : s.useFree.seqs = s.seqs := rfl
@[simp] theorem State.useFree_hostMem : s.useFree.hostMem = s.hostMem := rfl
@[simp] theorem State.useFree_out : s.useFree.out = s.out := rfl
@[simp] theorem State.useFree_mm : s.useFree.mm = s.mm := rfl
@[simp] theorem State.useFree_rings : s.useFree.rings = s.rings := rfl
@[simp] theorem State.useFree_rr : s.useFree.rr = s.rr := rfl
@[simp] theorem State.useFree_bridge : s.useFree.bridge = s.bridge := rfl
@[simp] theorem State.useFree_qUse : s.useFree.qUse = s.qUse := rfl
@[simp] theorem State.useFree_qWait : s.useFree.qWait = s.qWait := rfl
@[simp] theorem State.useFree_cplQ : s.useFree.cplQ = s.cplQ := rfl
@[simp] theorem State.useFree_evq : s.useFree.evq = s.evq := rfl
@[simp] theorem State.useFree_legs : s.useFree.legs = s.legs := rfl
@[simp] theorem State.useFree_brks : s.useFree.brks = s.brks := rfl
@[simp] theorem State.useFree_halts : s.useFree.halts = s.halts := rfl
@[simp] theorem State.useFree_cmpQ : s.useFree.cmpQ = s.cmpQ := rfl
@[simp] theorem State.useFree_reports : s.useFree.reports = s.reports := rfl
@[simp] theorem State.useFree_cws : s.useFree.cws = s.cws := rfl
@[simp] theorem State.useFree_tgs : s.useFree.tgs = s.tgs := rfl
@[simp] theorem State.useFree_flt : s.useFree.flt = s.flt := rfl
@[simp] theorem State.useFree_pinhLow : s.useFree.pinhLow = s.pinhLow := rfl
@[simp] theorem State.useFree_dcTaken : s.useFree.dcTaken = s.dcTaken := rfl
@[simp] theorem State.useFree_acTaken : s.useFree.acTaken = s.acTaken := rfl
@[simp] theorem State.useFree_adcTrigs : s.useFree.adcTrigs = s.adcTrigs := rfl
@[simp] theorem State.useFree_cadTrigs : s.useFree.cadTrigs = s.cadTrigs := rfl
@[simp] theorem State.useFree_engTrigs : s.useFree.engTrigs = s.engTrigs := rfl
@[simp] theorem State.useFree_esp : s.useFree.esp = s.esp := rfl
@[simp] theorem State.useFree_shadow : s.useFree.shadow = s.shadow := rfl
@[simp] theorem State.useFree_trgs : s.useFree.trgs = s.trgs := rfl
@[simp] theorem State.useFree_caps : s.useFree.caps = s.caps := rfl
@[simp] theorem State.useFree_trss : s.useFree.trss = s.trss := rfl
@[simp] theorem State.useFree_capmem : s.useFree.capmem = s.capmem := rfl
@[simp] theorem State.useFree_mem : s.useFree.mem = s.mem := rfl
@[simp] theorem State.useFree_trl : s.useFree.trl = s.trl := rfl
@[simp] theorem State.useFree_hoe : s.useFree.hoe = s.hoe := rfl
@[simp] theorem State.useFree_mtr : s.useFree.mtr = s.mtr := rfl
@[simp] theorem State.useFree_clo : s.useFree.clo = s.clo := rfl
@[simp] theorem State.useFree_saf : s.useFree.saf = s.saf := rfl
@[simp] theorem State.useFree_clk : s.useFree.clk = s.clk := rfl
@[simp] theorem State.useFree_ptp : s.useFree.ptp = s.ptp := rfl
@[simp] theorem State.useFree_eth : s.useFree.eth = s.eth := rfl
@[simp] theorem State.useFree_seqSt : s.useFree.seqSt = s.seqSt := rfl
@[simp] theorem State.useFree_cores : s.useFree.cores = s.cores := rfl
@[simp] theorem State.useFree_resQ : s.useFree.resQ = s.resQ := rfl
@[simp] theorem State.useFree_tmrs : s.useFree.tmrs = s.tmrs := rfl
@[simp] theorem State.useFree_sds : s.useFree.sds = s.sds := rfl
@[simp] theorem State.useFree_cal : s.useFree.cal = s.cal := rfl
@[simp] theorem State.useFree_auxMult : s.useFree.auxMult = s.auxMult := rfl
@[simp] theorem State.useFree_phgLegs : s.useFree.phgLegs = s.phgLegs := rfl
@[simp] theorem State.useFree_phgs : s.useFree.phgs = s.phgs := rfl
@[simp] theorem State.useFree_ceilMark : s.useFree.ceilMark = s.ceilMark := rfl
@[simp] theorem State.useFree_prb : s.useFree.prb = s.prb := rfl
@[simp] theorem State.useFree_grd : s.useFree.grd = s.grd := rfl
@[simp] theorem State.useFree_dcis : s.useFree.dcis = s.dcis := rfl
@[simp] theorem State.useFree_dcs : s.useFree.dcs = s.dcs := rfl

@[simp] theorem State.setLeg_pending (n : Nat) (v : LegSt) : (s.setLeg n v).pending = s.pending := rfl
@[simp] theorem State.setLeg_variant (n : Nat) (v : LegSt) : (s.setLeg n v).variant = s.variant := rfl
@[simp] theorem State.setLeg_now (n : Nat) (v : LegSt) : (s.setLeg n v).now = s.now := rfl
@[simp] theorem State.setLeg_pw (n : Nat) (v : LegSt) : (s.setLeg n v).pw = s.pw := rfl
@[simp] theorem State.setLeg_dt (n : Nat) (v : LegSt) : (s.setLeg n v).dt = s.dt := rfl
@[simp] theorem State.setLeg_dtOn (n : Nat) (v : LegSt) : (s.setLeg n v).dtOn = s.dtOn := rfl
@[simp] theorem State.setLeg_free (n : Nat) (v : LegSt) : (s.setLeg n v).free = s.free := rfl
@[simp] theorem State.setLeg_regs (n : Nat) (v : LegSt) : (s.setLeg n v).regs = s.regs := rfl
@[simp] theorem State.setLeg_pts (n : Nat) (v : LegSt) : (s.setLeg n v).pts = s.pts := rfl
@[simp] theorem State.setLeg_seqs (n : Nat) (v : LegSt) : (s.setLeg n v).seqs = s.seqs := rfl
@[simp] theorem State.setLeg_hostMem (n : Nat) (v : LegSt) : (s.setLeg n v).hostMem = s.hostMem := rfl
@[simp] theorem State.setLeg_out (n : Nat) (v : LegSt) : (s.setLeg n v).out = s.out := rfl
@[simp] theorem State.setLeg_mm (n : Nat) (v : LegSt) : (s.setLeg n v).mm = s.mm := rfl
@[simp] theorem State.setLeg_rings (n : Nat) (v : LegSt) : (s.setLeg n v).rings = s.rings := rfl
@[simp] theorem State.setLeg_rr (n : Nat) (v : LegSt) : (s.setLeg n v).rr = s.rr := rfl
@[simp] theorem State.setLeg_bridge (n : Nat) (v : LegSt) : (s.setLeg n v).bridge = s.bridge := rfl
@[simp] theorem State.setLeg_qUse (n : Nat) (v : LegSt) : (s.setLeg n v).qUse = s.qUse := rfl
@[simp] theorem State.setLeg_qWait (n : Nat) (v : LegSt) : (s.setLeg n v).qWait = s.qWait := rfl
@[simp] theorem State.setLeg_cplQ (n : Nat) (v : LegSt) : (s.setLeg n v).cplQ = s.cplQ := rfl
@[simp] theorem State.setLeg_evq (n : Nat) (v : LegSt) : (s.setLeg n v).evq = s.evq := rfl
@[simp] theorem State.setLeg_brks (n : Nat) (v : LegSt) : (s.setLeg n v).brks = s.brks := rfl
@[simp] theorem State.setLeg_halts (n : Nat) (v : LegSt) : (s.setLeg n v).halts = s.halts := rfl
@[simp] theorem State.setLeg_cmpQ (n : Nat) (v : LegSt) : (s.setLeg n v).cmpQ = s.cmpQ := rfl
@[simp] theorem State.setLeg_reports (n : Nat) (v : LegSt) : (s.setLeg n v).reports = s.reports := rfl
@[simp] theorem State.setLeg_cws (n : Nat) (v : LegSt) : (s.setLeg n v).cws = s.cws := rfl
@[simp] theorem State.setLeg_tgs (n : Nat) (v : LegSt) : (s.setLeg n v).tgs = s.tgs := rfl
@[simp] theorem State.setLeg_flt (n : Nat) (v : LegSt) : (s.setLeg n v).flt = s.flt := rfl
@[simp] theorem State.setLeg_pinhLow (n : Nat) (v : LegSt) : (s.setLeg n v).pinhLow = s.pinhLow := rfl
@[simp] theorem State.setLeg_dcTaken (n : Nat) (v : LegSt) : (s.setLeg n v).dcTaken = s.dcTaken := rfl
@[simp] theorem State.setLeg_acTaken (n : Nat) (v : LegSt) : (s.setLeg n v).acTaken = s.acTaken := rfl
@[simp] theorem State.setLeg_adcTrigs (n : Nat) (v : LegSt) : (s.setLeg n v).adcTrigs = s.adcTrigs := rfl
@[simp] theorem State.setLeg_cadTrigs (n : Nat) (v : LegSt) : (s.setLeg n v).cadTrigs = s.cadTrigs := rfl
@[simp] theorem State.setLeg_engTrigs (n : Nat) (v : LegSt) : (s.setLeg n v).engTrigs = s.engTrigs := rfl
@[simp] theorem State.setLeg_esp (n : Nat) (v : LegSt) : (s.setLeg n v).esp = s.esp := rfl
@[simp] theorem State.setLeg_shadow (n : Nat) (v : LegSt) : (s.setLeg n v).shadow = s.shadow := rfl
@[simp] theorem State.setLeg_trgs (n : Nat) (v : LegSt) : (s.setLeg n v).trgs = s.trgs := rfl
@[simp] theorem State.setLeg_caps (n : Nat) (v : LegSt) : (s.setLeg n v).caps = s.caps := rfl
@[simp] theorem State.setLeg_trss (n : Nat) (v : LegSt) : (s.setLeg n v).trss = s.trss := rfl
@[simp] theorem State.setLeg_capmem (n : Nat) (v : LegSt) : (s.setLeg n v).capmem = s.capmem := rfl
@[simp] theorem State.setLeg_mem (n : Nat) (v : LegSt) : (s.setLeg n v).mem = s.mem := rfl
@[simp] theorem State.setLeg_trl (n : Nat) (v : LegSt) : (s.setLeg n v).trl = s.trl := rfl
@[simp] theorem State.setLeg_hoe (n : Nat) (v : LegSt) : (s.setLeg n v).hoe = s.hoe := rfl
@[simp] theorem State.setLeg_mtr (n : Nat) (v : LegSt) : (s.setLeg n v).mtr = s.mtr := rfl
@[simp] theorem State.setLeg_clo (n : Nat) (v : LegSt) : (s.setLeg n v).clo = s.clo := rfl
@[simp] theorem State.setLeg_saf (n : Nat) (v : LegSt) : (s.setLeg n v).saf = s.saf := rfl
@[simp] theorem State.setLeg_clk (n : Nat) (v : LegSt) : (s.setLeg n v).clk = s.clk := rfl
@[simp] theorem State.setLeg_ptp (n : Nat) (v : LegSt) : (s.setLeg n v).ptp = s.ptp := rfl
@[simp] theorem State.setLeg_eth (n : Nat) (v : LegSt) : (s.setLeg n v).eth = s.eth := rfl
@[simp] theorem State.setLeg_seqSt (n : Nat) (v : LegSt) : (s.setLeg n v).seqSt = s.seqSt := rfl
@[simp] theorem State.setLeg_cores (n : Nat) (v : LegSt) : (s.setLeg n v).cores = s.cores := rfl
@[simp] theorem State.setLeg_resQ (n : Nat) (v : LegSt) : (s.setLeg n v).resQ = s.resQ := rfl
@[simp] theorem State.setLeg_tmrs (n : Nat) (v : LegSt) : (s.setLeg n v).tmrs = s.tmrs := rfl
@[simp] theorem State.setLeg_sds (n : Nat) (v : LegSt) : (s.setLeg n v).sds = s.sds := rfl
@[simp] theorem State.setLeg_cal (n : Nat) (v : LegSt) : (s.setLeg n v).cal = s.cal := rfl
@[simp] theorem State.setLeg_auxMult (n : Nat) (v : LegSt) : (s.setLeg n v).auxMult = s.auxMult := rfl
@[simp] theorem State.setLeg_phgLegs (n : Nat) (v : LegSt) : (s.setLeg n v).phgLegs = s.phgLegs := rfl
@[simp] theorem State.setLeg_phgs (n : Nat) (v : LegSt) : (s.setLeg n v).phgs = s.phgs := rfl
@[simp] theorem State.setLeg_ceilMark (n : Nat) (v : LegSt) : (s.setLeg n v).ceilMark = s.ceilMark := rfl
@[simp] theorem State.setLeg_prb (n : Nat) (v : LegSt) : (s.setLeg n v).prb = s.prb := rfl
@[simp] theorem State.setLeg_grd (n : Nat) (v : LegSt) : (s.setLeg n v).grd = s.grd := rfl
@[simp] theorem State.setLeg_dcis (n : Nat) (v : LegSt) : (s.setLeg n v).dcis = s.dcis := rfl
@[simp] theorem State.setLeg_dcs (n : Nat) (v : LegSt) : (s.setLeg n v).dcs = s.dcs := rfl

@[simp] theorem State.setBrk_pending (k : Nat) (v : BrkSt) : (s.setBrk k v).pending = s.pending := rfl
@[simp] theorem State.setBrk_variant (k : Nat) (v : BrkSt) : (s.setBrk k v).variant = s.variant := rfl
@[simp] theorem State.setBrk_now (k : Nat) (v : BrkSt) : (s.setBrk k v).now = s.now := rfl
@[simp] theorem State.setBrk_pw (k : Nat) (v : BrkSt) : (s.setBrk k v).pw = s.pw := rfl
@[simp] theorem State.setBrk_dt (k : Nat) (v : BrkSt) : (s.setBrk k v).dt = s.dt := rfl
@[simp] theorem State.setBrk_dtOn (k : Nat) (v : BrkSt) : (s.setBrk k v).dtOn = s.dtOn := rfl
@[simp] theorem State.setBrk_free (k : Nat) (v : BrkSt) : (s.setBrk k v).free = s.free := rfl
@[simp] theorem State.setBrk_regs (k : Nat) (v : BrkSt) : (s.setBrk k v).regs = s.regs := rfl
@[simp] theorem State.setBrk_pts (k : Nat) (v : BrkSt) : (s.setBrk k v).pts = s.pts := rfl
@[simp] theorem State.setBrk_seqs (k : Nat) (v : BrkSt) : (s.setBrk k v).seqs = s.seqs := rfl
@[simp] theorem State.setBrk_hostMem (k : Nat) (v : BrkSt) : (s.setBrk k v).hostMem = s.hostMem := rfl
@[simp] theorem State.setBrk_out (k : Nat) (v : BrkSt) : (s.setBrk k v).out = s.out := rfl
@[simp] theorem State.setBrk_mm (k : Nat) (v : BrkSt) : (s.setBrk k v).mm = s.mm := rfl
@[simp] theorem State.setBrk_rings (k : Nat) (v : BrkSt) : (s.setBrk k v).rings = s.rings := rfl
@[simp] theorem State.setBrk_rr (k : Nat) (v : BrkSt) : (s.setBrk k v).rr = s.rr := rfl
@[simp] theorem State.setBrk_bridge (k : Nat) (v : BrkSt) : (s.setBrk k v).bridge = s.bridge := rfl
@[simp] theorem State.setBrk_qUse (k : Nat) (v : BrkSt) : (s.setBrk k v).qUse = s.qUse := rfl
@[simp] theorem State.setBrk_qWait (k : Nat) (v : BrkSt) : (s.setBrk k v).qWait = s.qWait := rfl
@[simp] theorem State.setBrk_cplQ (k : Nat) (v : BrkSt) : (s.setBrk k v).cplQ = s.cplQ := rfl
@[simp] theorem State.setBrk_evq (k : Nat) (v : BrkSt) : (s.setBrk k v).evq = s.evq := rfl
@[simp] theorem State.setBrk_legs (k : Nat) (v : BrkSt) : (s.setBrk k v).legs = s.legs := rfl
@[simp] theorem State.setBrk_halts (k : Nat) (v : BrkSt) : (s.setBrk k v).halts = s.halts := rfl
@[simp] theorem State.setBrk_cmpQ (k : Nat) (v : BrkSt) : (s.setBrk k v).cmpQ = s.cmpQ := rfl
@[simp] theorem State.setBrk_reports (k : Nat) (v : BrkSt) : (s.setBrk k v).reports = s.reports := rfl
@[simp] theorem State.setBrk_cws (k : Nat) (v : BrkSt) : (s.setBrk k v).cws = s.cws := rfl
@[simp] theorem State.setBrk_tgs (k : Nat) (v : BrkSt) : (s.setBrk k v).tgs = s.tgs := rfl
@[simp] theorem State.setBrk_flt (k : Nat) (v : BrkSt) : (s.setBrk k v).flt = s.flt := rfl
@[simp] theorem State.setBrk_pinhLow (k : Nat) (v : BrkSt) : (s.setBrk k v).pinhLow = s.pinhLow := rfl
@[simp] theorem State.setBrk_dcTaken (k : Nat) (v : BrkSt) : (s.setBrk k v).dcTaken = s.dcTaken := rfl
@[simp] theorem State.setBrk_acTaken (k : Nat) (v : BrkSt) : (s.setBrk k v).acTaken = s.acTaken := rfl
@[simp] theorem State.setBrk_adcTrigs (k : Nat) (v : BrkSt) : (s.setBrk k v).adcTrigs = s.adcTrigs := rfl
@[simp] theorem State.setBrk_cadTrigs (k : Nat) (v : BrkSt) : (s.setBrk k v).cadTrigs = s.cadTrigs := rfl
@[simp] theorem State.setBrk_engTrigs (k : Nat) (v : BrkSt) : (s.setBrk k v).engTrigs = s.engTrigs := rfl
@[simp] theorem State.setBrk_esp (k : Nat) (v : BrkSt) : (s.setBrk k v).esp = s.esp := rfl
@[simp] theorem State.setBrk_shadow (k : Nat) (v : BrkSt) : (s.setBrk k v).shadow = s.shadow := rfl
@[simp] theorem State.setBrk_trgs (k : Nat) (v : BrkSt) : (s.setBrk k v).trgs = s.trgs := rfl
@[simp] theorem State.setBrk_caps (k : Nat) (v : BrkSt) : (s.setBrk k v).caps = s.caps := rfl
@[simp] theorem State.setBrk_trss (k : Nat) (v : BrkSt) : (s.setBrk k v).trss = s.trss := rfl
@[simp] theorem State.setBrk_capmem (k : Nat) (v : BrkSt) : (s.setBrk k v).capmem = s.capmem := rfl
@[simp] theorem State.setBrk_mem (k : Nat) (v : BrkSt) : (s.setBrk k v).mem = s.mem := rfl
@[simp] theorem State.setBrk_trl (k : Nat) (v : BrkSt) : (s.setBrk k v).trl = s.trl := rfl
@[simp] theorem State.setBrk_hoe (k : Nat) (v : BrkSt) : (s.setBrk k v).hoe = s.hoe := rfl
@[simp] theorem State.setBrk_mtr (k : Nat) (v : BrkSt) : (s.setBrk k v).mtr = s.mtr := rfl
@[simp] theorem State.setBrk_clo (k : Nat) (v : BrkSt) : (s.setBrk k v).clo = s.clo := rfl
@[simp] theorem State.setBrk_saf (k : Nat) (v : BrkSt) : (s.setBrk k v).saf = s.saf := rfl
@[simp] theorem State.setBrk_clk (k : Nat) (v : BrkSt) : (s.setBrk k v).clk = s.clk := rfl
@[simp] theorem State.setBrk_ptp (k : Nat) (v : BrkSt) : (s.setBrk k v).ptp = s.ptp := rfl
@[simp] theorem State.setBrk_eth (k : Nat) (v : BrkSt) : (s.setBrk k v).eth = s.eth := rfl
@[simp] theorem State.setBrk_seqSt (k : Nat) (v : BrkSt) : (s.setBrk k v).seqSt = s.seqSt := rfl
@[simp] theorem State.setBrk_cores (k : Nat) (v : BrkSt) : (s.setBrk k v).cores = s.cores := rfl
@[simp] theorem State.setBrk_resQ (k : Nat) (v : BrkSt) : (s.setBrk k v).resQ = s.resQ := rfl
@[simp] theorem State.setBrk_tmrs (k : Nat) (v : BrkSt) : (s.setBrk k v).tmrs = s.tmrs := rfl
@[simp] theorem State.setBrk_sds (k : Nat) (v : BrkSt) : (s.setBrk k v).sds = s.sds := rfl
@[simp] theorem State.setBrk_cal (k : Nat) (v : BrkSt) : (s.setBrk k v).cal = s.cal := rfl
@[simp] theorem State.setBrk_auxMult (k : Nat) (v : BrkSt) : (s.setBrk k v).auxMult = s.auxMult := rfl
@[simp] theorem State.setBrk_phgLegs (k : Nat) (v : BrkSt) : (s.setBrk k v).phgLegs = s.phgLegs := rfl
@[simp] theorem State.setBrk_phgs (k : Nat) (v : BrkSt) : (s.setBrk k v).phgs = s.phgs := rfl
@[simp] theorem State.setBrk_ceilMark (k : Nat) (v : BrkSt) : (s.setBrk k v).ceilMark = s.ceilMark := rfl
@[simp] theorem State.setBrk_prb (k : Nat) (v : BrkSt) : (s.setBrk k v).prb = s.prb := rfl
@[simp] theorem State.setBrk_grd (k : Nat) (v : BrkSt) : (s.setBrk k v).grd = s.grd := rfl
@[simp] theorem State.setBrk_dcis (k : Nat) (v : BrkSt) : (s.setBrk k v).dcis = s.dcis := rfl
@[simp] theorem State.setBrk_dcs (k : Nat) (v : BrkSt) : (s.setBrk k v).dcs = s.dcs := rfl

@[simp] theorem State.setCw_pending (w : Nat) (v : CwSt) : (s.setCw w v).pending = s.pending := rfl
@[simp] theorem State.setCw_variant (w : Nat) (v : CwSt) : (s.setCw w v).variant = s.variant := rfl
@[simp] theorem State.setCw_now (w : Nat) (v : CwSt) : (s.setCw w v).now = s.now := rfl
@[simp] theorem State.setCw_pw (w : Nat) (v : CwSt) : (s.setCw w v).pw = s.pw := rfl
@[simp] theorem State.setCw_dt (w : Nat) (v : CwSt) : (s.setCw w v).dt = s.dt := rfl
@[simp] theorem State.setCw_dtOn (w : Nat) (v : CwSt) : (s.setCw w v).dtOn = s.dtOn := rfl
@[simp] theorem State.setCw_free (w : Nat) (v : CwSt) : (s.setCw w v).free = s.free := rfl
@[simp] theorem State.setCw_regs (w : Nat) (v : CwSt) : (s.setCw w v).regs = s.regs := rfl
@[simp] theorem State.setCw_pts (w : Nat) (v : CwSt) : (s.setCw w v).pts = s.pts := rfl
@[simp] theorem State.setCw_seqs (w : Nat) (v : CwSt) : (s.setCw w v).seqs = s.seqs := rfl
@[simp] theorem State.setCw_hostMem (w : Nat) (v : CwSt) : (s.setCw w v).hostMem = s.hostMem := rfl
@[simp] theorem State.setCw_out (w : Nat) (v : CwSt) : (s.setCw w v).out = s.out := rfl
@[simp] theorem State.setCw_mm (w : Nat) (v : CwSt) : (s.setCw w v).mm = s.mm := rfl
@[simp] theorem State.setCw_rings (w : Nat) (v : CwSt) : (s.setCw w v).rings = s.rings := rfl
@[simp] theorem State.setCw_rr (w : Nat) (v : CwSt) : (s.setCw w v).rr = s.rr := rfl
@[simp] theorem State.setCw_bridge (w : Nat) (v : CwSt) : (s.setCw w v).bridge = s.bridge := rfl
@[simp] theorem State.setCw_qUse (w : Nat) (v : CwSt) : (s.setCw w v).qUse = s.qUse := rfl
@[simp] theorem State.setCw_qWait (w : Nat) (v : CwSt) : (s.setCw w v).qWait = s.qWait := rfl
@[simp] theorem State.setCw_cplQ (w : Nat) (v : CwSt) : (s.setCw w v).cplQ = s.cplQ := rfl
@[simp] theorem State.setCw_evq (w : Nat) (v : CwSt) : (s.setCw w v).evq = s.evq := rfl
@[simp] theorem State.setCw_legs (w : Nat) (v : CwSt) : (s.setCw w v).legs = s.legs := rfl
@[simp] theorem State.setCw_brks (w : Nat) (v : CwSt) : (s.setCw w v).brks = s.brks := rfl
@[simp] theorem State.setCw_halts (w : Nat) (v : CwSt) : (s.setCw w v).halts = s.halts := rfl
@[simp] theorem State.setCw_cmpQ (w : Nat) (v : CwSt) : (s.setCw w v).cmpQ = s.cmpQ := rfl
@[simp] theorem State.setCw_reports (w : Nat) (v : CwSt) : (s.setCw w v).reports = s.reports := rfl
@[simp] theorem State.setCw_tgs (w : Nat) (v : CwSt) : (s.setCw w v).tgs = s.tgs := rfl
@[simp] theorem State.setCw_flt (w : Nat) (v : CwSt) : (s.setCw w v).flt = s.flt := rfl
@[simp] theorem State.setCw_pinhLow (w : Nat) (v : CwSt) : (s.setCw w v).pinhLow = s.pinhLow := rfl
@[simp] theorem State.setCw_dcTaken (w : Nat) (v : CwSt) : (s.setCw w v).dcTaken = s.dcTaken := rfl
@[simp] theorem State.setCw_acTaken (w : Nat) (v : CwSt) : (s.setCw w v).acTaken = s.acTaken := rfl
@[simp] theorem State.setCw_adcTrigs (w : Nat) (v : CwSt) : (s.setCw w v).adcTrigs = s.adcTrigs := rfl
@[simp] theorem State.setCw_cadTrigs (w : Nat) (v : CwSt) : (s.setCw w v).cadTrigs = s.cadTrigs := rfl
@[simp] theorem State.setCw_engTrigs (w : Nat) (v : CwSt) : (s.setCw w v).engTrigs = s.engTrigs := rfl
@[simp] theorem State.setCw_esp (w : Nat) (v : CwSt) : (s.setCw w v).esp = s.esp := rfl
@[simp] theorem State.setCw_shadow (w : Nat) (v : CwSt) : (s.setCw w v).shadow = s.shadow := rfl
@[simp] theorem State.setCw_trgs (w : Nat) (v : CwSt) : (s.setCw w v).trgs = s.trgs := rfl
@[simp] theorem State.setCw_caps (w : Nat) (v : CwSt) : (s.setCw w v).caps = s.caps := rfl
@[simp] theorem State.setCw_trss (w : Nat) (v : CwSt) : (s.setCw w v).trss = s.trss := rfl
@[simp] theorem State.setCw_capmem (w : Nat) (v : CwSt) : (s.setCw w v).capmem = s.capmem := rfl
@[simp] theorem State.setCw_mem (w : Nat) (v : CwSt) : (s.setCw w v).mem = s.mem := rfl
@[simp] theorem State.setCw_trl (w : Nat) (v : CwSt) : (s.setCw w v).trl = s.trl := rfl
@[simp] theorem State.setCw_hoe (w : Nat) (v : CwSt) : (s.setCw w v).hoe = s.hoe := rfl
@[simp] theorem State.setCw_mtr (w : Nat) (v : CwSt) : (s.setCw w v).mtr = s.mtr := rfl
@[simp] theorem State.setCw_clo (w : Nat) (v : CwSt) : (s.setCw w v).clo = s.clo := rfl
@[simp] theorem State.setCw_saf (w : Nat) (v : CwSt) : (s.setCw w v).saf = s.saf := rfl
@[simp] theorem State.setCw_clk (w : Nat) (v : CwSt) : (s.setCw w v).clk = s.clk := rfl
@[simp] theorem State.setCw_ptp (w : Nat) (v : CwSt) : (s.setCw w v).ptp = s.ptp := rfl
@[simp] theorem State.setCw_eth (w : Nat) (v : CwSt) : (s.setCw w v).eth = s.eth := rfl
@[simp] theorem State.setCw_seqSt (w : Nat) (v : CwSt) : (s.setCw w v).seqSt = s.seqSt := rfl
@[simp] theorem State.setCw_cores (w : Nat) (v : CwSt) : (s.setCw w v).cores = s.cores := rfl
@[simp] theorem State.setCw_resQ (w : Nat) (v : CwSt) : (s.setCw w v).resQ = s.resQ := rfl
@[simp] theorem State.setCw_tmrs (w : Nat) (v : CwSt) : (s.setCw w v).tmrs = s.tmrs := rfl
@[simp] theorem State.setCw_sds (w : Nat) (v : CwSt) : (s.setCw w v).sds = s.sds := rfl
@[simp] theorem State.setCw_cal (w : Nat) (v : CwSt) : (s.setCw w v).cal = s.cal := rfl
@[simp] theorem State.setCw_auxMult (w : Nat) (v : CwSt) : (s.setCw w v).auxMult = s.auxMult := rfl
@[simp] theorem State.setCw_phgLegs (w : Nat) (v : CwSt) : (s.setCw w v).phgLegs = s.phgLegs := rfl
@[simp] theorem State.setCw_phgs (w : Nat) (v : CwSt) : (s.setCw w v).phgs = s.phgs := rfl
@[simp] theorem State.setCw_ceilMark (w : Nat) (v : CwSt) : (s.setCw w v).ceilMark = s.ceilMark := rfl
@[simp] theorem State.setCw_prb (w : Nat) (v : CwSt) : (s.setCw w v).prb = s.prb := rfl
@[simp] theorem State.setCw_grd (w : Nat) (v : CwSt) : (s.setCw w v).grd = s.grd := rfl
@[simp] theorem State.setCw_dcis (w : Nat) (v : CwSt) : (s.setCw w v).dcis = s.dcis := rfl
@[simp] theorem State.setCw_dcs (w : Nat) (v : CwSt) : (s.setCw w v).dcs = s.dcs := rfl

@[simp] theorem State.setTg_pending (g : Nat) (v : TgSt) : (s.setTg g v).pending = s.pending := rfl
@[simp] theorem State.setTg_variant (g : Nat) (v : TgSt) : (s.setTg g v).variant = s.variant := rfl
@[simp] theorem State.setTg_now (g : Nat) (v : TgSt) : (s.setTg g v).now = s.now := rfl
@[simp] theorem State.setTg_pw (g : Nat) (v : TgSt) : (s.setTg g v).pw = s.pw := rfl
@[simp] theorem State.setTg_dt (g : Nat) (v : TgSt) : (s.setTg g v).dt = s.dt := rfl
@[simp] theorem State.setTg_dtOn (g : Nat) (v : TgSt) : (s.setTg g v).dtOn = s.dtOn := rfl
@[simp] theorem State.setTg_free (g : Nat) (v : TgSt) : (s.setTg g v).free = s.free := rfl
@[simp] theorem State.setTg_regs (g : Nat) (v : TgSt) : (s.setTg g v).regs = s.regs := rfl
@[simp] theorem State.setTg_pts (g : Nat) (v : TgSt) : (s.setTg g v).pts = s.pts := rfl
@[simp] theorem State.setTg_seqs (g : Nat) (v : TgSt) : (s.setTg g v).seqs = s.seqs := rfl
@[simp] theorem State.setTg_hostMem (g : Nat) (v : TgSt) : (s.setTg g v).hostMem = s.hostMem := rfl
@[simp] theorem State.setTg_out (g : Nat) (v : TgSt) : (s.setTg g v).out = s.out := rfl
@[simp] theorem State.setTg_mm (g : Nat) (v : TgSt) : (s.setTg g v).mm = s.mm := rfl
@[simp] theorem State.setTg_rings (g : Nat) (v : TgSt) : (s.setTg g v).rings = s.rings := rfl
@[simp] theorem State.setTg_rr (g : Nat) (v : TgSt) : (s.setTg g v).rr = s.rr := rfl
@[simp] theorem State.setTg_bridge (g : Nat) (v : TgSt) : (s.setTg g v).bridge = s.bridge := rfl
@[simp] theorem State.setTg_qUse (g : Nat) (v : TgSt) : (s.setTg g v).qUse = s.qUse := rfl
@[simp] theorem State.setTg_qWait (g : Nat) (v : TgSt) : (s.setTg g v).qWait = s.qWait := rfl
@[simp] theorem State.setTg_cplQ (g : Nat) (v : TgSt) : (s.setTg g v).cplQ = s.cplQ := rfl
@[simp] theorem State.setTg_evq (g : Nat) (v : TgSt) : (s.setTg g v).evq = s.evq := rfl
@[simp] theorem State.setTg_legs (g : Nat) (v : TgSt) : (s.setTg g v).legs = s.legs := rfl
@[simp] theorem State.setTg_brks (g : Nat) (v : TgSt) : (s.setTg g v).brks = s.brks := rfl
@[simp] theorem State.setTg_halts (g : Nat) (v : TgSt) : (s.setTg g v).halts = s.halts := rfl
@[simp] theorem State.setTg_cmpQ (g : Nat) (v : TgSt) : (s.setTg g v).cmpQ = s.cmpQ := rfl
@[simp] theorem State.setTg_reports (g : Nat) (v : TgSt) : (s.setTg g v).reports = s.reports := rfl
@[simp] theorem State.setTg_cws (g : Nat) (v : TgSt) : (s.setTg g v).cws = s.cws := rfl
@[simp] theorem State.setTg_flt (g : Nat) (v : TgSt) : (s.setTg g v).flt = s.flt := rfl
@[simp] theorem State.setTg_pinhLow (g : Nat) (v : TgSt) : (s.setTg g v).pinhLow = s.pinhLow := rfl
@[simp] theorem State.setTg_dcTaken (g : Nat) (v : TgSt) : (s.setTg g v).dcTaken = s.dcTaken := rfl
@[simp] theorem State.setTg_acTaken (g : Nat) (v : TgSt) : (s.setTg g v).acTaken = s.acTaken := rfl
@[simp] theorem State.setTg_adcTrigs (g : Nat) (v : TgSt) : (s.setTg g v).adcTrigs = s.adcTrigs := rfl
@[simp] theorem State.setTg_cadTrigs (g : Nat) (v : TgSt) : (s.setTg g v).cadTrigs = s.cadTrigs := rfl
@[simp] theorem State.setTg_engTrigs (g : Nat) (v : TgSt) : (s.setTg g v).engTrigs = s.engTrigs := rfl
@[simp] theorem State.setTg_esp (g : Nat) (v : TgSt) : (s.setTg g v).esp = s.esp := rfl
@[simp] theorem State.setTg_shadow (g : Nat) (v : TgSt) : (s.setTg g v).shadow = s.shadow := rfl
@[simp] theorem State.setTg_trgs (g : Nat) (v : TgSt) : (s.setTg g v).trgs = s.trgs := rfl
@[simp] theorem State.setTg_caps (g : Nat) (v : TgSt) : (s.setTg g v).caps = s.caps := rfl
@[simp] theorem State.setTg_trss (g : Nat) (v : TgSt) : (s.setTg g v).trss = s.trss := rfl
@[simp] theorem State.setTg_capmem (g : Nat) (v : TgSt) : (s.setTg g v).capmem = s.capmem := rfl
@[simp] theorem State.setTg_mem (g : Nat) (v : TgSt) : (s.setTg g v).mem = s.mem := rfl
@[simp] theorem State.setTg_trl (g : Nat) (v : TgSt) : (s.setTg g v).trl = s.trl := rfl
@[simp] theorem State.setTg_hoe (g : Nat) (v : TgSt) : (s.setTg g v).hoe = s.hoe := rfl
@[simp] theorem State.setTg_mtr (g : Nat) (v : TgSt) : (s.setTg g v).mtr = s.mtr := rfl
@[simp] theorem State.setTg_clo (g : Nat) (v : TgSt) : (s.setTg g v).clo = s.clo := rfl
@[simp] theorem State.setTg_saf (g : Nat) (v : TgSt) : (s.setTg g v).saf = s.saf := rfl
@[simp] theorem State.setTg_clk (g : Nat) (v : TgSt) : (s.setTg g v).clk = s.clk := rfl
@[simp] theorem State.setTg_ptp (g : Nat) (v : TgSt) : (s.setTg g v).ptp = s.ptp := rfl
@[simp] theorem State.setTg_eth (g : Nat) (v : TgSt) : (s.setTg g v).eth = s.eth := rfl
@[simp] theorem State.setTg_seqSt (g : Nat) (v : TgSt) : (s.setTg g v).seqSt = s.seqSt := rfl
@[simp] theorem State.setTg_cores (g : Nat) (v : TgSt) : (s.setTg g v).cores = s.cores := rfl
@[simp] theorem State.setTg_resQ (g : Nat) (v : TgSt) : (s.setTg g v).resQ = s.resQ := rfl
@[simp] theorem State.setTg_tmrs (g : Nat) (v : TgSt) : (s.setTg g v).tmrs = s.tmrs := rfl
@[simp] theorem State.setTg_sds (g : Nat) (v : TgSt) : (s.setTg g v).sds = s.sds := rfl
@[simp] theorem State.setTg_cal (g : Nat) (v : TgSt) : (s.setTg g v).cal = s.cal := rfl
@[simp] theorem State.setTg_auxMult (g : Nat) (v : TgSt) : (s.setTg g v).auxMult = s.auxMult := rfl
@[simp] theorem State.setTg_phgLegs (g : Nat) (v : TgSt) : (s.setTg g v).phgLegs = s.phgLegs := rfl
@[simp] theorem State.setTg_phgs (g : Nat) (v : TgSt) : (s.setTg g v).phgs = s.phgs := rfl
@[simp] theorem State.setTg_ceilMark (g : Nat) (v : TgSt) : (s.setTg g v).ceilMark = s.ceilMark := rfl
@[simp] theorem State.setTg_prb (g : Nat) (v : TgSt) : (s.setTg g v).prb = s.prb := rfl
@[simp] theorem State.setTg_grd (g : Nat) (v : TgSt) : (s.setTg g v).grd = s.grd := rfl
@[simp] theorem State.setTg_dcis (g : Nat) (v : TgSt) : (s.setTg g v).dcis = s.dcis := rfl
@[simp] theorem State.setTg_dcs (g : Nat) (v : TgSt) : (s.setTg g v).dcs = s.dcs := rfl

@[simp] theorem State.setRing_pending (q : Nat) (v : RingSt) : (s.setRing q v).pending = s.pending := rfl
@[simp] theorem State.setRing_variant (q : Nat) (v : RingSt) : (s.setRing q v).variant = s.variant := rfl
@[simp] theorem State.setRing_now (q : Nat) (v : RingSt) : (s.setRing q v).now = s.now := rfl
@[simp] theorem State.setRing_pw (q : Nat) (v : RingSt) : (s.setRing q v).pw = s.pw := rfl
@[simp] theorem State.setRing_dt (q : Nat) (v : RingSt) : (s.setRing q v).dt = s.dt := rfl
@[simp] theorem State.setRing_dtOn (q : Nat) (v : RingSt) : (s.setRing q v).dtOn = s.dtOn := rfl
@[simp] theorem State.setRing_free (q : Nat) (v : RingSt) : (s.setRing q v).free = s.free := rfl
@[simp] theorem State.setRing_regs (q : Nat) (v : RingSt) : (s.setRing q v).regs = s.regs := rfl
@[simp] theorem State.setRing_pts (q : Nat) (v : RingSt) : (s.setRing q v).pts = s.pts := rfl
@[simp] theorem State.setRing_seqs (q : Nat) (v : RingSt) : (s.setRing q v).seqs = s.seqs := rfl
@[simp] theorem State.setRing_hostMem (q : Nat) (v : RingSt) : (s.setRing q v).hostMem = s.hostMem := rfl
@[simp] theorem State.setRing_out (q : Nat) (v : RingSt) : (s.setRing q v).out = s.out := rfl
@[simp] theorem State.setRing_mm (q : Nat) (v : RingSt) : (s.setRing q v).mm = s.mm := rfl
@[simp] theorem State.setRing_rr (q : Nat) (v : RingSt) : (s.setRing q v).rr = s.rr := rfl
@[simp] theorem State.setRing_bridge (q : Nat) (v : RingSt) : (s.setRing q v).bridge = s.bridge := rfl
@[simp] theorem State.setRing_qUse (q : Nat) (v : RingSt) : (s.setRing q v).qUse = s.qUse := rfl
@[simp] theorem State.setRing_qWait (q : Nat) (v : RingSt) : (s.setRing q v).qWait = s.qWait := rfl
@[simp] theorem State.setRing_cplQ (q : Nat) (v : RingSt) : (s.setRing q v).cplQ = s.cplQ := rfl
@[simp] theorem State.setRing_evq (q : Nat) (v : RingSt) : (s.setRing q v).evq = s.evq := rfl
@[simp] theorem State.setRing_legs (q : Nat) (v : RingSt) : (s.setRing q v).legs = s.legs := rfl
@[simp] theorem State.setRing_brks (q : Nat) (v : RingSt) : (s.setRing q v).brks = s.brks := rfl
@[simp] theorem State.setRing_halts (q : Nat) (v : RingSt) : (s.setRing q v).halts = s.halts := rfl
@[simp] theorem State.setRing_cmpQ (q : Nat) (v : RingSt) : (s.setRing q v).cmpQ = s.cmpQ := rfl
@[simp] theorem State.setRing_reports (q : Nat) (v : RingSt) : (s.setRing q v).reports = s.reports := rfl
@[simp] theorem State.setRing_cws (q : Nat) (v : RingSt) : (s.setRing q v).cws = s.cws := rfl
@[simp] theorem State.setRing_tgs (q : Nat) (v : RingSt) : (s.setRing q v).tgs = s.tgs := rfl
@[simp] theorem State.setRing_flt (q : Nat) (v : RingSt) : (s.setRing q v).flt = s.flt := rfl
@[simp] theorem State.setRing_pinhLow (q : Nat) (v : RingSt) : (s.setRing q v).pinhLow = s.pinhLow := rfl
@[simp] theorem State.setRing_dcTaken (q : Nat) (v : RingSt) : (s.setRing q v).dcTaken = s.dcTaken := rfl
@[simp] theorem State.setRing_acTaken (q : Nat) (v : RingSt) : (s.setRing q v).acTaken = s.acTaken := rfl
@[simp] theorem State.setRing_adcTrigs (q : Nat) (v : RingSt) : (s.setRing q v).adcTrigs = s.adcTrigs := rfl
@[simp] theorem State.setRing_cadTrigs (q : Nat) (v : RingSt) : (s.setRing q v).cadTrigs = s.cadTrigs := rfl
@[simp] theorem State.setRing_engTrigs (q : Nat) (v : RingSt) : (s.setRing q v).engTrigs = s.engTrigs := rfl
@[simp] theorem State.setRing_esp (q : Nat) (v : RingSt) : (s.setRing q v).esp = s.esp := rfl
@[simp] theorem State.setRing_shadow (q : Nat) (v : RingSt) : (s.setRing q v).shadow = s.shadow := rfl
@[simp] theorem State.setRing_trgs (q : Nat) (v : RingSt) : (s.setRing q v).trgs = s.trgs := rfl
@[simp] theorem State.setRing_caps (q : Nat) (v : RingSt) : (s.setRing q v).caps = s.caps := rfl
@[simp] theorem State.setRing_trss (q : Nat) (v : RingSt) : (s.setRing q v).trss = s.trss := rfl
@[simp] theorem State.setRing_capmem (q : Nat) (v : RingSt) : (s.setRing q v).capmem = s.capmem := rfl
@[simp] theorem State.setRing_mem (q : Nat) (v : RingSt) : (s.setRing q v).mem = s.mem := rfl
@[simp] theorem State.setRing_trl (q : Nat) (v : RingSt) : (s.setRing q v).trl = s.trl := rfl
@[simp] theorem State.setRing_hoe (q : Nat) (v : RingSt) : (s.setRing q v).hoe = s.hoe := rfl
@[simp] theorem State.setRing_mtr (q : Nat) (v : RingSt) : (s.setRing q v).mtr = s.mtr := rfl
@[simp] theorem State.setRing_clo (q : Nat) (v : RingSt) : (s.setRing q v).clo = s.clo := rfl
@[simp] theorem State.setRing_saf (q : Nat) (v : RingSt) : (s.setRing q v).saf = s.saf := rfl
@[simp] theorem State.setRing_clk (q : Nat) (v : RingSt) : (s.setRing q v).clk = s.clk := rfl
@[simp] theorem State.setRing_ptp (q : Nat) (v : RingSt) : (s.setRing q v).ptp = s.ptp := rfl
@[simp] theorem State.setRing_eth (q : Nat) (v : RingSt) : (s.setRing q v).eth = s.eth := rfl
@[simp] theorem State.setRing_seqSt (q : Nat) (v : RingSt) : (s.setRing q v).seqSt = s.seqSt := rfl
@[simp] theorem State.setRing_cores (q : Nat) (v : RingSt) : (s.setRing q v).cores = s.cores := rfl
@[simp] theorem State.setRing_resQ (q : Nat) (v : RingSt) : (s.setRing q v).resQ = s.resQ := rfl
@[simp] theorem State.setRing_tmrs (q : Nat) (v : RingSt) : (s.setRing q v).tmrs = s.tmrs := rfl
@[simp] theorem State.setRing_sds (q : Nat) (v : RingSt) : (s.setRing q v).sds = s.sds := rfl
@[simp] theorem State.setRing_cal (q : Nat) (v : RingSt) : (s.setRing q v).cal = s.cal := rfl
@[simp] theorem State.setRing_auxMult (q : Nat) (v : RingSt) : (s.setRing q v).auxMult = s.auxMult := rfl
@[simp] theorem State.setRing_phgLegs (q : Nat) (v : RingSt) : (s.setRing q v).phgLegs = s.phgLegs := rfl
@[simp] theorem State.setRing_phgs (q : Nat) (v : RingSt) : (s.setRing q v).phgs = s.phgs := rfl
@[simp] theorem State.setRing_ceilMark (q : Nat) (v : RingSt) : (s.setRing q v).ceilMark = s.ceilMark := rfl
@[simp] theorem State.setRing_prb (q : Nat) (v : RingSt) : (s.setRing q v).prb = s.prb := rfl
@[simp] theorem State.setRing_grd (q : Nat) (v : RingSt) : (s.setRing q v).grd = s.grd := rfl
@[simp] theorem State.setRing_dcis (q : Nat) (v : RingSt) : (s.setRing q v).dcis = s.dcis := rfl
@[simp] theorem State.setRing_dcs (q : Nat) (v : RingSt) : (s.setRing q v).dcs = s.dcs := rfl

@[simp] theorem State.setFsrc_pending (n : Nat) (v : FltSt) : (s.setFsrc n v).pending = s.pending := rfl
@[simp] theorem State.setFsrc_variant (n : Nat) (v : FltSt) : (s.setFsrc n v).variant = s.variant := rfl
@[simp] theorem State.setFsrc_now (n : Nat) (v : FltSt) : (s.setFsrc n v).now = s.now := rfl
@[simp] theorem State.setFsrc_pw (n : Nat) (v : FltSt) : (s.setFsrc n v).pw = s.pw := rfl
@[simp] theorem State.setFsrc_dt (n : Nat) (v : FltSt) : (s.setFsrc n v).dt = s.dt := rfl
@[simp] theorem State.setFsrc_dtOn (n : Nat) (v : FltSt) : (s.setFsrc n v).dtOn = s.dtOn := rfl
@[simp] theorem State.setFsrc_free (n : Nat) (v : FltSt) : (s.setFsrc n v).free = s.free := rfl
@[simp] theorem State.setFsrc_regs (n : Nat) (v : FltSt) : (s.setFsrc n v).regs = s.regs := rfl
@[simp] theorem State.setFsrc_pts (n : Nat) (v : FltSt) : (s.setFsrc n v).pts = s.pts := rfl
@[simp] theorem State.setFsrc_seqs (n : Nat) (v : FltSt) : (s.setFsrc n v).seqs = s.seqs := rfl
@[simp] theorem State.setFsrc_hostMem (n : Nat) (v : FltSt) : (s.setFsrc n v).hostMem = s.hostMem := rfl
@[simp] theorem State.setFsrc_out (n : Nat) (v : FltSt) : (s.setFsrc n v).out = s.out := rfl
@[simp] theorem State.setFsrc_mm (n : Nat) (v : FltSt) : (s.setFsrc n v).mm = s.mm := rfl
@[simp] theorem State.setFsrc_rings (n : Nat) (v : FltSt) : (s.setFsrc n v).rings = s.rings := rfl
@[simp] theorem State.setFsrc_rr (n : Nat) (v : FltSt) : (s.setFsrc n v).rr = s.rr := rfl
@[simp] theorem State.setFsrc_bridge (n : Nat) (v : FltSt) : (s.setFsrc n v).bridge = s.bridge := rfl
@[simp] theorem State.setFsrc_qUse (n : Nat) (v : FltSt) : (s.setFsrc n v).qUse = s.qUse := rfl
@[simp] theorem State.setFsrc_qWait (n : Nat) (v : FltSt) : (s.setFsrc n v).qWait = s.qWait := rfl
@[simp] theorem State.setFsrc_cplQ (n : Nat) (v : FltSt) : (s.setFsrc n v).cplQ = s.cplQ := rfl
@[simp] theorem State.setFsrc_evq (n : Nat) (v : FltSt) : (s.setFsrc n v).evq = s.evq := rfl
@[simp] theorem State.setFsrc_legs (n : Nat) (v : FltSt) : (s.setFsrc n v).legs = s.legs := rfl
@[simp] theorem State.setFsrc_brks (n : Nat) (v : FltSt) : (s.setFsrc n v).brks = s.brks := rfl
@[simp] theorem State.setFsrc_halts (n : Nat) (v : FltSt) : (s.setFsrc n v).halts = s.halts := rfl
@[simp] theorem State.setFsrc_cmpQ (n : Nat) (v : FltSt) : (s.setFsrc n v).cmpQ = s.cmpQ := rfl
@[simp] theorem State.setFsrc_reports (n : Nat) (v : FltSt) : (s.setFsrc n v).reports = s.reports := rfl
@[simp] theorem State.setFsrc_cws (n : Nat) (v : FltSt) : (s.setFsrc n v).cws = s.cws := rfl
@[simp] theorem State.setFsrc_tgs (n : Nat) (v : FltSt) : (s.setFsrc n v).tgs = s.tgs := rfl
@[simp] theorem State.setFsrc_pinhLow (n : Nat) (v : FltSt) : (s.setFsrc n v).pinhLow = s.pinhLow := rfl
@[simp] theorem State.setFsrc_dcTaken (n : Nat) (v : FltSt) : (s.setFsrc n v).dcTaken = s.dcTaken := rfl
@[simp] theorem State.setFsrc_acTaken (n : Nat) (v : FltSt) : (s.setFsrc n v).acTaken = s.acTaken := rfl
@[simp] theorem State.setFsrc_adcTrigs (n : Nat) (v : FltSt) : (s.setFsrc n v).adcTrigs = s.adcTrigs := rfl
@[simp] theorem State.setFsrc_cadTrigs (n : Nat) (v : FltSt) : (s.setFsrc n v).cadTrigs = s.cadTrigs := rfl
@[simp] theorem State.setFsrc_engTrigs (n : Nat) (v : FltSt) : (s.setFsrc n v).engTrigs = s.engTrigs := rfl
@[simp] theorem State.setFsrc_esp (n : Nat) (v : FltSt) : (s.setFsrc n v).esp = s.esp := rfl
@[simp] theorem State.setFsrc_shadow (n : Nat) (v : FltSt) : (s.setFsrc n v).shadow = s.shadow := rfl
@[simp] theorem State.setFsrc_trgs (n : Nat) (v : FltSt) : (s.setFsrc n v).trgs = s.trgs := rfl
@[simp] theorem State.setFsrc_caps (n : Nat) (v : FltSt) : (s.setFsrc n v).caps = s.caps := rfl
@[simp] theorem State.setFsrc_trss (n : Nat) (v : FltSt) : (s.setFsrc n v).trss = s.trss := rfl
@[simp] theorem State.setFsrc_capmem (n : Nat) (v : FltSt) : (s.setFsrc n v).capmem = s.capmem := rfl
@[simp] theorem State.setFsrc_mem (n : Nat) (v : FltSt) : (s.setFsrc n v).mem = s.mem := rfl
@[simp] theorem State.setFsrc_trl (n : Nat) (v : FltSt) : (s.setFsrc n v).trl = s.trl := rfl
@[simp] theorem State.setFsrc_hoe (n : Nat) (v : FltSt) : (s.setFsrc n v).hoe = s.hoe := rfl
@[simp] theorem State.setFsrc_mtr (n : Nat) (v : FltSt) : (s.setFsrc n v).mtr = s.mtr := rfl
@[simp] theorem State.setFsrc_clo (n : Nat) (v : FltSt) : (s.setFsrc n v).clo = s.clo := rfl
@[simp] theorem State.setFsrc_saf (n : Nat) (v : FltSt) : (s.setFsrc n v).saf = s.saf := rfl
@[simp] theorem State.setFsrc_clk (n : Nat) (v : FltSt) : (s.setFsrc n v).clk = s.clk := rfl
@[simp] theorem State.setFsrc_ptp (n : Nat) (v : FltSt) : (s.setFsrc n v).ptp = s.ptp := rfl
@[simp] theorem State.setFsrc_eth (n : Nat) (v : FltSt) : (s.setFsrc n v).eth = s.eth := rfl
@[simp] theorem State.setFsrc_seqSt (n : Nat) (v : FltSt) : (s.setFsrc n v).seqSt = s.seqSt := rfl
@[simp] theorem State.setFsrc_cores (n : Nat) (v : FltSt) : (s.setFsrc n v).cores = s.cores := rfl
@[simp] theorem State.setFsrc_resQ (n : Nat) (v : FltSt) : (s.setFsrc n v).resQ = s.resQ := rfl
@[simp] theorem State.setFsrc_tmrs (n : Nat) (v : FltSt) : (s.setFsrc n v).tmrs = s.tmrs := rfl
@[simp] theorem State.setFsrc_sds (n : Nat) (v : FltSt) : (s.setFsrc n v).sds = s.sds := rfl
@[simp] theorem State.setFsrc_cal (n : Nat) (v : FltSt) : (s.setFsrc n v).cal = s.cal := rfl
@[simp] theorem State.setFsrc_auxMult (n : Nat) (v : FltSt) : (s.setFsrc n v).auxMult = s.auxMult := rfl
@[simp] theorem State.setFsrc_phgLegs (n : Nat) (v : FltSt) : (s.setFsrc n v).phgLegs = s.phgLegs := rfl
@[simp] theorem State.setFsrc_phgs (n : Nat) (v : FltSt) : (s.setFsrc n v).phgs = s.phgs := rfl
@[simp] theorem State.setFsrc_ceilMark (n : Nat) (v : FltSt) : (s.setFsrc n v).ceilMark = s.ceilMark := rfl
@[simp] theorem State.setFsrc_prb (n : Nat) (v : FltSt) : (s.setFsrc n v).prb = s.prb := rfl
@[simp] theorem State.setFsrc_grd (n : Nat) (v : FltSt) : (s.setFsrc n v).grd = s.grd := rfl
@[simp] theorem State.setFsrc_dcis (n : Nat) (v : FltSt) : (s.setFsrc n v).dcis = s.dcis := rfl
@[simp] theorem State.setFsrc_dcs (n : Nat) (v : FltSt) : (s.setFsrc n v).dcs = s.dcs := rfl

/-! ### Register fields -/

/-- A field just written reads as its low bits. -/
@[simp] theorem State.rd_wr_same (f : Fld) (v i j : Nat) : (s.wr f v i j).rd f i j = v % 2 ^ f.width := by
  simp [State.rd, State.wr]

/-- A write leaves every field of another key as it was. -/
theorem State.rd_wr_other {f g : Fld} {v i j i' j' : Nat} (h : g.key i' j' ≠ f.key i j) :
    (s.wr f v i j).rd g i' j' = s.rd g i' j' := by
  simp only [State.rd, State.wr]
  exact tgetD_tput_other _ _ _ _ h

/-- Reading one field after writing another of the register file. -/
theorem State.rd_wr (f g : Fld) (v i j i' j' : Nat) (hr : g.key i' j' = f.key i j → g.reset i' j' = f.reset i j) :
    (s.wr f v i j).rd g i' j' = if g.key i' j' = f.key i j then v % 2 ^ f.width else s.rd g i' j' := by
  split
  · next h =>
    have : (s.wr f v i j).rd g i' j' = (s.wr f v i j).rd f i j := by simp [State.rd, h, hr h]
    simp [this]
  · next h => exact s.rd_wr_other h

/-- Two states with one register file read alike. -/
theorem State.rd_congr {s t : State} (h : s.regs = t.regs) (f : Fld) (i j : Nat) : s.rd f i j = t.rd f i j := by
  simp [State.rd, h]

theorem State.wrB_eq (f : Fld) (b : Bool) (i j : Nat) : s.wrB f b i j = s.wr f (b2n b) i j := rfl
theorem State.rdB_eq (f : Fld) (i j : Nat) : s.rdB f i j = (s.rd f i j != 0) := rfl

@[simp] theorem b2n_true : b2n true = 1 := rfl
@[simp] theorem b2n_false : b2n false = 0 := rfl

/-! ### Units held in tables -/

@[simp] theorem State.leg_setLeg (n : Nat) (v : LegSt) : (s.setLeg n v).leg n = v := by simp [State.leg, State.setLeg]
theorem State.leg_setLeg_other {n m : Nat} (v : LegSt) (h : m ≠ n) : (s.setLeg n v).leg m = s.leg m := by
  simp only [State.leg, State.setLeg]; exact tgetD_tput_other _ _ _ _ h
@[simp] theorem State.brk_setBrk (n : Nat) (v : BrkSt) : (s.setBrk n v).brk n = v := by simp [State.brk, State.setBrk]
theorem State.brk_setBrk_other {n m : Nat} (v : BrkSt) (h : m ≠ n) : (s.setBrk n v).brk m = s.brk m := by
  simp only [State.brk, State.setBrk]; exact tgetD_tput_other _ _ _ _ h
@[simp] theorem State.cw_setCw (n : Nat) (v : CwSt) : (s.setCw n v).cw n = v := by simp [State.cw, State.setCw]
theorem State.cw_setCw_other {n m : Nat} (v : CwSt) (h : m ≠ n) : (s.setCw n v).cw m = s.cw m := by
  simp only [State.cw, State.setCw]; exact tgetD_tput_other _ _ _ _ h
@[simp] theorem State.tg_setTg (n : Nat) (v : TgSt) : (s.setTg n v).tg n = v := by simp [State.tg, State.setTg]
theorem State.tg_setTg_other {n m : Nat} (v : TgSt) (h : m ≠ n) : (s.setTg n v).tg m = s.tg m := by
  simp only [State.tg, State.setTg]; exact tgetD_tput_other _ _ _ _ h
@[simp] theorem State.ring_setRing (n : Nat) (v : RingSt) : (s.setRing n v).ring n = v := by simp [State.ring, State.setRing]
theorem State.ring_setRing_other {n m : Nat} (v : RingSt) (h : m ≠ n) : (s.setRing n v).ring m = s.ring m := by
  simp only [State.ring, State.setRing]; exact tgetD_tput_other _ _ _ _ h
@[simp] theorem State.fsrc_setFsrc (n : Nat) (v : FltSt) : (s.setFsrc n v).fsrc n = v := by simp [State.fsrc, State.setFsrc]
theorem State.fsrc_setFsrc_other {n m : Nat} (v : FltSt) (h : m ≠ n) : (s.setFsrc n v).fsrc m = s.fsrc m := by
  simp only [State.fsrc, State.setFsrc]; exact tgetD_tput_other _ _ _ _ h

/-! ### Time -/

/-- Time passing changes the three clocks alone, and never runs back. -/
theorem State.to_eq (t : Nat) :
    ∃ n p d, s.to t = { s with now := n, pw := p, dt := d } ∧ s.now ≤ n ∧ t ≤ n ∧ s.pw ≤ p := by
  unfold State.to; split
  · next h => exact ⟨s.now, s.pw, s.dt, rfl, Nat.le_refl _, h, Nat.le_refl _⟩
  · next h => exact ⟨t, _, _, rfl, Nat.le_of_lt (Nat.lt_of_not_le h), Nat.le_refl _, Nat.le_max_left _ _⟩

/-- So does the count of the PWM time base, which comes to stand at what is asked. -/
theorem State.toPw_eq (p : Nat) :
    ∃ n d, s.toPw p = { s with now := n, pw := Nat.max s.pw p, dt := d } ∧ s.now ≤ n := by
  unfold State.toPw; split
  · next h => exact ⟨s.now, s.dt, by rw [show Nat.max s.pw p = s.pw from Nat.max_eq_left h], Nat.le_refl _⟩
  · next h =>
    obtain ⟨n, q, d, e, hn, -, -⟩ := s.to_eq (s.realOf p)
    exact ⟨n, d, by rw [e, show Nat.max s.pw p = p from Nat.max_eq_right (Nat.le_of_lt (Nat.lt_of_not_le h))], hn⟩

theorem State.toPw_pw (p : Nat) : (s.toPw p).pw = Nat.max s.pw p := by
  obtain ⟨n, d, e, -⟩ := s.toPw_eq p; rw [e]

theorem State.to_now (t : Nat) : (s.to t).now = Nat.max s.now t := by
  unfold State.to; split
  · next h => exact (Nat.max_eq_left h).symm
  · next h => exact (Nat.max_eq_right (Nat.le_of_lt (Nat.lt_of_not_le h))).symm

@[simp] theorem State.to_pending (t : Nat) : (s.to t).pending = s.pending := by unfold State.to; split <;> rfl
@[simp] theorem State.toPw_pending (p : Nat) : (s.toPw p).pending = s.pending := by obtain ⟨n, d, e, -⟩ := s.toPw_eq p; rw [e]
@[simp] theorem State.to_variant (t : Nat) : (s.to t).variant = s.variant := by unfold State.to; split <;> rfl
@[simp] theorem State.toPw_variant (p : Nat) : (s.toPw p).variant = s.variant := by obtain ⟨n, d, e, -⟩ := s.toPw_eq p; rw [e]
@[simp] theorem State.to_dtOn (t : Nat) : (s.to t).dtOn = s.dtOn := by unfold State.to; split <;> rfl
@[simp] theorem State.toPw_dtOn (p : Nat) : (s.toPw p).dtOn = s.dtOn := by obtain ⟨n, d, e, -⟩ := s.toPw_eq p; rw [e]
@[simp] theorem State.to_free (t : Nat) : (s.to t).free = s.free := by unfold State.to; split <;> rfl
@[simp] theorem State.toPw_free (p : Nat) : (s.toPw p).free = s.free := by obtain ⟨n, d, e, -⟩ := s.toPw_eq p; rw [e]
@[simp] theorem State.to_regs (t : Nat) : (s.to t).regs = s.regs := by unfold State.to; split <;> rfl
@[simp] theorem State.toPw_regs (p : Nat) : (s.toPw p).regs = s.regs := by obtain ⟨n, d, e, -⟩ := s.toPw_eq p; rw [e]
@[simp] theorem State.to_pts (t : Nat) : (s.to t).pts = s.pts := by unfold State.to; split <;> rfl
@[simp] theorem State.toPw_pts (p : Nat) : (s.toPw p).pts = s.pts := by obtain ⟨n, d, e, -⟩ := s.toPw_eq p; rw [e]
@[simp] theorem State.to_seqs (t : Nat) : (s.to t).seqs = s.seqs := by unfold State.to; split <;> rfl
@[simp] theorem State.toPw_seqs (p : Nat) : (s.toPw p).seqs = s.seqs := by obtain ⟨n, d, e, -⟩ := s.toPw_eq p; rw [e]
@[simp] theorem State.to_hostMem (t : Nat) : (s.to t).hostMem = s.hostMem := by unfold State.to; split <;> rfl
@[simp] theorem State.toPw_hostMem (p : Nat) : (s.toPw p).hostMem = s.hostMem := by obtain ⟨n, d, e, -⟩ := s.toPw_eq p; rw [e]
@[simp] theorem State.to_out (t : Nat) : (s.to t).out = s.out := by unfold State.to; split <;> rfl
@[simp] theorem State.toPw_out (p : Nat) : (s.toPw p).out = s.out := by obtain ⟨n, d, e, -⟩ := s.toPw_eq p; rw [e]
@[simp] theorem State.to_mm (t : Nat) : (s.to t).mm = s.mm := by unfold State.to; split <;> rfl
@[simp] theorem State.toPw_mm (p : Nat) : (s.toPw p).mm = s.mm := by obtain ⟨n, d, e, -⟩ := s.toPw_eq p; rw [e]
@[simp] theorem State.to_rings (t : Nat) : (s.to t).rings = s.rings := by unfold State.to; split <;> rfl
@[simp] theorem State.toPw_rings (p : Nat) : (s.toPw p).rings = s.rings := by obtain ⟨n, d, e, -⟩ := s.toPw_eq p; rw [e]
@[simp] theorem State.to_rr (t : Nat) : (s.to t).rr = s.rr := by unfold State.to; split <;> rfl
@[simp] theorem State.toPw_rr (p : Nat) : (s.toPw p).rr = s.rr := by obtain ⟨n, d, e, -⟩ := s.toPw_eq p; rw [e]
@[simp] theorem State.to_bridge (t : Nat) : (s.to t).bridge = s.bridge := by unfold State.to; split <;> rfl
@[simp] theorem State.toPw_bridge (p : Nat) : (s.toPw p).bridge = s.bridge := by obtain ⟨n, d, e, -⟩ := s.toPw_eq p; rw [e]
@[simp] theorem State.to_qUse (t : Nat) : (s.to t).qUse = s.qUse := by unfold State.to; split <;> rfl
@[simp] theorem State.toPw_qUse (p : Nat) : (s.toPw p).qUse = s.qUse := by obtain ⟨n, d, e, -⟩ := s.toPw_eq p; rw [e]
@[simp] theorem State.to_qWait (t : Nat) : (s.to t).qWait = s.qWait := by unfold State.to; split <;> rfl
@[simp] theorem State.toPw_qWait (p : Nat) : (s.toPw p).qWait = s.qWait := by obtain ⟨n, d, e, -⟩ := s.toPw_eq p; rw [e]
@[simp] theorem State.to_cplQ (t : Nat) : (s.to t).cplQ = s.cplQ := by unfold State.to; split <;> rfl
@[simp] theorem State.toPw_cplQ (p : Nat) : (s.toPw p).cplQ = s.cplQ := by obtain ⟨n, d, e, -⟩ := s.toPw_eq p; rw [e]
@[simp] theorem State.to_evq (t : Nat) : (s.to t).evq = s.evq := by unfold State.to; split <;> rfl
@[simp] theorem State.toPw_evq (p : Nat) : (s.toPw p).evq = s.evq := by obtain ⟨n, d, e, -⟩ := s.toPw_eq p; rw [e]
@[simp] theorem State.to_legs (t : Nat) : (s.to t).legs = s.legs := by unfold State.to; split <;> rfl
@[simp] theorem State.toPw_legs (p : Nat) : (s.toPw p).legs = s.legs := by obtain ⟨n, d, e, -⟩ := s.toPw_eq p; rw [e]
@[simp] theorem State.to_brks (t : Nat) : (s.to t).brks = s.brks := by unfold State.to; split <;> rfl
@[simp] theorem State.toPw_brks (p : Nat) : (s.toPw p).brks = s.brks := by obtain ⟨n, d, e, -⟩ := s.toPw_eq p; rw [e]
@[simp] theorem State.to_halts (t : Nat) : (s.to t).halts = s.halts := by unfold State.to; split <;> rfl
@[simp] theorem State.toPw_halts (p : Nat) : (s.toPw p).halts = s.halts := by obtain ⟨n, d, e, -⟩ := s.toPw_eq p; rw [e]
@[simp] theorem State.to_cmpQ (t : Nat) : (s.to t).cmpQ = s.cmpQ := by unfold State.to; split <;> rfl
@[simp] theorem State.toPw_cmpQ (p : Nat) : (s.toPw p).cmpQ = s.cmpQ := by obtain ⟨n, d, e, -⟩ := s.toPw_eq p; rw [e]
@[simp] theorem State.to_reports (t : Nat) : (s.to t).reports = s.reports := by unfold State.to; split <;> rfl
@[simp] theorem State.toPw_reports (p : Nat) : (s.toPw p).reports = s.reports := by obtain ⟨n, d, e, -⟩ := s.toPw_eq p; rw [e]
@[simp] theorem State.to_cws (t : Nat) : (s.to t).cws = s.cws := by unfold State.to; split <;> rfl
@[simp] theorem State.toPw_cws (p : Nat) : (s.toPw p).cws = s.cws := by obtain ⟨n, d, e, -⟩ := s.toPw_eq p; rw [e]
@[simp] theorem State.to_tgs (t : Nat) : (s.to t).tgs = s.tgs := by unfold State.to; split <;> rfl
@[simp] theorem State.toPw_tgs (p : Nat) : (s.toPw p).tgs = s.tgs := by obtain ⟨n, d, e, -⟩ := s.toPw_eq p; rw [e]
@[simp] theorem State.to_flt (t : Nat) : (s.to t).flt = s.flt := by unfold State.to; split <;> rfl
@[simp] theorem State.toPw_flt (p : Nat) : (s.toPw p).flt = s.flt := by obtain ⟨n, d, e, -⟩ := s.toPw_eq p; rw [e]
@[simp] theorem State.to_pinhLow (t : Nat) : (s.to t).pinhLow = s.pinhLow := by unfold State.to; split <;> rfl
@[simp] theorem State.toPw_pinhLow (p : Nat) : (s.toPw p).pinhLow = s.pinhLow := by obtain ⟨n, d, e, -⟩ := s.toPw_eq p; rw [e]
@[simp] theorem State.to_dcTaken (t : Nat) : (s.to t).dcTaken = s.dcTaken := by unfold State.to; split <;> rfl
@[simp] theorem State.toPw_dcTaken (p : Nat) : (s.toPw p).dcTaken = s.dcTaken := by obtain ⟨n, d, e, -⟩ := s.toPw_eq p; rw [e]
@[simp] theorem State.to_acTaken (t : Nat) : (s.to t).acTaken = s.acTaken := by unfold State.to; split <;> rfl
@[simp] theorem State.toPw_acTaken (p : Nat) : (s.toPw p).acTaken = s.acTaken := by obtain ⟨n, d, e, -⟩ := s.toPw_eq p; rw [e]
@[simp] theorem State.to_adcTrigs (t : Nat) : (s.to t).adcTrigs = s.adcTrigs := by unfold State.to; split <;> rfl
@[simp] theorem State.toPw_adcTrigs (p : Nat) : (s.toPw p).adcTrigs = s.adcTrigs := by obtain ⟨n, d, e, -⟩ := s.toPw_eq p; rw [e]
@[simp] theorem State.to_cadTrigs (t : Nat) : (s.to t).cadTrigs = s.cadTrigs := by unfold State.to; split <;> rfl
@[simp] theorem State.toPw_cadTrigs (p : Nat) : (s.toPw p).cadTrigs = s.cadTrigs := by obtain ⟨n, d, e, -⟩ := s.toPw_eq p; rw [e]
@[simp] theorem State.to_engTrigs (t : Nat) : (s.to t).engTrigs = s.engTrigs := by unfold State.to; split <;> rfl
@[simp] theorem State.toPw_engTrigs (p : Nat) : (s.toPw p).engTrigs = s.engTrigs := by obtain ⟨n, d, e, -⟩ := s.toPw_eq p; rw [e]
@[simp] theorem State.to_esp (t : Nat) : (s.to t).esp = s.esp := by unfold State.to; split <;> rfl
@[simp] theorem State.toPw_esp (p : Nat) : (s.toPw p).esp = s.esp := by obtain ⟨n, d, e, -⟩ := s.toPw_eq p; rw [e]
@[simp] theorem State.to_shadow (t : Nat) : (s.to t).shadow = s.shadow := by unfold State.to; split <;> rfl
@[simp] theorem State.toPw_shadow (p : Nat) : (s.toPw p).shadow = s.shadow := by obtain ⟨n, d, e, -⟩ := s.toPw_eq p; rw [e]
@[simp] theorem State.to_trgs (t : Nat) : (s.to t).trgs = s.trgs := by unfold State.to; split <;> rfl
@[simp] theorem State.toPw_trgs (p : Nat) : (s.toPw p).trgs = s.trgs := by obtain ⟨n, d, e, -⟩ := s.toPw_eq p; rw [e]
@[simp] theorem State.to_caps (t : Nat) : (s.to t).caps = s.caps := by unfold State.to; split <;> rfl
@[simp] theorem State.toPw_caps (p : Nat) : (s.toPw p).caps = s.caps := by obtain ⟨n, d, e, -⟩ := s.toPw_eq p; rw [e]
@[simp] theorem State.to_trss (t : Nat) : (s.to t).trss = s.trss := by unfold State.to; split <;> rfl
@[simp] theorem State.toPw_trss (p : Nat) : (s.toPw p).trss = s.trss := by obtain ⟨n, d, e, -⟩ := s.toPw_eq p; rw [e]
@[simp] theorem State.to_capmem (t : Nat) : (s.to t).capmem = s.capmem := by unfold State.to; split <;> rfl
@[simp] theorem State.toPw_capmem (p : Nat) : (s.toPw p).capmem = s.capmem := by obtain ⟨n, d, e, -⟩ := s.toPw_eq p; rw [e]
@[simp] theorem State.to_mem (t : Nat) : (s.to t).mem = s.mem := by unfold State.to; split <;> rfl
@[simp] theorem State.toPw_mem (p : Nat) : (s.toPw p).mem = s.mem := by obtain ⟨n, d, e, -⟩ := s.toPw_eq p; rw [e]
@[simp] theorem State.to_trl (t : Nat) : (s.to t).trl = s.trl := by unfold State.to; split <;> rfl
@[simp] theorem State.toPw_trl (p : Nat) : (s.toPw p).trl = s.trl := by obtain ⟨n, d, e, -⟩ := s.toPw_eq p; rw [e]
@[simp] theorem State.to_hoe (t : Nat) : (s.to t).hoe = s.hoe := by unfold State.to; split <;> rfl
@[simp] theorem State.toPw_hoe (p : Nat) : (s.toPw p).hoe = s.hoe := by obtain ⟨n, d, e, -⟩ := s.toPw_eq p; rw [e]
@[simp] theorem State.to_mtr (t : Nat) : (s.to t).mtr = s.mtr := by unfold State.to; split <;> rfl
@[simp] theorem State.toPw_mtr (p : Nat) : (s.toPw p).mtr = s.mtr := by obtain ⟨n, d, e, -⟩ := s.toPw_eq p; rw [e]
@[simp] theorem State.to_clo (t : Nat) : (s.to t).clo = s.clo := by unfold State.to; split <;> rfl
@[simp] theorem State.toPw_clo (p : Nat) : (s.toPw p).clo = s.clo := by obtain ⟨n, d, e, -⟩ := s.toPw_eq p; rw [e]
@[simp] theorem State.to_saf (t : Nat) : (s.to t).saf = s.saf := by unfold State.to; split <;> rfl
@[simp] theorem State.toPw_saf (p : Nat) : (s.toPw p).saf = s.saf := by obtain ⟨n, d, e, -⟩ := s.toPw_eq p; rw [e]
@[simp] theorem State.to_clk (t : Nat) : (s.to t).clk = s.clk := by unfold State.to; split <;> rfl
@[simp] theorem State.toPw_clk (p : Nat) : (s.toPw p).clk = s.clk := by obtain ⟨n, d, e, -⟩ := s.toPw_eq p; rw [e]
@[simp] theorem State.to_ptp (t : Nat) : (s.to t).ptp = s.ptp := by unfold State.to; split <;> rfl
@[simp] theorem State.toPw_ptp (p : Nat) : (s.toPw p).ptp = s.ptp := by obtain ⟨n, d, e, -⟩ := s.toPw_eq p; rw [e]
@[simp] theorem State.to_eth (t : Nat) : (s.to t).eth = s.eth := by unfold State.to; split <;> rfl
@[simp] theorem State.toPw_eth (p : Nat) : (s.toPw p).eth = s.eth := by obtain ⟨n, d, e, -⟩ := s.toPw_eq p; rw [e]
@[simp] theorem State.to_seqSt (t : Nat) : (s.to t).seqSt = s.seqSt := by unfold State.to; split <;> rfl
@[simp] theorem State.toPw_seqSt (p : Nat) : (s.toPw p).seqSt = s.seqSt := by obtain ⟨n, d, e, -⟩ := s.toPw_eq p; rw [e]
@[simp] theorem State.to_cores (t : Nat) : (s.to t).cores = s.cores := by unfold State.to; split <;> rfl
@[simp] theorem State.toPw_cores (p : Nat) : (s.toPw p).cores = s.cores := by obtain ⟨n, d, e, -⟩ := s.toPw_eq p; rw [e]
@[simp] theorem State.to_resQ (t : Nat) : (s.to t).resQ = s.resQ := by unfold State.to; split <;> rfl
@[simp] theorem State.toPw_resQ (p : Nat) : (s.toPw p).resQ = s.resQ := by obtain ⟨n, d, e, -⟩ := s.toPw_eq p; rw [e]
@[simp] theorem State.to_tmrs (t : Nat) : (s.to t).tmrs = s.tmrs := by unfold State.to; split <;> rfl
@[simp] theorem State.toPw_tmrs (p : Nat) : (s.toPw p).tmrs = s.tmrs := by obtain ⟨n, d, e, -⟩ := s.toPw_eq p; rw [e]
@[simp] theorem State.to_sds (t : Nat) : (s.to t).sds = s.sds := by unfold State.to; split <;> rfl
@[simp] theorem State.toPw_sds (p : Nat) : (s.toPw p).sds = s.sds := by obtain ⟨n, d, e, -⟩ := s.toPw_eq p; rw [e]
@[simp] theorem State.to_cal (t : Nat) : (s.to t).cal = s.cal := by unfold State.to; split <;> rfl
@[simp] theorem State.toPw_cal (p : Nat) : (s.toPw p).cal = s.cal := by obtain ⟨n, d, e, -⟩ := s.toPw_eq p; rw [e]
@[simp] theorem State.to_auxMult (t : Nat) : (s.to t).auxMult = s.auxMult := by unfold State.to; split <;> rfl
@[simp] theorem State.toPw_auxMult (p : Nat) : (s.toPw p).auxMult = s.auxMult := by obtain ⟨n, d, e, -⟩ := s.toPw_eq p; rw [e]
@[simp] theorem State.to_phgLegs (t : Nat) : (s.to t).phgLegs = s.phgLegs := by unfold State.to; split <;> rfl
@[simp] theorem State.toPw_phgLegs (p : Nat) : (s.toPw p).phgLegs = s.phgLegs := by obtain ⟨n, d, e, -⟩ := s.toPw_eq p; rw [e]
@[simp] theorem State.to_phgs (t : Nat) : (s.to t).phgs = s.phgs := by unfold State.to; split <;> rfl
@[simp] theorem State.toPw_phgs (p : Nat) : (s.toPw p).phgs = s.phgs := by obtain ⟨n, d, e, -⟩ := s.toPw_eq p; rw [e]
@[simp] theorem State.to_ceilMark (t : Nat) : (s.to t).ceilMark = s.ceilMark := by unfold State.to; split <;> rfl
@[simp] theorem State.toPw_ceilMark (p : Nat) : (s.toPw p).ceilMark = s.ceilMark := by obtain ⟨n, d, e, -⟩ := s.toPw_eq p; rw [e]
@[simp] theorem State.to_prb (t : Nat) : (s.to t).prb = s.prb := by unfold State.to; split <;> rfl
@[simp] theorem State.toPw_prb (p : Nat) : (s.toPw p).prb = s.prb := by obtain ⟨n, d, e, -⟩ := s.toPw_eq p; rw [e]
@[simp] theorem State.to_grd (t : Nat) : (s.to t).grd = s.grd := by unfold State.to; split <;> rfl
@[simp] theorem State.toPw_grd (p : Nat) : (s.toPw p).grd = s.grd := by obtain ⟨n, d, e, -⟩ := s.toPw_eq p; rw [e]
@[simp] theorem State.to_dcis (t : Nat) : (s.to t).dcis = s.dcis := by unfold State.to; split <;> rfl
@[simp] theorem State.toPw_dcis (p : Nat) : (s.toPw p).dcis = s.dcis := by obtain ⟨n, d, e, -⟩ := s.toPw_eq p; rw [e]
@[simp] theorem State.to_dcs (t : Nat) : (s.to t).dcs = s.dcs := by unfold State.to; split <;> rfl
@[simp] theorem State.toPw_dcs (p : Nat) : (s.toPw p).dcs = s.dcs := by obtain ⟨n, d, e, -⟩ := s.toPw_eq p; rw [e]
@[simp] theorem State.to_rd (t : Nat) (f : Fld) (i j : Nat) : (s.to t).rd f i j = s.rd f i j := State.rd_congr (s.to_regs t) f i j
@[simp] theorem State.toPw_rd (p : Nat) (f : Fld) (i j : Nat) : (s.toPw p).rd f i j = s.rd f i j := State.rd_congr (s.toPw_regs p) f i j
@[simp] theorem State.post_rd (ty : Nat) (l : List (Nat × Nat × Nat)) (f : Fld) (i j : Nat) : (s.post ty l).rd f i j = s.rd f i j := rfl
@[simp] theorem State.hostPut_rd (a : Nat) (b : List Nat) (f : Fld) (i j : Nat) : (s.hostPut a b).rd f i j = s.rd f i j := rfl
@[simp] theorem State.useFree_rd  (f : Fld) (i j : Nat) : s.useFree.rd f i j = s.rd f i j := rfl
@[simp] theorem State.setLeg_rd (n : Nat) (v : LegSt) (f : Fld) (i j : Nat) : (s.setLeg n v).rd f i j = s.rd f i j := rfl
@[simp] theorem State.setBrk_rd (k : Nat) (v : BrkSt) (f : Fld) (i j : Nat) : (s.setBrk k v).rd f i j = s.rd f i j := rfl
@[simp] theorem State.setCw_rd (w : Nat) (v : CwSt) (f : Fld) (i j : Nat) : (s.setCw w v).rd f i j = s.rd f i j := rfl
@[simp] theorem State.setTg_rd (g : Nat) (v : TgSt) (f : Fld) (i j : Nat) : (s.setTg g v).rd f i j = s.rd f i j := rfl
@[simp] theorem State.setRing_rd (q : Nat) (v : RingSt) (f : Fld) (i j : Nat) : (s.setRing q v).rd f i j = s.rd f i j := rfl
@[simp] theorem State.setFsrc_rd (n : Nat) (v : FltSt) (f : Fld) (i j : Nat) : (s.setFsrc n v).rd f i j = s.rd f i j := rfl

end Sys2Proof.Machine
end

