-- ==== Sys2Proof/Laws/Cmd.lean ====
section
/-!
SUPPORT. What the operations shared by every ring opcode and every named unit do, said once: the outcome of a meaning,
the start of an opcode on a ready descriptor, its end, the bytes a host write places, and a record posted.
-/
namespace Sys2Proof.Machine

variable {s t : State} {q op : Nat} {x : Started} {b : List Nat}

/-! ### Outcomes -/

/-- A meaning over no unit answers a next state, and only the one its effect gives. -/
theorem State.run_next (f : State → State) : s.run f = .next t ↔ t = s.ran f := by
  rw [s.run_eq]; constructor
  · intro h; injection h with h; exact h.symm
  · rintro rfl; rfl

/-- A meaning that names a unit answers a next state exactly where the spec has the unit. -/
theorem State.runIf_next (ok : Bool) (f : State → State) : s.runIf ok f = .next t ↔ ok = true ∧ t = s.ran f := by
  cases ok
  · simp [State.runIf_false]
  · simp [State.runIf_true, eq_comm]

/-- The same of commands that may write host memory. -/
theorem State.runHost_next (f : State → State) : s.runHost f = .next t ↔ t = s.ranHost f := by
  rw [s.runHost_eq]; constructor
  · intro h; injection h with h; exact h.symm
  · rintro rfl; rfl

theorem State.runHostIf_next (ok : Bool) (f : State → State) :
    s.runHostIf ok f = .next t ↔ ok = true ∧ t = s.ranHost f := by
  cases ok
  · simp [State.runHostIf_false]
  · simp [State.runHostIf_true, eq_comm]

/-- It faults exactly where the spec lacks the unit. -/
theorem State.runIf_fault (ok : Bool) (f : State → State) (e : Fault) :
    s.runIf ok f = .fault e ↔ ok = false ∧ e = .noSuchUnit := by
  cases ok
  · simp [State.runIf_false]
  · simp [State.runIf_true]

/-- No meaning over a unit is refused. -/
theorem State.runIf_not_refused (ok : Bool) (f : State → State) (r : Refusal) : s.runIf ok f ≠ .refused r := by
  cases ok <;> simp [State.runIf_false, State.runIf_true]

/-! ### The start of an opcode -/

/-- A ready descriptor is the one its ring has started, and carries the opcode it is ready for. -/
theorem Ready.started_opcode (h : Ready s q op x b) : (s.ring q).started = some x ∧ x.d.opcode = op := by
  have hc := h.2
  unfold State.cmdOf at hc
  cases hr : (s.ring q).started with
  | none => simp [hr] at hc
  | some y =>
    simp only [hr] at hc
    split at hc
    · split at hc
      · simp only [Option.some.injEq, Prod.mk.injEq] at hc
        obtain ⟨rfl, -⟩ := hc
        exact ⟨rfl, ‹_›⟩
      · cases hc
    · cases hc

theorem Ready.started (h : Ready s q op x b) : (s.ring q).started = some x := h.started_opcode.1

/-- On a ready descriptor an opcode's meaning is its effect on that descriptor and its payload. -/
theorem Ready.cmd (h : Ready s q op x b) (f : Started → List Nat → State → State) :
    State.cmd q op f s = .next (s.ran (f x b)) := by
  have hq : sqOk q = true := by simp [sqOk, h.1]
  have hc : State.onCmdOf q op f { s with out := [] } = f x b { s with out := [] } := by
    have h' : State.cmdOf { s with out := [] } q op = some (x, b) := h.2
    simp [State.onCmdOf, h']
  simp only [State.cmd, hq, State.runIf_true, State.ran, hc]

theorem Ready.cmdHost (h : Ready s q op x b) (f : Started → List Nat → State → State) :
    State.cmdHost q op f s = .next (s.ranHost (f x b)) := by
  have hq : sqOk q = true := by simp [sqOk, h.1]
  have hc : State.onCmdOf q op f { s with out := [] } = f x b { s with out := [] } := by
    have h' : State.cmdOf { s with out := [] } q op = some (x, b) := h.2
    simp [State.onCmdOf, h']
  simp only [State.cmdHost, hq, State.runHostIf_true, State.ranHost, hc]

/-- With no such descriptor started an opcode changes nothing. -/
theorem State.cmd_none (f : Started → List Nat → State → State) (hq : q < 32) (h : s.cmdOf q op = none) :
    State.cmd q op f s = .next (s.ran id) := by
  have hq : sqOk q = true := by simp [sqOk, hq]
  have hc : State.onCmdOf q op f { s with out := [] } = { s with out := [] } := by
    have h' : State.cmdOf { s with out := [] } q op = none := h
    simp [State.onCmdOf, h']
  simp only [State.cmd, hq, State.runIf_true, State.ran, hc, id]

/-! ### The end of an opcode -/

/-- Completing a started descriptor ends it with its one completion. -/
theorem State.complete_ended (st res : Nat) (h : (t.ring q).started = some x) (hc : t.cplQ = s.cplQ)
    (hq : (t.ring q).cq = (s.ring q).cq) : Ended s (t.complete q st res) q x st res := by
  unfold State.complete Ended cplAtEnd State.modRing
  simp only [h]
  by_cases hb : (bit x.d.flags 2 && decide (st = 0)) = true
  · simp [hb, hc]
  · refine ⟨?_, t.dtLo, ?_⟩
    · simp [hb, State.ring, State.setRing]
    · simp [hb, hc, hq, State.dtLo, State.dtNs]

/-- Completing changes the ring and the completions that wait, and nothing else. -/
theorem State.complete_same (q st res : Nat) :
    { s.complete q st res with rings := s.rings, cplQ := s.cplQ } = s := by
  unfold State.complete State.modRing State.setRing
  cases (s.ring q).started with
  | none => rfl
  | some y => dsimp only; split <;> rfl

@[simp] theorem State.complete_regs (q st res : Nat) : (s.complete q st res).regs = s.regs := by
  have h := congrArg State.regs (s.complete_same q st res); exact h

@[simp] theorem State.complete_out (q st res : Nat) : (s.complete q st res).out = s.out := by
  have h := congrArg State.out (s.complete_same q st res); exact h

@[simp] theorem State.complete_pts (q st res : Nat) : (s.complete q st res).pts = s.pts := by
  have h := congrArg State.pts (s.complete_same q st res); exact h

@[simp] theorem State.complete_evq (q st res : Nat) : (s.complete q st res).evq = s.evq := by
  have h := congrArg State.evq (s.complete_same q st res); exact h

@[simp] theorem State.complete_free (q st res : Nat) : (s.complete q st res).free = s.free := by
  have h := congrArg State.free (s.complete_same q st res); exact h

/-- A descriptor that goes on waits with its record otherwise unchanged. -/
theorem State.cmdWaits_started (h : (s.ring q).started = some x) :
    ((s.cmdWaits q).ring q).started = some { x with stage := .waiting, at_ := s.now } := by
  simp [State.cmdWaits, State.modRing, State.ring, State.setRing] at *
  simp [h]

/-! ### Host memory -/

/-- Every run keeps host memory in its canonical form. -/
theorem State.ran_keeps_form (f : State → State) (h : Memory.wf s.hostMem = true) :
    Memory.wf (s.ran f).hostMem = true := h

theorem State.ranHost_keeps_form (f : State → State) (h : Memory.wf s.hostMem = true) :
    Memory.wf (s.ranHost f).hostMem = true := twf_placeBytes _ h

/-- A byte placed twice reads as the last one placed. -/
theorem placeBytes_append (m : Tbl Byte) (l l' : List (Nat × Nat)) :
    placeBytes m (l ++ l') = placeBytes (placeBytes m l) l' := by simp [placeBytes]

/-- A byte that no write names is as it was. -/
theorem placeBytes_other (m : Tbl Byte) (l : List (Nat × Nat)) (p : Nat) (h : ∀ e ∈ l, e.1 ≠ p) :
    tgetD (placeBytes m l) p 0 = tgetD m p 0 := by
  induction l generalizing m with
  | nil => rfl
  | cons e l ih =>
    have he := h e (by simp)
    have := ih (tput m e.1 (BitVec.ofNat 8 e.2) 0) (fun e' h' => h e' (by simp [h']))
    simp only [placeBytes, List.foldl_cons] at this ⊢
    rw [this, tgetD_tput_other _ _ _ _ (Ne.symm he)]

/-- The last byte of a list of writes reads as written. -/
theorem placeBytes_last (m : Tbl Byte) (l : List (Nat × Nat)) (p v : Nat) :
    tgetD (placeBytes m (l ++ [(p, v)])) p 0 = BitVec.ofNat 8 v := by
  simp [placeBytes]

/-! ### Records -/

/-- A posted record waits to be routed. -/
theorem State.post_posted (ty : Nat) (l : List (Nat × Nat × Nat)) : Posted s (s.post ty l) ty :=
  ⟨l, s.dtLo, rfl⟩

end Sys2Proof.Machine
end

