-- ==== Sys2Proof/Laws/PerInstr.lean ====
section
/-!
SUPPORT. One lemma per command of the family UnitWf: a command is well-formed exactly when the spec has each unit it
names.
-/
namespace Sys2Proof.Laws

open Sys2Proof.Machine

/-- Well-formedness of a command, unit by unit. -/
def UnitWf.Statement (c : Instr) : Prop := c.wf = true ↔ ∀ u ∈ c.units, u.kind.lo ≤ u.num ∧ u.num < u.kind.hi ∧
  (u.kind = .softWindow → u.num < 96 ∨ 192 ≤ u.num)

/-- What a unit the spec has satisfies. -/
theorem unit_has_iff (u : UnitRef) : u.has = true ↔ u.kind.lo ≤ u.num ∧ u.num < u.kind.hi ∧
    (u.kind = .softWindow → u.num < 96 ∨ 192 ≤ u.num) := by
  by_cases h : u.kind = .softWindow <;> simp [UnitRef.has, h, and_assoc]

/-- The family's statement holds of every command. -/
theorem unit_wf (c : Instr) : UnitWf.Statement c := by
  simp only [UnitWf.Statement, Instr.wf, List.all_eq_true, unit_has_iff]

theorem UnitWf.nop (q : Nat) : UnitWf.Statement (.nop q) := unit_wf _
theorem UnitWf.modeSet (q : Nat) : UnitWf.Statement (.modeSet q) := unit_wf _
theorem UnitWf.deviceRestart (q : Nat) : UnitWf.Statement (.deviceRestart q) := unit_wf _
theorem UnitWf.timeRead (q : Nat) : UnitWf.Statement (.timeRead q) := unit_wf _
theorem UnitWf.regBatchWrite (q : Nat) : UnitWf.Statement (.regBatchWrite q) := unit_wf _
theorem UnitWf.regBatchRead (q : Nat) : UnitWf.Statement (.regBatchRead q) := unit_wf _
theorem UnitWf.regWrite (q : Nat) : UnitWf.Statement (.regWrite q) := unit_wf _
theorem UnitWf.regRead (q : Nat) : UnitWf.Statement (.regRead q) := unit_wf _
theorem UnitWf.undefinedOpcode (q : Nat) : UnitWf.Statement (.undefinedOpcode q) := unit_wf _
theorem UnitWf.setpointWrite (q : Nat) : UnitWf.Statement (.setpointWrite q) := unit_wf _
theorem UnitWf.signalRead (q : Nat) : UnitWf.Statement (.signalRead q) := unit_wf _
theorem UnitWf.graphLoad (q : Nat) : UnitWf.Statement (.graphLoad q) := unit_wf _
theorem UnitWf.graphUnload (q : Nat) : UnitWf.Statement (.graphUnload q) := unit_wf _
theorem UnitWf.coefWrite (q : Nat) : UnitWf.Statement (.coefWrite q) := unit_wf _
theorem UnitWf.coefCommit (q : Nat) : UnitWf.Statement (.coefCommit q) := unit_wf _
theorem UnitWf.signalReadBlock (q : Nat) : UnitWf.Statement (.signalReadBlock q) := unit_wf _
theorem UnitWf.mboxBind (q : Nat) : UnitWf.Statement (.mboxBind q) := unit_wf _
theorem UnitWf.setpointWriteSet (q : Nat) : UnitWf.Statement (.setpointWriteSet q) := unit_wf _
theorem UnitWf.nodeReset (q : Nat) : UnitWf.Statement (.nodeReset q) := unit_wf _
theorem UnitWf.legCommit (q : Nat) : UnitWf.Statement (.legCommit q) := unit_wf _
theorem UnitWf.legCommitSet (q : Nat) : UnitWf.Statement (.legCommitSet q) := unit_wf _
theorem UnitWf.sieCapture (q : Nat) : UnitWf.Statement (.sieCapture q) := unit_wf _
theorem UnitWf.sieForce (q : Nat) : UnitWf.Statement (.sieForce q) := unit_wf _
theorem UnitWf.sieAbort (q : Nat) : UnitWf.Statement (.sieAbort q) := unit_wf _
theorem UnitWf.sieRead (q : Nat) : UnitWf.Statement (.sieRead q) := unit_wf _
theorem UnitWf.trlCmd (q : Nat) : UnitWf.Statement (.trlCmd q) := unit_wf _
theorem UnitWf.mapWrite (q : Nat) : UnitWf.Statement (.mapWrite q) := unit_wf _
theorem UnitWf.mapRead (q : Nat) : UnitWf.Statement (.mapRead q) := unit_wf _
theorem UnitWf.kaCtrl (q : Nat) : UnitWf.Statement (.kaCtrl q) := unit_wf _
theorem UnitWf.pollNow (q : Nat) : UnitWf.Statement (.pollNow q) := unit_wf _
theorem UnitWf.mtrSnapshot (q : Nat) : UnitWf.Statement (.mtrSnapshot q) := unit_wf _
theorem UnitWf.mtrLostAck (q : Nat) : UnitWf.Statement (.mtrLostAck q) := unit_wf _
theorem UnitWf.mtrCommitNow (q : Nat) : UnitWf.Statement (.mtrCommitNow q) := unit_wf _
theorem UnitWf.safStatus (q : Nat) : UnitWf.Statement (.safStatus q) := unit_wf _
theorem UnitWf.safReset (q : Nat) : UnitWf.Statement (.safReset q) := unit_wf _
theorem UnitWf.safContactor (q : Nat) : UnitWf.Statement (.safContactor q) := unit_wf _
theorem UnitWf.safCommit (q : Nat) : UnitWf.Statement (.safCommit q) := unit_wf _
theorem UnitWf.fltClear (q : Nat) : UnitWf.Statement (.fltClear q) := unit_wf _
theorem UnitWf.dumpArm (q : Nat) : UnitWf.Statement (.dumpArm q) := unit_wf _
theorem UnitWf.fltInject (q : Nat) : UnitWf.Statement (.fltInject q) := unit_wf _
theorem UnitWf.fltHistory (q : Nat) : UnitWf.Statement (.fltHistory q) := unit_wf _
theorem UnitWf.telNow (q : Nat) : UnitWf.Statement (.telNow q) := unit_wf _
theorem UnitWf.clkSearch (q : Nat) : UnitWf.Statement (.clkSearch q) := unit_wf _
theorem UnitWf.clkHop (q : Nat) : UnitWf.Statement (.clkHop q) := unit_wf _
theorem UnitWf.timeSet (q : Nat) : UnitWf.Statement (.timeSet q) := unit_wf _
theorem UnitWf.sqDoorbell (q v : Nat) : UnitWf.Statement (.sqDoorbell q v) := unit_wf _
theorem UnitWf.cqDoorbell (q v : Nat) : UnitWf.Statement (.cqDoorbell q v) := unit_wf _
theorem UnitWf.bar2InvalidAccess (off size : Nat) (wr : Bool) : UnitWf.Statement (.bar2InvalidAccess off size wr) := unit_wf _
theorem UnitWf.descriptorFetchComplete (q : Nat) (res : Option (List Nat)) (at_ : Nat) : UnitWf.Statement (.descriptorFetchComplete q res at_) := unit_wf _
theorem UnitWf.payloadReadTimeout (q : Nat) : UnitWf.Statement (.payloadReadTimeout q) := unit_wf _
theorem UnitWf.descriptorDispatch : UnitWf.Statement (.descriptorDispatch) := unit_wf _
theorem UnitWf.completionWrite (q : Nat) : UnitWf.Statement (.completionWrite q) := unit_wf _
theorem UnitWf.eventRecordWrite : UnitWf.Statement (.eventRecordWrite) := unit_wf _
theorem UnitWf.evtLost (q : Nat) : UnitWf.Statement (.evtLost q) := unit_wf _
theorem UnitWf.msixModTimeExpiry (q : Nat) : UnitWf.Statement (.msixModTimeExpiry q) := unit_wf _
theorem UnitWf.msixUnmask (v : Nat) : UnitWf.Statement (.msixUnmask v) := unit_wf _
theorem UnitWf.ringEnable (q : Nat) : UnitWf.Statement (.ringEnable q) := unit_wf _
theorem UnitWf.ringDisable (q : Nat) : UnitWf.Statement (.ringDisable q) := unit_wf _
theorem UnitWf.registerWrite (o size v : Nat) : UnitWf.Statement (.registerWrite o size v) := unit_wf _
theorem UnitWf.bar0InvalidAccess (wr : Bool) (o size : Nat) : UnitWf.Statement (.bar0InvalidAccess wr o size) := unit_wf _
theorem UnitWf.bar0ReservedWrite (o size v : Nat) : UnitWf.Statement (.bar0ReservedWrite o size v) := unit_wf _
theorem UnitWf.signalPointWrite (p v : Nat) : UnitWf.Statement (.signalPointWrite p v) := unit_wf _
theorem UnitWf.qclrAll : UnitWf.Statement (.qclrAll) := unit_wf _
theorem UnitWf.hwdtKick : UnitWf.Statement (.hwdtKick) := unit_wf _
theorem UnitWf.hostWatchdogExpiry : UnitWf.Statement (.hostWatchdogExpiry) := unit_wf _
theorem UnitWf.fkeyWrite (v : Nat) : UnitWf.Statement (.fkeyWrite v) := unit_wf _
theorem UnitWf.legCommitGo (n : Nat) : UnitWf.Statement (.legCommitGo n) := unit_wf _
theorem UnitWf.pairCommit (n on off : Nat) : UnitWf.Statement (.pairCommit n on off) := unit_wf _
theorem UnitWf.legCntClr (n : Nat) : UnitWf.Statement (.legCntClr n) := unit_wf _
theorem UnitWf.brickEnable (k : Nat) : UnitWf.Statement (.brickEnable k) := unit_wf _
theorem UnitWf.brickDisable (k : Nat) : UnitWf.Statement (.brickDisable k) := unit_wf _
theorem UnitWf.resume (k : Nat) : UnitWf.Statement (.resume k) := unit_wf _
theorem UnitWf.ownperSet (n : Nat) : UnitWf.Statement (.ownperSet n) := unit_wf _
theorem UnitWf.gstatClear (n mask : Nat) : UnitWf.Statement (.gstatClear n mask) := unit_wf _
theorem UnitWf.gateCntClr (n : Nat) : UnitWf.Statement (.gateCntClr n) := unit_wf _
theorem UnitWf.windowLatchClear (w : Nat) : UnitWf.Statement (.windowLatchClear w) := unit_wf _
theorem UnitWf.groupTrippedClear (g : Nat) : UnitWf.Statement (.groupTrippedClear g) := unit_wf _
theorem UnitWf.tripGroupEnable (g : Nat) : UnitWf.Statement (.tripGroupEnable g) := unit_wf _
theorem UnitWf.swtrip (g : Nat) (v : Bool) : UnitWf.Statement (.swtrip g v) := unit_wf _
theorem UnitWf.adcSwtrig (c mask : Nat) : UnitWf.Statement (.adcSwtrig c mask) := unit_wf _
theorem UnitWf.adcCntClr (c : Nat) : UnitWf.Statement (.adcCntClr c) := unit_wf _
theorem UnitWf.coefApply : UnitWf.Statement (.coefApply) := unit_wf _
theorem UnitWf.calStepLo (chan : Nat) : UnitWf.Statement (.calStepLo chan) := unit_wf _
theorem UnitWf.calStepHi (chan : Nat) : UnitWf.Statement (.calStepHi chan) := unit_wf _
theorem UnitWf.calAbort : UnitWf.Statement (.calAbort) := unit_wf _
theorem UnitWf.calAverageDone : UnitWf.Statement (.calAverageDone) := unit_wf _
theorem UnitWf.calTimeout : UnitWf.Statement (.calTimeout) := unit_wf _
theorem UnitWf.sdmSync : UnitWf.Statement (.sdmSync) := unit_wf _
theorem UnitWf.sdmCntClr : UnitWf.Statement (.sdmCntClr) := unit_wf _
theorem UnitWf.espCntClr : UnitWf.Statement (.espCntClr) := unit_wf _
theorem UnitWf.espCoefCommit (mask : Nat) : UnitWf.Statement (.espCoefCommit mask) := unit_wf _
theorem UnitWf.cadtrig (mask : Nat) : UnitWf.Statement (.cadtrig mask) := unit_wf _
theorem UnitWf.mboxCfgWrite (m v : Nat) : UnitWf.Statement (.mboxCfgWrite m v) := unit_wf _
theorem UnitWf.unretire (g n : Nat) : UnitWf.Statement (.unretire g n) := unit_wf _
theorem UnitWf.release (g n : Nat) : UnitWf.Statement (.release g n) := unit_wf _
theorem UnitWf.grdReturn : UnitWf.Statement (.grdReturn) := unit_wf _
theorem UnitWf.profileWrite (v : Nat) : UnitWf.Statement (.profileWrite v) := unit_wf _
theorem UnitWf.unblock (k : Nat) : UnitWf.Statement (.unblock k) := unit_wf _
theorem UnitWf.sweep (k : Nat) : UnitWf.Statement (.sweep k) := unit_wf _
theorem UnitWf.kaStop : UnitWf.Statement (.kaStop) := unit_wf _
theorem UnitWf.kaResume : UnitWf.Statement (.kaResume) := unit_wf _
theorem UnitWf.trlCntClr : UnitWf.Statement (.trlCntClr) := unit_wf _
theorem UnitWf.seal : UnitWf.Statement (.seal) := unit_wf _
theorem UnitWf.capForce (e : Nat) : UnitWf.Statement (.capForce e) := unit_wf _
theorem UnitWf.capAbort (e : Nat) : UnitWf.Statement (.capAbort e) := unit_wf _
theorem UnitWf.sieCntClr : UnitWf.Statement (.sieCntClr) := unit_wf _
theorem UnitWf.ridxWrite (t v : Nat) : UnitWf.Statement (.ridxWrite t v) := unit_wf _
theorem UnitWf.traceStreamEnable (t : Nat) : UnitWf.Statement (.traceStreamEnable t) := unit_wf _
theorem UnitWf.flipArm : UnitWf.Statement (.flipArm) := unit_wf _
theorem UnitWf.testPortGo (write : Bool) : UnitWf.Statement (.testPortGo write) := unit_wf _
theorem UnitWf.testPortDone : UnitWf.Statement (.testPortDone) := unit_wf _
theorem UnitWf.remapCmd (g : Nat) : UnitWf.Statement (.remapCmd g) := unit_wf _
theorem UnitWf.memCntClr : UnitWf.Statement (.memCntClr) := unit_wf _
theorem UnitWf.injGo : UnitWf.Statement (.injGo) := unit_wf _
theorem UnitWf.firstValidClear : UnitWf.Statement (.firstValidClear) := unit_wf _
theorem UnitWf.sourceActiveClear (i : Nat) : UnitWf.Statement (.sourceActiveClear i) := unit_wf _
theorem UnitWf.fltCntClr : UnitWf.Statement (.fltCntClr) := unit_wf _
theorem UnitWf.safCntClr : UnitWf.Statement (.safCntClr) := unit_wf _
theorem UnitWf.logClr : UnitWf.Statement (.logClr) := unit_wf _
theorem UnitWf.cloCntClr : UnitWf.Statement (.cloCntClr) := unit_wf _
theorem UnitWf.mdioAccess (op phy reg data : Nat) : UnitWf.Statement (.mdioAccess op phy reg data) := unit_wf _
theorem UnitWf.mdioAccessDone (data : Nat) : UnitWf.Statement (.mdioAccessDone data) := unit_wf _
theorem UnitWf.ethCntClr (n : Nat) : UnitWf.Statement (.ethCntClr n) := unit_wf _
theorem UnitWf.mainSuppliesGood (ftest refsel : Bool) (r : Rails) (at_ : Nat) : UnitWf.Statement (.mainSuppliesGood ftest refsel r at_) := unit_wf _
theorem UnitWf.powerFailWarning (r : Rails) (pinH at_ : Nat) : UnitWf.Statement (.powerFailWarning r pinH at_) := unit_wf _
theorem UnitWf.railsLostEarly : UnitWf.Statement (.railsLostEarly) := unit_wf _
theorem UnitWf.readySet (b x at_ : Nat) : UnitWf.Statement (.readySet b x at_) := unit_wf _
theorem UnitWf.readyLost (b at_ : Nat) : UnitWf.Statement (.readyLost b at_) := unit_wf _
theorem UnitWf.bringupTimeout : UnitWf.Statement (.bringupTimeout) := unit_wf _
theorem UnitWf.modeManagerEvaluation : UnitWf.Statement (.modeManagerEvaluation) := unit_wf _
theorem UnitWf.prestartTimeout : UnitWf.Statement (.prestartTimeout) := unit_wf _
theorem UnitWf.prechargeHoldExpiry : UnitWf.Statement (.prechargeHoldExpiry) := unit_wf _
theorem UnitWf.syncHoldExpiry : UnitWf.Statement (.syncHoldExpiry) := unit_wf _
theorem UnitWf.syncTimeout : UnitWf.Statement (.syncTimeout) := unit_wf _
theorem UnitWf.legCheck (r : ChkResp) : UnitWf.Statement (.legCheck r) := unit_wf _
theorem UnitWf.brickStart (k : Nat) : UnitWf.Statement (.brickStart k) := unit_wf _
theorem UnitWf.brickMid (k : Nat) : UnitWf.Statement (.brickMid k) := unit_wf _
theorem UnitWf.ownStart (n : Nat) : UnitWf.Statement (.ownStart n) := unit_wf _
theorem UnitWf.reloadGuardOpen (own : Bool) (i : Nat) : UnitWf.Statement (.reloadGuardOpen own i) := unit_wf _
theorem UnitWf.periodReportPost : UnitWf.Statement (.periodReportPost) := unit_wf _
theorem UnitWf.compareQueueEntry (k : Nat) : UnitWf.Statement (.compareQueueEntry k) := unit_wf _
theorem UnitWf.hcEdge (n : Nat) : UnitWf.Statement (.hcEdge n) := unit_wf _
theorem UnitWf.deadTimeExpiry (n : Nat) (d : Side) : UnitWf.Statement (.deadTimeExpiry n d) := unit_wf _
theorem UnitWf.interlockTimeout (n : Nat) (d : Side) : UnitWf.Statement (.interlockTimeout n d) := unit_wf _
theorem UnitWf.maxonExpiry (n : Nat) (d : Side) : UnitWf.Statement (.maxonExpiry n d) := unit_wf _
theorem UnitWf.linkAlivePulse (n : Nat) (d : Side) : UnitWf.Statement (.linkAlivePulse n d) := unit_wf _
theorem UnitWf.vledSample (k mv at_ : Nat) : UnitWf.Statement (.vledSample k mv at_) := unit_wf _
theorem UnitWf.statusLevelChange (n : Nat) (d : Side) (ball : Bool) (at_ : Nat) : UnitWf.Statement (.statusLevelChange n d ball at_) := unit_wf _
theorem UnitWf.statusPulseClassified (n : Nat) (d : Side) : UnitWf.Statement (.statusPulseClassified n d) := unit_wf _
theorem UnitWf.confirmTimeout (n : Nat) (d : Side) : UnitWf.Statement (.confirmTimeout n d) := unit_wf _
theorem UnitWf.stuckCheckExpiry (n : Nat) (d : Side) : UnitWf.Statement (.stuckCheckExpiry n d) := unit_wf _
theorem UnitWf.gstatPersistExpiry (n : Nat) (d : Side) (c : PulseClass) : UnitWf.Statement (.gstatPersistExpiry n d c) := unit_wf _
theorem UnitWf.windowConditionChange (w : Nat) (at_ : Nat) (levels : List Int) : UnitWf.Statement (.windowConditionChange w at_ levels) := unit_wf _
theorem UnitWf.hardWindowCrossing (w : Nat) (at_ : Nat) (level : Int) : UnitWf.Statement (.hardWindowCrossing w at_ level) := unit_wf _
theorem UnitWf.blankingEnd (w : Nat) : UnitWf.Statement (.blankingEnd w) := unit_wf _
theorem UnitWf.haltEntry (c : HaltCause) (at_ : Nat) : UnitWf.Statement (.haltEntry c at_) := unit_wf _
theorem UnitWf.haltEnd (c : HaltCause) (at_ : Nat) : UnitWf.Statement (.haltEnd c at_) := unit_wf _
theorem UnitWf.contactorLevelFall : UnitWf.Statement (.contactorLevelFall) := unit_wf _
theorem UnitWf.adcTrigger : UnitWf.Statement (.adcTrigger) := unit_wf _
theorem UnitWf.burstReady (c q : Nat) : UnitWf.Statement (.burstReady c q) := unit_wf _
theorem UnitWf.conversionEnd (c : Nat) (v : AinVolt) : UnitWf.Statement (.conversionEnd c v) := unit_wf _
theorem UnitWf.sensorResultPost (i : Nat) : UnitWf.Statement (.sensorResultPost i) := unit_wf _
theorem UnitWf.corePowerDown (c : Nat) : UnitWf.Statement (.corePowerDown c) := unit_wf _
theorem UnitWf.coreWakeDone (c : Nat) : UnitWf.Statement (.coreWakeDone c) := unit_wf _
theorem UnitWf.timerExpiry (t : Nat) : UnitWf.Statement (.timerExpiry t) := unit_wf _
theorem UnitWf.sdiResult (i : Nat) (line : SdLine) (at_ : Nat) : UnitWf.Statement (.sdiResult i line at_) := unit_wf _
theorem UnitWf.sdiLink (i : Nat) (line : SdLine) (more at_ : Nat) : UnitWf.Statement (.sdiLink i line more at_) := unit_wf _
theorem UnitWf.sampleOpen : UnitWf.Statement (.sampleOpen) := unit_wf _
theorem UnitWf.taskDispatch : UnitWf.Statement (.taskDispatch) := unit_wf _
theorem UnitWf.taskComplete : UnitWf.Statement (.taskComplete) := unit_wf _
theorem UnitWf.mailboxUpdate : UnitWf.Statement (.mailboxUpdate) := unit_wf _
theorem UnitWf.exitMsExpiry : UnitWf.Statement (.exitMsExpiry) := unit_wf _
theorem UnitWf.restoreMsExpiry : UnitWf.Statement (.restoreMsExpiry) := unit_wf _
theorem UnitWf.passiveHoldExpiry : UnitWf.Statement (.passiveHoldExpiry) := unit_wf _
theorem UnitWf.correlatorSample : UnitWf.Statement (.correlatorSample) := unit_wf _
theorem UnitWf.probeEstimate : UnitWf.Statement (.probeEstimate) := unit_wf _
theorem UnitWf.listenPeriod : UnitWf.Statement (.listenPeriod) := unit_wf _
theorem UnitWf.spareRampEnd (g : Nat) : UnitWf.Statement (.spareRampEnd g) := unit_wf _
theorem UnitWf.shadowTimeout (n : Nat) : UnitWf.Statement (.shadowTimeout n) := unit_wf _
theorem UnitWf.shadowRestore (n : Nat) : UnitWf.Statement (.shadowRestore n) := unit_wf _
theorem UnitWf.vinStartHold (k : Nat) : UnitWf.Statement (.vinStartHold k) := unit_wf _
theorem UnitWf.startSlow (k : Nat) : UnitWf.Statement (.startSlow k) := unit_wf _
theorem UnitWf.softStartEnd (k : Nat) : UnitWf.Statement (.softStartEnd k) := unit_wf _
theorem UnitWf.shortDetection (k : Nat) : UnitWf.Statement (.shortDetection k) := unit_wf _
theorem UnitWf.hiccupEnd (k : Nat) : UnitWf.Statement (.hiccupEnd k) := unit_wf _
theorem UnitWf.retryCountReset (k : Nat) : UnitWf.Statement (.retryCountReset k) := unit_wf _
theorem UnitWf.burstSleepEnd (k : Nat) : UnitWf.Statement (.burstSleepEnd k) := unit_wf _
theorem UnitWf.dawnPPost : UnitWf.Statement (.dawnPPost) := unit_wf _
theorem UnitWf.mapFold (k : Nat) : UnitWf.Statement (.mapFold k) := unit_wf _
theorem UnitWf.keepaliveFrame (k : Nat) : UnitWf.Statement (.keepaliveFrame k) := unit_wf _
theorem UnitWf.pollRoundStart (k : Nat) : UnitWf.Statement (.pollRoundStart k) := unit_wf _
theorem UnitWf.pollFrame (k : Nat) : UnitWf.Statement (.pollFrame k) := unit_wf _
theorem UnitWf.downlinkFrameEnd (k : Nat) : UnitWf.Statement (.downlinkFrameEnd k) := unit_wf _
theorem UnitWf.uplinkReply (k payload crc at_ : Nat) : UnitWf.Statement (.uplinkReply k payload crc at_) := unit_wf _
theorem UnitWf.replySlotEnd (k : Nat) : UnitWf.Statement (.replySlotEnd k) := unit_wf _
theorem UnitWf.roundDone (k : Nat) : UnitWf.Statement (.roundDone k) := unit_wf _
theorem UnitWf.trlCmdTimeout (q : Nat) : UnitWf.Statement (.trlCmdTimeout q) := unit_wf _
theorem UnitWf.meterCycleEnd (at_ : Nat) : UnitWf.Statement (.meterCycleEnd at_) := unit_wf _
theorem UnitWf.meterIntervalEnd : UnitWf.Statement (.meterIntervalEnd) := unit_wf _
theorem UnitWf.meterFrequency : UnitWf.Statement (.meterFrequency) := unit_wf _
theorem UnitWf.revPower : UnitWf.Statement (.revPower) := unit_wf _
theorem UnitWf.s0Pulse (i : Nat) (high : Bool) (at_ : Nat) : UnitWf.Statement (.s0Pulse i high at_) := unit_wf _
theorem UnitWf.s0WindowEnd (i : Nat) : UnitWf.Statement (.s0WindowEnd i) := unit_wf _
theorem UnitWf.meterGap : UnitWf.Statement (.meterGap) := unit_wf _
theorem UnitWf.meterRestore : UnitWf.Statement (.meterRestore) := unit_wf _
theorem UnitWf.retentionTransfer : UnitWf.Statement (.retentionTransfer) := unit_wf _
theorem UnitWf.retentionUpdateApply : UnitWf.Statement (.retentionUpdateApply) := unit_wf _
theorem UnitWf.commitDue (pf : Bool) : UnitWf.Statement (.commitDue pf) := unit_wf _
theorem UnitWf.framCommitDone (good : Bool) : UnitWf.Statement (.framCommitDone good) := unit_wf _
theorem UnitWf.storeSample (v h : Nat) (parity : Bool) (at_ : Nat) : UnitWf.Statement (.storeSample v h parity at_) := unit_wf _
theorem UnitWf.keepaliveDieStart (at_ : Nat) : UnitWf.Statement (.keepaliveDieStart at_) := unit_wf _
theorem UnitWf.captureEngineSample : UnitWf.Statement (.captureEngineSample) := unit_wf _
theorem UnitWf.autoTriggerExpiry (e : Nat) : UnitWf.Statement (.autoTriggerExpiry e) := unit_wf _
theorem UnitWf.captureEnd : UnitWf.Statement (.captureEnd) := unit_wf _
theorem UnitWf.captureMemoryAccess (w mask : Nat) : UnitWf.Statement (.captureMemoryAccess w mask) := unit_wf _
theorem UnitWf.memoryInitStep (at_ bad : Nat) : UnitWf.Statement (.memoryInitStep at_ bad) := unit_wf _
theorem UnitWf.memoryInitLate : UnitWf.Statement (.memoryInitLate) := unit_wf _
theorem UnitWf.bucketLeak : UnitWf.Statement (.bucketLeak) := unit_wf _
theorem UnitWf.scrubPass : UnitWf.Statement (.scrubPass) := unit_wf _
theorem UnitWf.adcRecalibration (c temp at_ : Nat) : UnitWf.Statement (.adcRecalibration c temp at_) := unit_wf _
theorem UnitWf.comparatorRecalibration (w : Nat) : UnitWf.Statement (.comparatorRecalibration w) := unit_wf _
theorem UnitWf.nvmWearLevelling : UnitWf.Statement (.nvmWearLevelling) := unit_wf _
theorem UnitWf.telemetry : UnitWf.Statement (.telemetry) := unit_wf _
theorem UnitWf.mapAgeing : UnitWf.Statement (.mapAgeing) := unit_wf _
theorem UnitWf.driftMonitor : UnitWf.Statement (.driftMonitor) := unit_wf _
theorem UnitWf.hoeOverrun (i : Nat) : UnitWf.Statement (.hoeOverrun i) := unit_wf _
theorem UnitWf.faultSourceAssert (ext : Option ExtFault) : UnitWf.Statement (.faultSourceAssert ext) := unit_wf _
theorem UnitWf.faultOccurrenceEnd (i : Nat) : UnitWf.Statement (.faultOccurrenceEnd i) := unit_wf _
theorem UnitWf.railMismatch (i : Nat) (equal : Bool) (at_ : Nat) : UnitWf.Statement (.railMismatch i equal at_) := unit_wf _
theorem UnitWf.firstErrorLatch : UnitWf.Statement (.firstErrorLatch) := unit_wf _
theorem UnitWf.dumpDone (ok : Bool) (at_ : Nat) : UnitWf.Statement (.dumpDone ok at_) := unit_wf _
theorem UnitWf.dumpTimeout : UnitWf.Statement (.dumpTimeout) := unit_wf _
theorem UnitWf.coefCommitTimeout (q : Nat) : UnitWf.Statement (.coefCommitTimeout q) := unit_wf _
theorem UnitWf.safeInputSample (levels : Nat) : UnitWf.Statement (.safeInputSample levels) := unit_wf _
theorem UnitWf.safetyCycle (rb : Nat) (rails : Bool) : UnitWf.Statement (.safetyCycle rb rails) := unit_wf _
theorem UnitWf.testPulse : UnitWf.Statement (.testPulse) := unit_wf _
theorem UnitWf.outputOffPulse (o : Nat) (off on : Bool) : UnitWf.Statement (.outputOffPulse o off on) := unit_wf _
theorem UnitWf.contactorFeedbackTimeout (o : Nat) : UnitWf.Statement (.contactorFeedbackTimeout o) := unit_wf _
theorem UnitWf.safetyRequest : UnitWf.Statement (.safetyRequest) := unit_wf _
theorem UnitWf.safeFrameReceive (n : Nat) : UnitWf.Statement (.safeFrameReceive n) := unit_wf _
theorem UnitWf.statusFrameSend : UnitWf.Statement (.statusFrameSend) := unit_wf _
theorem UnitWf.frameTimeout : UnitWf.Statement (.frameTimeout) := unit_wf _
theorem UnitWf.networkDown (n : Nat) : UnitWf.Statement (.networkDown n) := unit_wf _
theorem UnitWf.pinh (at_ : Nat) : UnitWf.Statement (.pinh at_) := unit_wf _
theorem UnitWf.resetButton (i : Nat) : UnitWf.Statement (.resetButton i) := unit_wf _
theorem UnitWf.islandLockstep : UnitWf.Statement (.islandLockstep) := unit_wf _
theorem UnitWf.safeSupplyFault : UnitWf.Statement (.safeSupplyFault) := unit_wf _
theorem UnitWf.islandResetExit (at_ : Nat) : UnitWf.Statement (.islandResetExit at_) := unit_wf _
theorem UnitWf.configRestore (good : Bool) : UnitWf.Statement (.configRestore good) := unit_wf _
theorem UnitWf.inhibitRailTest (ok : Bool) : UnitWf.Statement (.inhibitRailTest ok) := unit_wf _
theorem UnitWf.ethFrameReceive (n : Nat) (f : EthFrame) (at_ : Nat) : UnitWf.Statement (.ethFrameReceive n f at_) := unit_wf _
theorem UnitWf.ptpMessage (n : Nat) (m : PtpPdu) (at_ : Nat) : UnitWf.Statement (.ptpMessage n m at_) := unit_wf _
theorem UnitWf.ppsInEdge (at_ : Nat) : UnitWf.Statement (.ppsInEdge at_) := unit_wf _
theorem UnitWf.ptpSyncLoss : UnitWf.Statement (.ptpSyncLoss) := unit_wf _
theorem UnitWf.announceTimeout : UnitWf.Statement (.announceTimeout) := unit_wf _
theorem UnitWf.ppsOut : UnitWf.Statement (.ppsOut) := unit_wf _
theorem UnitWf.epochPoint : UnitWf.Statement (.epochPoint) := unit_wf _
theorem UnitWf.refLost (at_ : Nat) : UnitWf.Statement (.refLost at_) := unit_wf _
theorem UnitWf.refReturn (at_ : Nat) : UnitWf.Statement (.refReturn at_) := unit_wf _
theorem UnitWf.clockFrequencyError (c at_ : Nat) : UnitWf.Statement (.clockFrequencyError c at_) := unit_wf _
theorem UnitWf.searchDone (found : Bool) (code at_ : Nat) : UnitWf.Statement (.searchDone found code at_) := unit_wf _
theorem UnitWf.hopSwitch : UnitWf.Statement (.hopSwitch) := unit_wf _
theorem UnitWf.pcieLinkDown (aer : Bool) (at_ : Nat) : UnitWf.Statement (.pcieLinkDown aer at_) := unit_wf _
theorem UnitWf.payloadReadComplete (q : Nat) (res : Option (List Nat)) (at_ : Nat) : UnitWf.Statement (.payloadReadComplete q res at_) := unit_wf _
theorem UnitWf.pinhNRise (at_ : Nat) : UnitWf.Statement (.pinhNRise at_) := unit_wf _
theorem UnitWf.ethLinkChange (n : Nat) (up : Bool) (speed : Nat) : UnitWf.Statement (.ethLinkChange n up speed) := unit_wf _
theorem UnitWf.ptpMessageTransmit (m : PtpTx) : UnitWf.Statement (.ptpMessageTransmit m) := unit_wf _
theorem UnitWf.missingTwin : UnitWf.Statement (.missingTwin) := unit_wf _
theorem UnitWf.faultInjectionTimer : UnitWf.Statement (.faultInjectionTimer) := unit_wf _
theorem UnitWf.notchPhaseEnd (n : Nat) (d : Side) : UnitWf.Statement (.notchPhaseEnd n d) := unit_wf _
theorem UnitWf.refreshEnd (n : Nat) : UnitWf.Statement (.refreshEnd n) := unit_wf _
theorem UnitWf.stretchedPulseEnd (n : Nat) (d : Side) : UnitWf.Statement (.stretchedPulseEnd n d) := unit_wf _
theorem UnitWf.perstNAssertion (low : Bool) (at_ : Nat) : UnitWf.Statement (.perstNAssertion low at_) := unit_wf _
theorem UnitWf.xtal32kOscillationChange (on : Bool) : UnitWf.Statement (.xtal32kOscillationChange on) := unit_wf _

end Sys2Proof.Laws
end

