-- ==== Sys2Proof/Tests/Slice0.lean ====
section
/-!
SUPPORT. The model's own tests: an ill-formed term for each well-formedness check, and for each statement of the
certificate states and operands that meet its hypotheses.
-/
namespace Sys2Proof.Tests

open Sys2Proof Sys2Proof.Machine

/-! ### Small states -/

/-- A descriptor of this opcode. -/
def desc (op len ptr arg inl : Nat) : Desc :=
  { opcode := op, flags := 0, tag := 7, seq := 3, ptr := ptr, len := len, arg := arg, inl := inl }

/-- A started descriptor with its payload read. -/
def started (d : Desc) (b : List Nat) : Started := { d := d, addr := 0x1000, stage := .ready b, at_ := 0 }

/-- The reset state with a descriptor started on ring 2. -/
def cmdSt (x : Started) : State := State.reset.setRing 2 { cq := 1, started := some x }

/-- Registers set one after the other. -/
def regsSt (s : State) (l : List (Fld × Nat × Nat × Nat)) : State :=
  l.foldl (fun s e => s.wr e.1 e.2.2.2 e.2.1 e.2.2.1) s


/-! ### Well-formedness -/

/-- An ill-formed command for each check: a ring, vector, doorbell, point, leg, brick, window, group or core the spec
does not have. -/
theorem test_wf_refuses_core : ([.nop 32, .cqDoorbell 31 0, .cqDoorbell 64 0, .ringEnable 64, .msixUnmask 64,
    .bar2InvalidAccess 0x40000 4 true, .signalPointWrite 0x40000 0, .legCommitGo 96, .brickEnable 8,
    .windowLatchClear 224, .groupTrippedClear 32, .adcSwtrig 18 1, .mboxCfgWrite 64 0] : List Instr).all
      (fun c => !c.wf) = true := by decide

theorem test_wf_refuses_units : ([.unretire 3 0, .unblock 24, .capForce 8, .ridxWrite 16 0, .sourceActiveClear 256,
    .ethCntClr 2, .windowConditionChange 96 0 [], .windowConditionChange 224 0 [], .hardWindowCrossing 95 0 0,
    .hardWindowCrossing 192 0 0, .burstReady 0 8, .burstReady 18 0, .sensorResultPost 34, .timerExpiry 16,
    .sdiResult 16 (.clocked []) 0] : List Instr).all (fun c => !c.wf) = true := by decide

theorem test_wf_refuses_late : ([.s0Pulse 4 true 0, .captureMemoryAccess 0xe00000 0, .hoeOverrun 7,
    .outputOffPulse 4 true true, .resetButton 8, .clockFrequencyError 5 0] : List Instr).all
      (fun c => !c.wf) = true := by decide

/-- The last unit of each range is well-formed. -/
theorem test_wf_accepts : ([.nop 31, .cqDoorbell 32 0, .cqDoorbell 63 0, .ringEnable 63, .legCommitGo 95,
    .windowConditionChange 95 0 [], .windowConditionChange 192 0 [], .hardWindowCrossing 96 0 0,
    .hardWindowCrossing 191 0 0, .sensorResultPost 33, .hoeOverrun 6, .clockFrequencyError 4 0] : List Instr).all
      (·.wf) = true := by decide
/-! ### Rings -/

def ringSt (q : Nat) (l : List (Fld × Nat × Nat × Nat)) (r : RingSt) : State :=
  ((regsSt State.reset l).setReady 7 true).setRing q r

theorem test_ringEnable : (State.reset.rd RNG.CFG_ENABLE 40 = 0) ∧
    State.reset.mainOn = true ∧ (regsSt State.reset [(RNG.CFG_ENABLE, 2, 0, 1)]).rd RNG.CFG_ENABLE 2 ≠ 0 ∧
    (regsSt State.reset [(RNG.CFG_ENABLE, 2, 0, 1)]).mainOn = true := by decide

def sqSt : State := ringSt 2 [(RNG.CFG_ENABLE, 2, 0, 1)] { size := 4, cls := 1 }
def cqSt : State := ringSt 33 [(RNG.CFG_ENABLE, 33, 0, 1)] { size := 4, cls := 2, used := 3, base := 0x4000 }

theorem test_doorbells : sqSt.ready 7 = true ∧ sqSt.rd RNG.CFG_ENABLE 2 ≠ 0 ∧ 5 < (sqSt.ring 2).entries ∧
    (sqSt.ring 2).entries ≤ 16 ∧ cqSt.ready 7 = true ∧ cqSt.rd RNG.CFG_ENABLE 33 ≠ 0 ∧ 3 < (cqSt.ring 33).entries ∧
    cqSt.freed 33 3 ≤ (cqSt.ring 33).used ∧ (sqSt.ring 2).entries ≤ 99 ∧
    (State.reset.setReady 7 true).rd RNG.CFG_ENABLE 2 = 0 ∧ (State.reset.setReady 7 true).ready 7 = true := by decide

def nopD : Desc := desc 0 0 0 0 0
def fetchSt : State := ringSt 2 [(RNG.CFG_ENABLE, 2, 0, 1)] { size := 4, cls := 1, reads := [(3, 2, 0)] }

theorem test_descriptorReads : (fetchSt.ring 2).reads = (3, 2, 0) :: [] := by decide

def dispSt : State :=
  (ringSt 2 [(RNG.CFG_ENABLE, 2, 0, 1), (RNG.CFG_ENABLE, 33, 0, 1)]
    { size := 4, cls := 1, cq := 1, prefetch := [(nopD, 3)] }).setRing 33 { cls := 2 }

/-- The 32 bytes of a NOP with tag 7 and SEQ 3 in slot 1 of a read (Table 3.8). -/
theorem test_descOf : descOf (List.replicate 32 0 ++ [0x00, 0, 7, 0, 3, 0, 0, 0] ++ List.replicate 24 0) 1 = nopD := by
  decide

theorem test_writesNoHost : writesHost (.nop 0) = false ∧ ∃ t, exec (.nop 0) State.reset = .next t :=
  ⟨rfl, _, rfl⟩

theorem test_dispatch : dispSt.nextRing = some 2 ∧ (dispSt.ring 2).prefetch = (nopD, 3) :: [] ∧
    opcodeDefined nopD.opcode = true ∧ (dispSt.ring 2).seqchk = false ∧ dispSt.firstCheck nopD false = none := by decide

/-- A ring that checks SEQ and expects this one. -/
def seqSt (n : Nat) (s : State) : State := s.modRing 2 (fun r => { r with seqchk := true, expect := some n })

theorem test_dispatchSeq : ((seqSt 3 dispSt).ring 2).seqchk = true ∧ ((seqSt 3 dispSt).ring 2).expect = some nopD.seq ∧
    (seqSt 3 dispSt).firstCheck nopD false = none ∧ (seqSt 3 dispSt).nextRing = some 2 ∧ (seqSt 4 dispSt).nextRing = some 2 ∧
    ((seqSt 4 dispSt).ring 2).expect = some 4 ∧ 4 ≠ nopD.seq := by decide

def badD : Desc := { nopD with len := 3 }
def badDispSt : State := dispSt.modRing 2 (fun r => { r with prefetch := [(badD, 3)] })

theorem test_dispatchFails : badDispSt.nextRing = some 2 ∧ (badDispSt.ring 2).prefetch = (badD, 3) :: [] ∧
    opcodeDefined badD.opcode = true ∧ (badDispSt.ring 2).seqchk = false ∧ badDispSt.firstCheck badD false = some 0x11 := by
  decide

def readX : Started := { d := desc 0x22 8 0x800 0 0, addr := 0x1000, stage := .payload, at_ := 0 }

theorem test_payload : (cmdSt readX).reading 2 = some readX ∧ readX.d.len = [1, 2, 3, 4, 5, 6, 7, 8].length ∧
    ([1, 2, 3, 4, 5, 6, 7, 8] : List Nat).all (· < 256) = true ∧ ((cmdSt readX).ring 2).reads = [] := by decide

def cplC : Cpl := { q := 2, cq := 1, tag := 7, seq := 3, status := 0, result := 9, irq := false, dtLo := 0 }
def cplSt : State := { cqSt with cplQ := [cplC] }

theorem test_completionWrite : cplSt.cplQ = cplC :: [] ∧ cplC.cq = 33 - 32 ∧ cplSt.ringIs 33 2 = true ∧
    (cplSt.ring 33).used < (cplSt.ring 33).entries ∧ cplSt.queueRoom 82 = true ∧ cplSt.rd RNG.STAT_ARMED 33 = 0 ∧
    cplSt.rd RNG.DEVIDX 33 + 1 ≠ (cplSt.ring 33).entries ∧
    (cplSt.wr RNG.DEVIDX 15 33).rd RNG.DEVIDX 33 + 1 = (cplSt.ring 33).entries := by decide

/-- The same ring armed, at the count that sends its message. -/
def armSt : State :=
  regsSt cplSt [(RNG.CFG_IRQEN, 33, 0, 1), (RNG.STAT_ARMED, 33, 0, 1), (RNG.MOD_MOD_CNT, 33, 0, 1), (MSIX.CTRL, 0, 0, 0),
    (MSIX.ADDR, 0, 0, 0x400), (MSIX.DATA, 0, 0, 0x55)]

theorem test_completionArmed : armSt.cplQ = cplC :: [] ∧ armSt.ringIs 33 2 = true ∧ armSt.queueRoom 82 = true ∧
    armSt.rdB RNG.STAT_ARMED 33 = true ∧ armSt.rdB RNG.CFG_IRQEN 33 = true ∧
    armSt.rdB MSIX.CTRL (armSt.rd RNG.CFG_VECTOR 33) = false ∧
    (armSt.modRing 33 (fun r => { r with unsig := r.unsig ++ [armSt.now], irq := r.irq || cplC.irq })).irqDue 33 = true := by
  decide

def evE : EvRec := ⟨evWord 0x05 [(1, 1, 2)] 0⟩
def evSt : State :=
  { ringSt 40 [(RNG.CFG_ENABLE, 40, 0, 1), (RNG.EVSEL, 40, 0, 1), (RNG.SEQ, 40, 0, 1)] { size := 4, cls := 3 } with
    evq := [evE] }
def lostSt : State := evSt.modRing 40 (fun r => { r with lostNow := 2 })

theorem test_eventRecords : evSt.evq = evE :: [] ∧ (evGroup (evE.body.toNat % 256)).bind evSt.evRing = some 40 ∧
    (evSt.ring 40).lostNow = 0 ∧ evSt.evRoom 40 1 = true ∧ evSt.queueRoom 82 = true ∧ lostSt.queueRoom 82 = true ∧ evSt.rd RNG.STAT_ARMED 40 = 0 ∧
    (evGroup (evE.body.toNat % 256)).bind ({ State.reset with evq := [evE] } : State).evRing = none ∧
    lostSt.ringIs 40 3 = true ∧ 0 < (lostSt.ring 40).lostNow ∧ lostSt.evRoom 40 1 = true ∧
    lostSt.rd RNG.STAT_ARMED 40 = 0 := by decide

def irqSt : State :=
  ringSt 33 [(RNG.CFG_ENABLE, 33, 0, 1), (RNG.CFG_IRQEN, 33, 0, 1), (RNG.STAT_ARMED, 33, 0, 1), (RNG.MOD_MOD_TIME, 33, 0, 4),
    (MSIX.CTRL, 0, 0, 0), (RNG.MOD_MOD_CNT, 33, 0, 8)] { cls := 2, unsig := [100] }
def pbaSt : State := State.reset.wr PBA.PBA 8

theorem test_interrupts : irqSt.rd RNG.MOD_MOD_TIME 33 ≠ 0 ∧ (irqSt.ring 33).unsig = 100 :: [] ∧
    irqSt.rd RNG.CFG_ENABLE 33 ≠ 0 ∧ irqSt.rd RNG.CFG_IRQEN 33 ≠ 0 ∧ irqSt.rd RNG.STAT_ARMED 33 ≠ 0 ∧
    irqSt.rd MSIX.CTRL (irqSt.rd RNG.CFG_VECTOR 33) = 0 ∧ (pbaSt.rd PBA.PBA).testBit 3 = true := by decide

/-! ### Register access -/

theorem test_badAccess : State.reset.mainOn = true ∧ bar0Ok 0x204 3 = false ∧ bar0Ok 0x40002 4 = false ∧
    bar0Ok 0x0203F0 4 = true ∧ (fldsAt 0x0203F0).isEmpty = true ∧ State.reset.absentAt 0x0203F0 = false ∧
    State.reset.bridgeStops 0x0203F0 = false ∧ inWindow 0x0203F0 = false ∧ fldsAt 0x0B0C00 = [] ∧ bar0Ok 0x0B0C00 4 = true ∧
    (bridgeAt 0x0B0C00).isSome = true := by decide

def stopSt : State := { State.reset with halts := [.ckSys] }
def offSt : State := { State.reset with mm := { State.reset.mm with cur := .keepalive } }
def smallSt : State := { State.reset with variant := .S }

theorem test_badAccess_held : smallSt.absentAt 0x120000 = true ∧ smallSt.bridgeStops 0x120000 = false ∧ smallSt.mainOn = true ∧
    bar0Ok 0x120000 4 = true ∧ bridgeAt 0x080000 = some 77 ∧ stopSt.bridgeHalted 77 = true ∧ stopSt.mainOn = true ∧
    offSt.mainOn = false := by decide

theorem test_plainAt : PlainAt State.reset 0x041054 SRC.WIN 5 0 ∧ SRC.WIN.acc = .rw ∧ hookOf SRC.WIN = none := by
  unfold PlainAt
  exact ⟨⟨by decide, by decide, by decide, by decide, by decide, rfl, by decide, by decide, by decide, by decide, by decide,
    by decide, by decide, by decide⟩, rfl, rfl⟩

theorem test_plainAt_rwl : PlainAt State.reset 0x040024 FLT.INJ_HOLD 0 0 ∧ FLT.INJ_HOLD.acc = .rwl .f ∧
    hookOf FLT.INJ_HOLD = none ∧ State.reset.modeAdmits .f = false ∧
    ({ State.reset with mm := { State.reset.mm with cur := .factory } } : State).modeAdmits .f = true ∧
    State.reset.rd FLT.INJ_HOLD < 2 ^ FLT.INJ_HOLD.width ∧
    FLT.INJ_HOLD.chk.apply 0 0 FLT.INJ_HOLD.width (State.reset.rd FLT.INJ_HOLD) (State.reset.rd FLT.INJ_HOLD) =
      State.reset.rd FLT.INJ_HOLD := by
  unfold PlainAt
  exact ⟨⟨by decide, by decide, by decide, by decide, by decide, rfl, by decide, by decide, by decide, by decide, by decide,
    by decide, by decide, by decide⟩, rfl, rfl, by decide, by decide, by decide, by decide⟩

theorem test_plainAt_w1c : PlainAt State.reset 0x0C0208 ESP.NFLT 0 2 ∧ ESP.NFLT.acc = .w1c ∧ hookOf ESP.NFLT = none := by
  unfold PlainAt
  exact ⟨⟨by decide, by decide, by decide, by decide, by decide, rfl, by decide, by decide, by decide, by decide, by decide,
    by decide, by decide, by decide⟩, rfl, rfl⟩

theorem test_plainAt_wo : PlainAt State.reset 0x04001C FLT.CNT_CLR 0 0 ∧ FLT.CNT_CLR.acc = .wo ∧
    (hookOf FLT.CNT_CLR).isSome = true ∧ woModes FLT.CNT_CLR = none ∧
    FLT.CNT_CLR.chk.apply 0 0 FLT.CNT_CLR.width 0 1 = 1 := by
  unfold PlainAt
  exact ⟨⟨by decide, by decide, by decide, by decide, by decide, rfl, by decide, by decide, by decide, by decide, by decide,
    by decide, by decide, by decide⟩, rfl, rfl, rfl, by decide⟩

theorem test_plainAt_ro : PlainAt State.reset 0x04105C SRC.TOTAL 5 0 ∧ SRC.TOTAL.acc = .ro := by
  unfold PlainAt
  exact ⟨⟨by decide, by decide, by decide, by decide, by decide, rfl, by decide, by decide, by decide, by decide, by decide,
    by decide, by decide, by decide⟩, rfl⟩

theorem test_plainField : PlainField State.reset 0x041054 SRC.WIN 5 0 ∧ SRC.WIN.acc = .rw := by
  unfold PlainField
  exact ⟨⟨by decide, by decide, by decide, by decide, by decide, rfl, by decide, by decide, by decide, rfl, rfl, by decide,
    by decide, by decide, by decide⟩, rfl⟩

theorem test_plainRo : PlainField State.reset 0x04105C SRC.TOTAL 5 0 ∧ SRC.TOTAL.acc = .ro := by
  unfold PlainField
  exact ⟨⟨by decide, by decide, by decide, by decide, by decide, rfl, by decide, by decide, by decide, rfl, rfl, by decide,
    by decide, by decide, by decide⟩, rfl⟩

def cmdX (op len ptr arg inl : Nat) (b : List Nat) : Started := started (desc op len ptr arg inl) b

/-- A command that is ready on ring 2. -/
theorem ready_cmd (op len ptr arg inl : Nat) (b : List Nat) :
    Ready (cmdSt (cmdX op len ptr arg inl b)) 2 op (cmdX op len ptr arg inl b) b := by
  simp [Ready, State.cmdOf, cmdSt, cmdX, started, desc]

theorem test_globalOpcodes : opcodeDefined 0x04 = false ∧ bits 0x0204 0 24 ≤ 0x14FFFF ∧ bits 0x0204 0 24 % 4 = 0 ∧
    (cmdSt (cmdX 0x02 0 0 0 0 [])).rd FLT.STAT_FATAL_HOLD = 0 := by decide

def batchB : List Nat := leBytes 0x041054 4 ++ [4, 0, 0, 0] ++ leBytes 5 8

def restartSt : State :=
  { (cqSt.modRing 2 (fun _ => { cq := 1, started := some (cmdX 0x02 0 0 0 0 []) })) with cplQ := [] }

theorem test_restart : restartSt.ringIs (32 + (restartSt.ring 2).cq) 2 = true ∧ (restartSt.ring 2).cq < 32 ∧
    (restartSt.ring 33).used < (restartSt.ring 33).entries ∧ restartSt.queueRoom 82 = true ∧ restartSt.cmdOf 2 0x02 = some (cmdX 0x02 0 0 0 0 [], []) ∧
    (cmdSt (cmdX 0x02 0 0 0 0 [])).ringIs (32 + 1) 2 = false ∧
    ({ cplSt with flt := { cplSt.flt with restartQ := some 2 } } : State).flt.restartQ = some cplC.q := by decide

def quietX : Started := { cmdX 0x02 0 0 0 0 [] with d := { (cmdX 0x02 0 0 0 0 []).d with flags := 4 } }

theorem test_restartQuiet : Ready (cmdSt quietX) 2 0x02 quietX [] ∧ (cmdSt quietX).rd FLT.STAT_FATAL_HOLD = 0 ∧
    (cmdSt quietX).cplQ = [] ∧ bit quietX.d.flags 2 = true :=
  ⟨⟨by decide, by decide⟩, by decide, by decide, by decide⟩

theorem test_batches : batchB.length = 16 ∧ leAt batchB 0 4 = 0x041054 ∧ leAt batchB 4 1 = 4 ∧ leAt batchB 5 3 = 0 ∧
    leAt batchB 8 8 < 2 ^ SRC.WIN.width ∧ 0x14FFFF < leAt (leBytes 0x200000 4 ++ [4, 0, 0, 0] ++ leBytes 5 8) 0 4 := by decide

/-! ### Espalier -/

/-- An image of one node of type 0x13 with outputs at SP 0x34000, in one software cadence of 1 kHz. -/
def imgBody : List Nat :=
  leBytes 0x47505345 4 ++ leBytes 0x0100 2 ++ [0, 0] ++ leBytes 132 4 ++ leBytes 1 2 ++ [1, 0] ++ leBytes 0 4 ++ leBytes 64 4 ++
  leBytes 128 4 ++ leBytes 96 4 ++ leBytes 128 4 ++ leBytes 0 4 ++ leBytes 1 4 ++ leBytes 0 2 ++ [0, 0] ++ leBytes 0x1234 4 ++
  List.replicate 12 0 ++
  ([0x13, 0, 0, 4] ++ leBytes 0 2 ++ [0, 0] ++ leBytes 0x34000 4 ++ leBytes 0x5000 4 ++ leBytes 0x20000 4 ++ leBytes 0 2 ++
    leBytes 6 2 ++ leBytes 0 4 ++ List.replicate 4 0) ++
  ([7, 0] ++ leBytes 1 2 ++ leBytes 0 4 ++ leBytes 0x447A0000 4 ++ List.replicate 20 0)
def img : List Nat := imgBody ++ leBytes (crc32 imgBody) 4

set_option maxRecDepth 20000 in
theorem test_image : (checkImage img 132).isRight = true ∧ checkImage [] 0 = .inl (0x01, 0) := by decide

/-- A node that owns SP 0x20100 and SP 0x20101, and a PWO node of leg 5 in mode 0. -/
def gainN : NodeCfg :=
  { type := 0x10, cad := 0, nOut := 1, edges := [], nState := 1, outBase := 0x34100, stateBase := 0x5100,
    coefBase := 0x20100, nCoef := 2, cost := 5, param := 0 }
def pwoN : NodeCfg :=
  { type := 0x16, cad := 0, nOut := 4, edges := [], nState := 1, outBase := 0x34200, stateBase := 0x5200,
    coefBase := 0x20200, nCoef := 0, cost := 8, param := 5 }
def swCad : CadCfg := { src := 7, loop := true, prio := 0, div := 1, arg := 0, rate := 0x447A0000 }
def grp : Graph := { id := 1, nodes := [gainN, pwoN], cads := [swCad], inits := [] }
def espOf (s : State) (e : EspSt) : State := { s with esp := { e with graph := some grp } }
def pwoT : TaskSt :=
  { node := 1, cad := 0, num := 4, ins := [0x3F000000], coefs := [], env := [128000], step := none, openDt := 0,
    tag := some 0, readyAt := 0, readyDt := 0 }
def pointSt (op len arg inl : Nat) (b : List Nat) : State := cmdSt (cmdX op len 0x800 arg inl b)

theorem test_points : bits 3 0 18 + 8 / 4 ≤ 0x40000 ∧ partOf 0x30005 = .setpoint ∧ partOf 0x38005 = .scratch ∧
    partOf 5 = .sensor ∧ bindable (bits 0x1000005 0 24) = true ∧ bit 0x1000005 24 = true ∧ bindable 0x30000 = false ∧
    State.reset.rd ESP.MBOX_CFG_SP 0 3 ≠ 0x30000 ∧ State.reset.mainOn = true ∧ mboxPoint (bits 0x80000005 0 18) = true ∧
    bit 0x80000005 31 = true ∧ State.reset.bridgeHalted 78 = false ∧ bit 0x5 24 = false ∧ bindable (bits 0x5 0 24) = true := by decide

def boxU : MboxUpd := { box := 3, point := 5, value := 9, seq := 2 }
def boxSt : State :=
  { regsSt State.reset [(ESP.MBOX_CFG_EN, 0, 3, 1), (ESP.MBOX_CFG_SP, 0, 3, 5)] with esp := { mboxQ := [boxU] } }

theorem test_mailbox : boxSt.esp.mboxQ = boxU :: [] ∧ boxSt.rd ESP.MBOX_CFG_EN 0 3 ≠ 0 ∧
    boxSt.rd ESP.MBOX_CFG_SP 0 3 = boxU.point ∧ (boxSt.wr ESP.MBOX_CFG_EN 0 0 3).rd ESP.MBOX_CFG_EN 0 boxU.box = 0 := by
  decide

def stbySt (s : State) : State := { s with mm := { s.mm with cur := .standby } }

def loadSt (s : State) : State := { s with esp := { s.esp with loading := some 2 } }
def resetNode : State := { espOf (State.reset.wr ESP.CADEN 1) { nodes := [(0, { reset := true })] } with cadTrigs := [(0, 9)] }

theorem test_graphModes : (stbySt (pointSt 0x20 132 0 0 img)).modeAdmits .ssf = true ∧
    (pointSt 0x20 132 0 0 img).modeAdmits .ssf = false ∧ (espOf State.reset {}).nodes[0]? = some gainN ∧
    (stbySt (pointSt 0x20 132 0 0 img)).esp.loading = none ∧ (loadSt (pointSt 0x20 132 0 0 img)).esp.loading = some 2 ∧
    (espOf State.reset {}).nodes[5]? = none ∧ firstTrig resetNode.cadTrigs = some ((0, 9), []) ∧
    (resetNode.nodeSt 0).reset = true ∧ (resetNode.nodeSt 1).reset = false ∧ 0x5000 ≤ gainN.stateBase ∧
    gainN.stateBase + gainN.nState ≤ 0x20000 := by decide

def commitC : CommitSt := { nodes := [0], swapped := 0, ring := some 2, at_ := 0, bad := false }

theorem test_coefs : 0x20101 < calBase ∧ (espOf State.reset {}).nodes.all (fun n => !n.owns 0x20300) = true ∧
    gainN.owns 0x20101 = true ∧ bit 1 gainN.cad = true ∧ bit 2 gainN.cad = false ∧
    (([] : List CommitSt).all (fun k => k.ring ≠ some 2)) = true ∧
    Ready (espOf (pointSt 0x22 8 0 0 (leBytes 0x20101 4 ++ leBytes 9 4)) {}) 2 0x22
      (cmdX 0x22 8 0x800 0 0 (leBytes 0x20101 4 ++ leBytes 9 4)) (leBytes 0x20101 4 ++ leBytes 9 4) :=
  ⟨by decide, by decide, by decide, by decide, by decide, by decide, by decide, by decide⟩

def touchSt : State := espOf State.reset { touched := [0] }
def commitSt : State := espOf (pointSt 0x23 0 0 1 []) { commits := [commitC], touched := [0] }

theorem test_commits : touchSt.mainOn = true ∧ touchSt.bridgeHalted 78 = false ∧ 0 ∈ touchSt.esp.touched ∧
    touchSt.nodes[0]? = some gainN ∧ commitSt.esp.commits = commitC :: [] ∧ commitC.ring = some 2 ∧
    (commitSt.ring 2).started = some (cmdX 0x23 0 0x800 0 1 []) ∧ 0 ∈ commitSt.esp.touched ∧
    (∀ i n, i ∈ commitSt.esp.touched → commitSt.nodes[i]? = some n → n.cad = 0) := by
  refine ⟨by decide, by decide, by decide, by decide, by decide, by decide, by decide, by decide, ?_⟩
  intro i n hi hn
  have e : i = 0 := by simpa [commitSt, espOf] using hi
  subst e
  have e : commitSt.nodes[0]? = some gainN := by decide
  rw [e] at hn
  cases hn
  decide

def sampSt : State :=
  { espOf (State.reset.wr ESP.CADEN 1) {} with cadTrigs := [(0, 0)] }
def readySt : State := espOf State.reset { tasks := [pwoT] }
def runSt : State := espOf State.reset { tasks := [{ pwoT with stage := .running 0 }] }
def rmpT : TaskSt := { pwoT with node := 0, ins := [fOne], env := [], coefs := [fOne, fOne], stage := .running 0 }
def rmpSt : State := espOf State.reset { tasks := [rmpT] }
def fullSt : State := { runSt with cmpQ := [(0, List.replicate 16 (.pwo 5 0 0))] }
def repR : PeriodReport := { point := 0x41C0, dur := 128000, dtLo := 7, num := 3 }

theorem test_samples : firstTrig sampSt.cadTrigs = some ((0, 0), []) ∧ sampSt.esp.graph = some grp ∧ grp.cads[0]? = some swCad ∧
    sampSt.espHalted = false ∧ bit (sampSt.rd ESP.CADEN) 0 = true ∧ (sampSt.cadSt 0).trigs % swCad.div = 0 ∧
    readySt.nextTask = some pwoT ∧ readySt.laneEnds.length < 8 ∧
    runSt.firstEnd = some ({ pwoT with stage := .running 0 }, pwoN, cyclesH 56) ∧ runSt.taskBlocked pwoN = false ∧
    fullSt.firstEnd = some ({ pwoT with stage := .running 0 }, pwoN, cyclesH 56) ∧ fullSt.taskBlocked pwoN = true ∧
    (State.staleReport { State.reset with reports := [repR] } repR) = false ∧
    (State.reset.staleReport { repR with point := 0x3E04 }) = true ∧
    fIsNaN (nClamp 0 fOne (pwoT.ins.getD 0 0)) = false ∧ fIsNaN (nClamp 0 fOne (pwoT.ins.getD 1 0)) = false := by decide

theorem test_plainNode : rmpSt.firstEnd = some (rmpT, gainN, cyclesH 53) ∧
    [1, 2, 4, 5, 6, 7, 8, 9, 10, 11, 12, 13, 14, 16].contains gainN.type = true ∧ rmpSt.taskBlocked gainN = false ∧
    Effect.badValue { fired := nodePlain gainN.type (rmpSt.firingOf gainN rmpT) rmpT.fresh false } gainN
      (rmpSt.firingOf gainN rmpT) = none ∧ 0x34000 ≤ gainN.outBase ∧ (rmpSt.to (cyclesH 53)).hostStands gainN.outBase = false ∧
    (nodePlain gainN.type (rmpSt.firingOf gainN rmpT) rmpT.fresh false).outs[0]? ≠ none := by decide

/-! ### Legs, bricks and gate links -/

def legS (n : Nat) (l : LegSt) : State := State.reset.setLeg n l
def pairSt (g : Bool) : State := regsSt (legS 5 { guard := g }) [(LEG.CMP_ON, 5, 0, 1000), (LEG.CMP_OFF, 5, 0, 9000)]
def pairX : Started := cmdX 0x40 0 0 5 (9000 * 2 ^ 32 + 1000) []
def setX : Started := cmdX 0x41 8 0x800 0 0 (leBytes 1000 3 ++ [5] ++ leBytes 9000 3 ++ [0])

theorem test_pairs : ((pairSt false).leg 5).dcOwn = false ∧ ((pairSt false).leg 5).guard = false ∧
    ((pairSt true).leg 5).guard = true ∧ (pairSt false).rd LEG.CMP_ON 5 < 2 ^ 24 ∧ (pairSt false).rd LEG.CMP_OFF 5 < 2 ^ 24 ∧
    ((cmdSt pairX).leg (bits pairX.d.arg 0 7)).dcOwn = false ∧ ((cmdSt setX).leg 5).guard = false ∧
    (pairSt false).bridgeHalted 77 = false ∧ (pairSt false).guardDue 5 = false ∧ (cmdSt pairX).bridgeHalted 77 = false ∧
    (cmdSt pairX).guardDue 5 = false ∧ (cmdSt setX).guardDue 5 = false ∧
    ({ pairSt false with halts := [.ckSys] } : State).bridgeHalted 77 = true := by decide

theorem test_pairsReady : Ready (cmdSt pairX) 2 0x40 pairX [] ∧
    Ready (cmdSt setX) 2 0x41 setX (leBytes 1000 3 ++ [5] ++ leBytes 9000 3 ++ [0]) :=
  ⟨⟨by decide, by decide⟩, by decide, by decide⟩

def cmpSt : State := { State.reset with cmpQ := [(0, [.pwo 5 1000 9000])] }

theorem test_compareQueue : tgetD cmpSt.cmpQ 0 [] = .pwo 5 1000 9000 :: [] ∧ (cmpSt.leg 5).dcOwn = false ∧
    (cmpSt.leg 5).guard = false ∧ cmpSt.mainOn = true := by decide

def ctlSt (e : CmpEntry) : State := { State.reset with cmpQ := [(0, [e])] }

theorem test_controlEntries : tgetD (ctlSt (.target 5 1024)).cmpQ 0 [] = .target 5 1024 :: [] ∧
    tgetD (ctlSt (.sup 5 .active)).cmpQ 0 [] = .sup 5 .active :: [] ∧ (cmpSt.leg 5).hostTick ≠ some (cmpSt.pw / 32) ∧
    ((cmpSt.setLeg 5 { hostTick := some 0 }).leg 5).hostTick = some ((cmpSt.setLeg 5 { hostTick := some 0 }).pw / 32) ∧
    cmpSt.guardDue 5 = false ∧ cmpSt.bridgeHalted 77 = false ∧ (cmpSt.wr LEG.ROLE 4 5).role 5 = 4 ∧
    cmpSt.rd LEG.CFG_OWNPER 5 = 0 := by decide

def runBrk (k : Nat) (b : BrkSt) : State :=
  (regsSt State.reset [(BRK.CTRL_ENABLE, k, 0, 1), (BRK.STATUS_RUN, k, 0, 1)]).setBrk k b

theorem test_brickSwitch : State.reset.rd BRK.CTRL_ENABLE 3 = 0 ∧ State.reset.rd BRK.SYNC_SRC 3 = 0 ∧ State.reset.halts = [] ∧
    (runBrk 3 {}).rd BRK.CTRL_ENABLE 3 ≠ 0 ∧ 40 / 12 = 3 ∧ ((runBrk 3 {}).leg 40).sigPulse = none ∧
    ((runBrk 3 {}).side 40 .low).notch = 0 ∧ State.reset.mainOn = true ∧ (runBrk 3 {}).mainOn = true ∧
    (runBrk 3 {}).bridgeHalted 77 = false := by decide

/-- A brick whose START falls due in 10 t, and a pair that comes then. -/
theorem test_guardDue : ((runBrk 3 { start := 0 }).to 639680).guardDue 40 = true ∧
    (((runBrk 3 { start := 0 }).to 639680).leg 40).dcOwn = false := by decide

def haltSt (k : Nat) : State := { (runBrk k {}).wr BRK.STATUS_FREEZING 1 k with halts := [.debug] }
def contSt : State := { runBrk 3 {} with dcTaken := false }

theorem test_halts : HaltCause.ckSys ∉ (runBrk 3 {}).halts ∧ (runBrk 3 {}).rd BRK.STATUS_RUN 3 ≠ 0 ∧
    (runBrk 3 {}).rd BRK.STATUS_HALTED 3 = 0 ∧ (runBrk 3 {}).rd BRK.HALT 3 = 0 ∧ (haltSt 3).halts = [.debug] ∧ (haltSt 3).bridge = [] ∧ (haltSt 3).mm.cur ≠ .prestart ∧
    (haltSt 3).bridgeHalted 77 = false ∧ HaltCause.debug ∉ (runBrk 3 {}).halts ∧
    (contSt.wr BRK.STATUS_FREEZING 1 3).contactorsOpen = false ∧ (contSt.wr BRK.STATUS_FREEZING 1 3).rd BRK.STATUS_FREEZING 3 ≠ 0 ∧
    ({ State.reset with mm := { State.reset.mm with cur := .service } } : State).mm.cur = .service := by decide

def ownSt (l : LegSt) : State := regsSt (legS 5 l) [(LEG.ROLE, 5, 0, 4), (LEG.CFG_OWNPER, 5, 0, 1)]

theorem test_reloads : HaltCause.ckPwm ∉ (runBrk 3 { midNext := true }).halts ∧ (runBrk 3 { midNext := true }).rd BRK.STATUS_RUN 3 ≠ 0 ∧
    (State.reset.setBrk 3 { first := some 3200 }).rd BRK.STATUS_RUN 3 = 0 ∧
    ((State.reset.setBrk 3 { first := some 3200 }).brk 3).first = some 3200 ∧
    ((runBrk 3 { midNext := true }).brk 3).midNext = true ∧ ((runBrk 3 { midNext := true }).brk 3).guard = false ∧
    (runBrk 3 { midNext := true }).ownLeg 40 = false ∧ ((legS 5 { ownRun := true }).leg 5).ownRun = true ∧
    (ownSt { ownRun := true }).ownLeg 5 = true ∧ ((ownSt { ownFirst := some 64 }).leg 5).ownFirst ≠ none := by decide

/-- Leg 5 of a running brick in SERVICE with taken contactors, its DT_RISE 0. -/
def goSt (l : LegSt) : State :=
  regsSt { legS 5 l with mm := { State.reset.mm with cur := .service }, saf := { State.reset.saf with up := true } }
    [(SAF.STAT_INHIBIT, 0, 0, 0), (SAF.STAT_DC, 0, 0, 1), (SAF.STAT_AC, 0, 0, 1), (BRK.CTRL_ENABLE, 0, 0, 1), (BRK.STATUS_RUN, 0, 0, 1), (BRK.GCFG_DRV, 0, 0, 1), (LEG.ROLE, 5, 0, 1), (LEG.CFG_LS_EN, 5, 0, 1),
      (LEG.ACTIVE_ON, 5, 0, 1000), (LEG.ACTIVE_OFF, 5, 0, 300000), (BRK.PERIOD_NOW, 0, 0, 640000), (LEG.MAXON, 5, 0, 500000)]
def onS : SideSt := { on := true, lvl := true, turnOff := some 50000 }
def dueS : SideSt := { turnOn := some 40000 }
def stuckS : SideSt := { lvl := true, offOk := false }

theorem test_edges : (goSt {}).nextEdge 5 = some (1000, true) ∧ (goSt {}).rdB LEG.STATUS_HC 5 ≠ true ∧
    ((goSt { high := dueS }).side 5 .high).turnOn = some 40000 ∧ ((goSt { high := dueS }).side 5 .high).waiting = false ∧
    (goSt { high := dueS }).holdRow 5 = 0 ∧ (goSt { high := dueS }).sideHeld 5 .high = false ∧
    (goSt { high := dueS }).offLimit 5 .high ≤ 40000 ∧ (goSt { high := dueS }).oppOff 5 .high = true ∧
    ((goSt { high := onS }).side 5 .high).turnOff = some 50000 ∧ ((goSt { high := onS }).side 5 .high).on = true ∧
    ((goSt { low := { notch := 2 } }).side 5 .low).notch = 2 ∧ ((goSt { low := { notch := 1 } }).side 5 .low).notch = 1 ∧
    ((goSt { low := { alive := some 900 } }).side 5 .low).alive = some 900 ∧
    (goSt { high := dueS, low := stuckS }).oppExists 5 .high = true ∧
    (goSt { high := dueS, low := stuckS }).oppOff 5 .high = false ∧ ((goSt { high := dueS, low := stuckS }).side 5 .low).on = false ∧
    ((goSt { high := dueS, low := stuckS }).side 5 .high).turnOn = some 40000 ∧
    ((goSt { high := dueS, low := stuckS }).side 5 .low).notch = 0 ∧ ((goSt { high := { dueS with turnOff := some 41000 } }).side 5 .high).on = false ∧
    ((goSt { high := { dueS with turnOff := some 41000 } }).side 5 .high).turnOff = some 41000 ∧
    ((goSt { low := { alive := some 900 } }).to 900).aliveOmit 5 .low 900 = false ∧
    (((goSt { low := { alive := some 900, turnOn := some 1000 } }).to 900).aliveOmit 5 .low 900) = true ∧
    (goSt { high := onS }).rd LEG.MAXON 5 ≠ 0 ∧ ((goSt { high := onS }).leg 5).refresh = none := by decide

def refR : RefreshSt := { side := .high, opp := false, until_ := some 70000 }

theorem test_refresh : ((goSt { refresh := some refR }).leg 5).refresh = some refR ∧ refR.until_ = some 70000 := by decide

def vledSt : State := State.reset.setBrk 3 { vledLow := some 0 }

theorem test_status : ((goSt {}).side 5 .low).lvl ≠ (true != (goSt {}).rdB BRK.GCFG_SPOL (5 / 12)) ∧
    ((goSt { low := { pulse := some (0, 12800) } }).side 5 .low).pulse = some (0, 12800) ∧
    (goSt { low := { pulse := some (0, 12800) } }).decodes 5 = true ∧ pulseClass (12800 - 0) = some .uvlo ∧
    pulseClass (5000 - 0) = some .malf ∧ ((goSt { low := { lvl := true, pulseAt := some 0 } }).side 5 .low).pulseAt = some 0 ∧
    (false != (goSt {}).rdB BRK.GCFG_SPOL (5 / 12)) = false ∧
    ((goSt { low := { on := true, confirmBy := some 900 } }).side 5 .low).confirmBy = some 900 ∧
    ((goSt { low := { on := true, confirmBy := some 900 } }).side 5 .low).on = true ∧
    ((goSt { low := { on := true, confirmBy := some 900 } }).side 5 .low).confirmed = false ∧
    ((goSt { low := { lvl := true, stuckBy := some 900 } }).side 5 .low).stuckBy = some 900 ∧
    ((goSt { low := { lvl := true, stuckBy := some 900 } }).side 5 .low).lvl = true ∧
    ((goSt { low := { lastUvlo := some 900 } }).side 5 .low).lastUvlo = some 900 ∧ bit 127 6 = true ∧
    bit (((goSt {}).wr LEG.GSTAT_L 64 5).rd LEG.GSTAT_L 5) 6 = true ∧
    (goSt {}).mainOn = true ∧ (goSt {}).bridgeHalted 77 = false ∧ vledSt.now ≤ 30000 ∧ 100 < 20 * (vledSt.wr BRK.GCFG_VLED_UVT 100 3).rd BRK.GCFG_VLED_UVT 3 ∧
    (vledSt.brk 3).vledLow = some 0 ∧ 0 + 2 * usH ≤ 30000 ∧ vledSt.rd BRK.VLED_UV 3 = 0 := by decide

/-! ### Faults, windows and groups -/

def facSt (s : State) : State := { s with mm := { s.mm with cur := .factory } }
def fltCmd (op len arg inl : Nat) : State := cmdSt (cmdX op len 0x800 arg inl [])
def recR : FltRec := { src := 5, code := 1, flags := 0, cls := 1, rep := 0, dt := 9 }
def telSt : State :=
  ((evSt.wr RNG.EVSEL (2 ^ 9) 40).setRing 2 { cq := 1, started := some (cmdX 0x90 0 0x800 0 0 []) })

theorem test_faultOpcodes : bit 3 1 = true ∧ (facSt (fltCmd 0x82 0 5 0x10101)).mm.cur = .factory ∧
    (fltCmd 0x82 0 5 0x10101).mm.cur ≠ .factory ∧ (fltCmd 0x82 0 5 0x10101).flt.inj = none ∧ bits 0x10101 0 8 ≤ 3 ∧
    1 ≤ bits 0x10101 8 8 ∧ 1 ≤ bits 0x10101 16 16 ∧ telSt.evRing 9 = some 40 ∧
    telSt.evRoom 40 (telSt.evWaiting 40 + b2n (0 < (telSt.ring 40).lostNow) + 1) = true ∧ State.reset.evRing 9 = none ∧
    telSt.cmdOf 2 0x90 = some (cmdX 0x90 0 0x800 0 0 [], []) := by decide

def fltE : FltEv := { src := 5, code := 1, dt := 9, at_ := 3, asserts := true }
def fltSt (c : CollSt) : State := { State.reset with flt := c }
def occSt : State := (fltSt { src := [(5, { occEnd := some 700 })] }).wr SRC.STAT_ASSERTED 1 5
def candC : FirstCand := { src := 5, code := 1, cls := 2, dt := 9, at_ := 3 }

theorem test_faultEvents : (fltSt { queue := [fltE] }).flt.queue = fltE :: [] ∧ fltE.asserts = true ∧ fltE.src < 203 ∧
    (fltSt { queue := [fltE] }).rd SRC.CFG_N 5 ≤ 1 ∧ (fltSt {}).flt.queue = [] ∧ (occSt.fsrc 5).occEnd = some 700 ∧
    (occSt.fsrc 5).causes = [] ∧ occSt.rd SRC.STAT_WIRE 5 = 0 ∧ occSt.srcPresent 5 = true ∧ occSt.flt.queue.length < 256 ∧
    bestCand (fltSt { first := [candC] }).flt.first = some (candC, false) ∧
    (occSt.wr SRC.STAT_ACTIVE 1 5).mainOn = true ∧ (occSt.wr SRC.STAT_ACTIVE 1 5).rd SRC.STAT_ACTIVE 5 = 1 := by decide

def injJ (on : Bool) (left : Nat) : InjSt := { src := 5, kind := 0, left := left, hold := 1, on := on, at_ := 0 }
def dumpSt (b : Option (Nat × Nat)) : State :=
  (fltSt { dumpSrc := some (5, 1, 9), dumpBuf := b }).wr FLT.STAT_FATAL_HOLD 1

theorem test_dump : (facSt State.reset).flt.inj = none ∧ (fltSt { inj := some (injJ true 0) }).flt.inj = some (injJ true 0) ∧
    (injJ true 0).on = true ∧ (injJ true 0).left = 0 ∧ (injJ false 3).on = false ∧
    (dumpSt (some (0x1000, 0x400000))).dumping = some (5, 1, 9) ∧ (dumpSt none).dumping = some (5, 1, 9) ∧
    (dumpSt none).mgmtHalted = false ∧ (dumpSt (some (0x1000, 0x400000))).mgmtHalted = false ∧ (facSt State.reset).mm.cur = .factory ∧
    State.reset.mm.cur ≠ .factory ∧ State.reset.mainOn = true ∧ (dumpSt none).flt.dumpBuf = none ∧ (dumpSt none).out = [] := by decide

def winSt (w : Nat) (c : CwSt) : State :=
  regsSt (State.reset.setCw w c) [(CW.CFG_M, w, 0, 1), (CW.CFG_EN_HI, w, 0, 1), (CW.THR_HIGH, w, 0, 100), (CW.STAT_LATCH, w, 0, 0)]
def latSt (w : Nat) (out : Bool) : State := { (winSt w { out := out, latchAt := some 0 }).wr CW.STAT_LATCH 1 w with now := 64, pw := 64 }

theorem test_winError (s : State) (w : Nat) : s.winError w ≤ 1024 := by
  unfold State.winError clampI
  split
  · decide
  · split <;> omega

theorem test_winBelow : (256 * (winSt 5 {}).rd CW.THR_HIGH 5 : Int) + (winSt 5 {}).winError 5 < 30000 ∧
    (256 * (winSt 100 {}).rd CW.THR_HIGH 100 : Int) + (winSt 100 {}).winError 100 < 30000 := by
  have h := test_winError (winSt 5 {}) 5
  have g := test_winError (winSt 100 {}) 100
  have e : (winSt 5 {}).rd CW.THR_HIGH 5 = 100 := by decide
  have f : (winSt 100 {}).rd CW.THR_HIGH 100 = 100 := by decide
  rw [e, f]
  constructor <;> omega

theorem test_windows : isHard 5 = false ∧ isHard 100 = true ∧ (winSt 5 {}).rd CW.CFG_M 5 ≤ 1 ∧
    (winSt 5 {}).rd CW.CFG_EN_HI 5 = 1 ∧ ((winSt 5 {}).cw 5).moveHi = none ∧ (winSt 5 {}).rd CW.STAT_BLANKING 5 = 0 ∧
    (winSt 100 {}).rd CW.CFG_EN_HI 100 = 1 ∧ ((winSt 100 {}).cw 100).out = false ∧
    ((winSt 5 { blankEnd := some 700, out := true }).cw 5).blankEnd = some 700 ∧
    ((winSt 5 { blankEnd := some 700, out := true }).cw 5).out = true ∧
    ((winSt 5 { blankEnd := some 700, edges := [600] }).cw 5).blankEnd = some 700 ∧
    ((winSt 5 { blankEnd := some 700, edges := [600] }).cw 5).edges = [600] ∧ ((winSt 5 {}).cw 5).edges = [] ∧
    (latSt 5 false).mainOn = true ∧ (latSt 5 false).bridgeHalted 77 = false ∧ (latSt 5 true).mainOn = true ∧ (latSt 5 false).rd CW.STAT_LATCH 5 = 1 ∧
    (latSt 5 false).latchedNow 5 = false ∧ ((latSt 5 false).cw 5).out = false ∧ ((latSt 5 true).cw 5).out = true := by decide

def grpSt (g act : Nat) : State :=
  regsSt State.reset [(TG.CFG_ENABLE, g, 0, 1), (TG.CFG_ACTION, g, 0, act), (TG.LEGS, g, 0, 2 ^ 5)]
def actSt (g : Nat) : State := regsSt (State.reset.setTg g { srcs := [3] }) [(TG.STAT_ACTIVE, g, 0, 1)]

theorem test_groups : (grpSt 3 2).mainOn = true ∧ (grpSt 3 2).bridgeHalted 77 = false ∧
    ({ grpSt 3 2 with halts := [.ckSys] } : State).bridgeHalted 77 = true ∧ (stbySt (actSt 3)).bridgeHalted 77 = false ∧
    (actSt 3).bridgeHalted 77 = false ∧ (grpSt 3 2).rd TG.SWTRIP 3 = 0 ∧ (grpSt 3 2).rd TG.CFG_ENABLE 3 = 1 ∧
    ((grpSt 3 2).tg 3).srcs = [] ∧ 5 ∈ (grpSt 3 2).targets 3 ∧ (grpSt 3 2).rd TG.CFG_ACTION 3 ≠ 0 ∧
    (stbySt (actSt 3)).modeAdmits .ssf = true ∧ (actSt 3).modeAdmits .ssf = false ∧ (actSt 3).rd TG.CFG_ENABLE 3 = 0 ∧
    ((actSt 3).tg 3).srcs ≠ [] ∧ ((actSt 3).wr TG.STAT_TRIPPED 1 3).rd TG.STAT_TRIPPED 3 = 1 ∧
    ((grpSt 3 2).wr TG.STAT_TRIPPED 1 3).rd TG.STAT_ACTIVE 3 = 0 ∧
    ((actSt 3).wr TG.STAT_TRIPPED 1 3).rd TG.STAT_ACTIVE 3 = 1 := by decide

/-! ### Modes and power -/

def modeX (m : Nat) : Started := cmdX 0x01 0 0 0 m []
def inMode (s : State) (m : Mode) : State := { s with mm := { s.mm with cur := m } }
def mandSt (s : State) : State := (mandatoryBits.foldl (fun s b => s.setReady b true) s)
def calmSt (s : State) : State := { s with saf := { s.saf with up := true } }

set_option maxRecDepth 20000 in
theorem test_modeSet : Mode.ofCode (bits 10 0 8) = some .service ∧ (inMode (cmdSt (modeX 10)) .follow).listed .service = false ∧
    (inMode (cmdSt (modeX 10)) .standby).listed .service = true ∧ (cmdSt (modeX 10)).mm.req = none ∧
    (inMode (cmdSt (modeX 10)) .standby).setDenied = true ∧
    (inMode (calmSt (cmdSt (modeX 10))) .standby).setDenied = false ∧
    (inMode (calmSt (cmdSt (modeX 10))) .standby).mandatoryReady = false ∧
    (regsSt (inMode (calmSt (mandSt (cmdSt (modeX 10)))) .standby) [(SAF.STAT_DC, 0, 0, 1), (SAF.STAT_AC, 0, 0, 1)]).setCheck
      .service = 0 ∧ Mode.ofCode (bits 77 0 8) = none := by decide

def setSt : State :=
  let s := regsSt (inMode (calmSt (mandSt (cmdSt (modeX 10)))) .standby) [(SAF.STAT_DC, 0, 0, 1), (SAF.STAT_AC, 0, 0, 1)]
  { s with mm := { s.mm with req := some ⟨2, .service, .follow⟩ } }
def tripSt : State := let s := inMode (calmSt (mandSt State.reset)) .follow; { s with mm := { s.mm with trig := [.protection] } }

set_option maxRecDepth 20000 in
theorem test_transitions : State.reset.mgmtHalted = false ∧
    ({ State.reset with halts := [.debug] } : State).mgmtHalted = true ∧ setSt.mgmtHalted = false ∧ tripSt.mgmtHalted = false ∧
    Trigger.restart ∉ (inMode State.reset .standby).mm.trig ∧
    (inMode State.reset .standby).rd FLT.STAT_FATAL_HOLD = 0 ∧ (inMode State.reset .standby).demandLevel = true ∧
    (calmSt (mandSt State.reset)).demandLevel = false ∧ (calmSt (mandSt State.reset)).mm.cur = .wake ∧
    (calmSt (mandSt State.reset)).mm.ftest = false ∧ (calmSt (mandSt State.reset)).mandatoryReady = true ∧
    tripSt.demandLevel = false ∧ Trigger.protection ∈ tripSt.mm.trig ∧ Trigger.restart ∉ tripSt.mm.trig ∧
    tripSt.rd FLT.STAT_FATAL_HOLD = 0 ∧ setSt.demandLevel = false ∧ setSt.mm.req = some ⟨2, .service, .follow⟩ ∧
    setSt.mm.ending = false ∧ ({ setSt with mm := { setSt.mm with req := none } } : State).setCheck .service = 0 ∧
    (setSt.ring 2).started = some (modeX 10) := by decide

def preSt (step : Nat) : State := let s := inMode State.reset .prestart; { s with mm := { s.mm with step := step } }
def preSt2 : State := { preSt 2 with dcs := { State.reset.dcs with preAt := some 9 } }
def preSt5 : State := { preSt 5 with grd := { State.reset.grd with
  syncAt := some 9, sync := (List.range 3).map (fun j => (j, [⟨9 + 1000 * msH, 0⟩])) } }
def preSt3 : State := regsSt (preSt 3) [(DCS.CFG, 0, 0, 1), (LEG.ROLE, 5, 0, 1)]

theorem test_prestart : preSt2.mm.step = 2 ∧ preSt2.dcs.preAt = some 9 ∧ Trigger.checkFailed ∉ preSt2.mm.trig ∧
    preSt5.mm.step = 5 ∧ preSt5.grd.syncAt = some 9 ∧ (preSt 5).grd.syncAt = none ∧ preSt3.rd DCS.CFG ≠ 0 ∧
    preSt2.mgmtHalted = false ∧ (preSt5.to (9 + preSt5.rd GRD.SYNC_TIME_HOLD_MS * msH)).syncHolds = true ∧
    Trigger.checkFailed ∉ preSt5.mm.trig ∧ Trigger.checkFailed ∉ preSt3.mm.trig ∧ Trigger.protection ∉ preSt3.mm.trig ∧ preSt3.chkLegs.find? (fun n => decide (preSt3.mm.checkNext ≤ n)) = some 5 := by decide

def keySt : State := { State.reset with mm := { State.reset.mm with ftest := true, key := 2 } }

theorem test_watchdog : (State.reset.wr GLB.MODECFG_HWDT_MS 100).rd GLB.MODECFG_HWDT_MS ≠ 0 ∧ State.reset.mm.wdtOn = true ∧
    State.reset.mm.cur ≠ .keepalive ∧ keySt.mm.cur = .wake ∧ keySt.mm.ftest = true ∧ keySt.mm.key = 2 ∧
    State.reset.mm.key = 0 ∧ 0x1234 % 65536 ≠ 0x51A7 := by decide

/-- The rails of Table 18.1 at their nominal levels, and with VDD_18 (rail 3) above its OV level. -/
def goodR : Rails := { mv := [800, 1100, 600, 1800, 1800, 3300], pfwN := true }
def overR : Rails := { goodR with mv := [800, 1100, 600, 1950, 1800, 3300] }
def downSt : State := { inMode State.reset .keepalive with now := 2 * msH }

theorem test_rails : downSt.railFault goodR = none ∧ goodR.pfwN = true ∧ downSt.mm.railBad + msH ≤ Nat.max downSt.now 0 ∧
    downSt.mm.cur = .keepalive ∧ downSt.rd PWR.CFG_V33_THR = State.reset.rd PWR.CFG_V33_THR ∧
    downSt.railFault overR = some (3, true) ∧ ({ goodR with pfwN := false } : Rails).pfwN = false ∧
    State.reset.mm.cur ≠ .keepalive ∧ State.reset.warningOf overR 0 = some (4, 3) ∧
    State.reset.warningOf { goodR with mv := [700, 1100, 600, 1800, 1800, 3300] } 0 = some (3, 0) ∧
    (State.reset.wr PWR.CFG_PFW_SRC 0).warningOf { goodR with pfwN := false } 1280 = some (1, 0) ∧
    (State.reset.wr PWR.CFG_PFW_SRC 0).warningOf { goodR with pfwN := false } 1279 = none ∧
    (State.reset.wr PWR.CFG_PFW_SRC 1).warningOf { goodR with mv := [800, 1100, 600, 1800, 1800, 2000] } 0 = some (2, 0) ∧
    State.reset.warningOf goodR 0 = none := by decide

theorem test_power : (inMode State.reset .keepalive).mm.cur = .keepalive ∧ State.reset.bitPresent 14 = true ∧
    State.reset.ready 14 = false ∧ State.reset.ready 8 = false ∧ (State.reset.setReady 14 true).ready 14 = true ∧
    mandatoryBits.find? (fun b => !State.reset.ready b) = some 0 ∧ State.reset.mm.linkUp = false ∧
    ({ State.reset with mm := { State.reset.mm with linkUp := true } } : State).mm.linkUp = true ∧
    (∀ b, b ∈ [8, 9] → State.reset.ready b = false) ∧ State.reset.mainOn = true ∧ State.reset.rd CLO.STAT_PF_DONE = 0 := by decide

/-! ### Supervisors and the DC stage -/

def supSt (role : Nat) (sup : LegSup) (p : PhgLeg) : State :=
  (regsSt (stbySt (legS 5 { sup := sup })) [(LEG.ROLE, 5, 0, role)]).setPl 5 p
def insI : Insertion := { spare := 5, replaced := 6, rampAt := some 70 }

theorem test_phaseGroups : (supSt 1 .retired {}).mainOn = true ∧ (supSt 1 .retired {}).modeAdmits .ssf = true ∧
    (supSt 1 .retired {}).phaseGroup 5 = some 0 ∧ ((supSt 1 .retired {}).leg 5).sup = .retired ∧
    (supSt 6 .active { group := some 0 }).role 5 = roleSpare ∧ ((supSt 6 .active { group := some 0 }).pl 5).group = some 0 ∧
    ((supSt 6 .active { group := some 0 }).leg 5).sup.counted = true ∧
    (supSt 1 .retired {}).groupRuns 0 = false ∧ (supSt 6 .active { group := some 0 }).groupRuns 0 = false ∧
    ((supSt 1 .retired {}).wr BRK.STATUS_RUN 1 0).groupRuns 0 = true ∧
    ((supSt 6 .active { group := some 0 }).wr BRK.STATUS_RUN 1 0).groupRuns 0 = true ∧
    ((supSt 6 .inserting {}).leg insI.spare).sup = .inserting ∧
    (((supSt 6 .inserting {}).setPhg 0 { ins := some insI }).phg 0).ins = some insI ∧ insI.rampAt = some 70 ∧
    ((supSt 1 .shadow { shadowAt := some 9, okSince := some 9 }).pl 5).shadowAt = some 9 ∧
    ((supSt 1 .shadow { shadowAt := some 9, okSince := some 9 }).pl 5).okSince = some 9 ∧
    ((supSt 1 .shadow { shadowAt := some 9, okSince := some 9 }).leg 5).sup = .shadow ∧
    (supSt 1 .shadow { shadowAt := some 9 }).phaseGroup 5 = some 0 ∧
    (supSt 6 .active { group := some 0 }).mainOn = true ∧ (supSt 6 .active { group := some 0 }).modeAdmits .ssf = true ∧
    (supSt 1 .shadow { shadowAt := some 9, okSince := some 9 }).judgedLeg 0 5 = false ∧
    (supSt 1 .shadow { shadowAt := some 9 }).judgedLeg 0 5 = false := by decide

def grdSt (m : Mode) (g : GrdSt) : State :=
  let s := inMode (State.reset.wr GRD.CFG_EN 1) m
  { s with grd := g, mm := { s.mm with causes := [.momentaryCessation] } }

theorem test_grid : (grdSt .cease {}).mm.cur = .cease ∧ (grdSt .cease { restoreAt := some 9 }).grd.restoreAt = some 9 ∧
    (grdSt .ride { exitAt := some 9 }).grd.exitAt = some 9 ∧ (grdSt .ride {}).rd GRD.CFG_EN ≠ 0 ∧
    (grdSt .ride {}).mm.cur = .ride ∧ Cause.momentaryCessation ∈ (grdSt .cease {}).mm.causes ∧
    (grdSt .follow {}).mm.cur ∈ [Mode.follow, .form, .dawn] ∧ (grdSt .follow {}).mainOn = true := by decide

def prbSt (l : Option Nat) : State :=
  let s := (regsSt (inMode State.reset .follow) [(PRB.CFG_EN, 0, 0, 1), (PRB.LISTEN, 0, 0, 10)]).setReady 37 true
  { s with dtOn := true, prb := { State.reset.prb with listen := l } }

theorem test_probe : (prbSt none).dtOn = true ∧ (prbSt none).ready 37 = true ∧ (prbSt none).prb.cur = none ∧
    (prbSt (some 3)).prb.listen = some 3 ∧ (prbSt none).prb.listen = none ∧
    (prbSt none).prb.lastAt = none ∧ ({ (prbSt none) with prb := { lastAt := some 50000 } } : State).prb.lastAt = some 50000 ∧
    ({ (prbSt none) with prb := { lastAt := some 50000 } } : State).dtNs ≤ 50000 ∧
    ({ (prbSt none) with prb := { lastAt := some 50000 } } : State).prb.cur = none ∧ (prbSt none).rd PRB.LISTEN ≠ 0 ∧ (prbSt none).probeRuns = true := by decide

def dcSt (st : Nat) (d : DciSt) : State := (State.reset.wr DCI.STAT_STATE st 7).setDci 7 d

theorem test_dcInputs : ((dcSt 1 { vinAt := some 9 }).dci 7).vinAt = some 9 ∧ (dcSt 1 {}).rd DCI.STAT_STATE 7 = 1 ∧
    ((dcSt 2 {}).dci 7).hand = false ∧ ((dcSt 2 {}).dci 7).slow = false ∧ ((dcSt 3 { scAt := some 9 }).dci 7).scAt = some 9 ∧
    (dcSt 3 {}).rd DCI.STAT_STATE 7 ∈ [2, 3] ∧ ((dcSt 4 { goodAt := some 9 }).dci 7).goodAt = some 9 ∧
    (dcSt 8 {}).rd DCI.STAT_STATE 7 = 8 ∧ (stbySt (dcSt 8 {})).modeAdmits .ssf = true ∧
    (dcSt 6 {}).rd DCI.STAT_STATE 7 = 6 ∧ (dcSt 7 {}).rd DCI.STAT_STATE 7 = 7 ∧ (dcSt 8 {}).mainOn = true ∧
    (dcSt 8 {}).modeAdmits .ssf = false := by decide

/-! ### Sensing -/

def adcSt (s : SeqSt) : State :=
  (((regsSt State.reset [(CORE.SEQCTRL_EN, 3, 2, 1), (CORE.SEQTRIG_SRC, 3, 2, 7), (CORE.STAT_POWERED, 3, 0, 1)]).setReady 17
    true).setSeq 3 2 s)
def trigSt (s : SeqSt) : State := { adcSt s with adcTrigs := [(3, 2, 9)] }
def burB : BurstSt := { seq := 2, left := 1, at_ := 100, input := 5, dwell := 4, held := false }
def resR : AdcRes := { chan := 29, value := 0x3F800000, raw := 7, tag := 8 }

theorem test_adc : (trigSt {}).adcTrigs = (3, 2, 9) :: [] ∧ (trigSt {}).ready (14 + 3) = true ∧
    (trigSt {}).rd CORE.SEQCTRL_EN 3 2 ≠ 0 ∧ ((trigSt {}).seq 3 2).due = none ∧
    ((trigSt { due := some 50 }).seq 3 2).due = some 50 ∧ ((trigSt { due := some 50 }).seq 3 2).waiting = false ∧
    ((adcSt {}).core 3).burst = none ∧ (adcSt {}).rd CORE.STAT_WAKING 3 = 0 ∧ (adcSt {}).rd CORE.STAT_POWERED 3 ≠ 0 ∧
    ((adcSt {}).results 3).length < 32 ∧ ((adcSt {}).wr CORE.STAT_POWERED 0 3).rd CORE.STAT_POWERED 3 = 0 ∧
    (((adcSt {}).setCore 3 { wakeAt := some 9 }).core 3).wakeAt = some 9 ∧ (adcSt {}).nextWaiting 3 = none ∧
    ((adcSt {}).wr CORE.CFG 1 3).rd CORE.CFG 3 ≠ 0 ∧ (((adcSt {}).setCore 3 { burst := some burB }).core 3).burst = some burB ∧
    burB.held = false ∧ burB.left ≤ 1 ∧ ((adcSt {}).setResults 3 [resR]).results 3 = resR :: [] ∧ resR.chan < 176 ∧
    (adcSt {}).mainOn = true ∧ (adcSt {}).bridgeHalted 79 = false ∧ ((adcSt { due := some 50 }).seq 3 2).due = some 50 ∧
    ((adcSt { due := some 50 }).setCore 3 { burst := some { burB with seq := 1 } }).rd CORE.STAT_POWERED 3 ≠ 0 ∧ { burB with seq := 1 }.seq ≠ 2 ∧ (((adcSt {}).setTmr 4 { next := some 64 }).tmr 4).next = some 64 := by decide

def calSt (state : Nat) (c : CalSt) : State := { (facSt State.reset).wr CAL.STAT_STATE state with cal := c }

theorem test_calibration : tget ({ State.reset with shadow := [(calBase + 11, 0x3F800000)] } : State).shadow (calBase + 2 * 5 + 1) =
      some 0x3F800000 ∧ fFinite 0x3F800000 = true ∧ fLt 0x3F800000 gainLo = false ∧ fLt gainHi 0x3F800000 = false ∧
    fClamp gainLo gainHi 0x3F800000 = 0x3F800000 ∧ (facSt State.reset).mainOn = true ∧
    (facSt State.reset).bridgeHalted 79 = false ∧ (calSt 2 {}).modeAdmits .sf = true ∧ (calSt 2 {}).mainOn = true ∧
    (calSt 2 {}).bridgeHalted 79 = false ∧ (calSt 3 {}).rd CAL.STAT_STATE = 3 ∧ (calSt 3 {}).cal.n < 4096 ∧
    (facSt State.reset).modeAdmits .sf = true ∧ (calSt 2 {}).rd CAL.STAT_STATE = 2 ∧
    (calSt 1 { n := 4096 }).rd CAL.STAT_STATE = 1 ∧ 4096 ≤ (calSt 1 { n := 4096 }).cal.n ∧
    ((0 : Int) - 0) * 100 ≤ (4 * halfScale ((calSt 1 {}).rd CAL.STAT_CHAN) : Int) ∧
    (4 * halfScale ((calSt 1 {}).rd CAL.STAT_CHAN) : Int) < (30000 - 0) * 100 := by decide

def sdSt (v : SdSt) : State :=
  ((regsSt State.reset [(SD.STAT_RUN, 5, 0, 1), (SD.CFG_EN, 5, 0, 1), (SD.CFG_OSR, 5, 0, 16)]).setReady 32 true).setSd 5 v
def sdV : SdSt := { ints := [0, 0, 0], combs := [0, 0, 0] }
def sdL : List (Bool × Bool) := List.replicate 16 (true, false)
def manSt (v : SdSt) (lost : Nat) : State := ((sdSt v).wr SD.CFG_CODING 2 5).wr SD.STAT_LOST lost 5

theorem test_filters : (sdSt sdV).rd SD.STAT_RUN 5 ≠ 0 ∧ (sdSt sdV).ready 32 = true ∧ sdL.length = (sdSt sdV).rd SD.CFG_OSR 5 ∧
    sdL ≠ [] ∧ (sdSt sdV).rd SD.CFG_CODING 5 < 2 ∧ ((sdSt sdV).sd 5).cnt = 0 ∧
    ((sdSt sdV).sd 5).skip = 0 ∧ ((sdSt sdV).sd 5).held = [] ∧ (sdSt sdV).sdBad 5 = false ∧
    ((sdSt sdV).sd 5).run + sdL.length < 256 ∧ ((sdSt sdV).results (18 + 5)).length < 16 ∧
    ((sdSt { sdV with skip := 2 }).sd 5).skip ≠ 0 ∧ ((sdSt { sdV with run := 255 }).sd 5).run + [(false, false)].length + 0 = 256 ∧
    ((sdSt { sdV with run := 255 }).sd 5).cnt + [(false, false)].length + 0 < (sdSt sdV).rd SD.CFG_OSR 5 ∧
    (sdSt sdV).mainOn = true ∧ (sdSt sdV).bridgeHalted 79 = false ∧ (sdSt sdV).rd SD.CFG_EN 5 ≠ 0 ∧ (sdSt sdV).rd SD.CFG_CODING 5 ≠ 2 := by decide

theorem test_manchester : (manSt { errs := 7, since := 500000 } 0).rd SD.CFG_CODING 5 = 2 ∧
    (manSt { errs := 7, since := 500000 } 0).sdBad 5 = false ∧ ((manSt { errs := 7, since := 500000 } 0).sd 5).errs = 7 ∧
    500000 < ((manSt { errs := 7, since := 500000 } 0).sd 5).since + (manSt {} 0).rd SD.CFG_MBIT 5 ∧
    (manSt {} 1).rd SD.STAT_LOST 5 ≠ 0 ∧ ((manSt { good := 63, found := true, since := 390000 } 1).sd 5).good = 63 ∧
    ((manSt { good := 63, found := true, since := 390000 } 1).sd 5).found = true ∧
    300000 ≤ ((manSt { good := 63, found := true, since := 390000 } 1).sd 5).since + (manSt {} 1).rd SD.CFG_MBIT 5 ∧
    ((manSt { errs := 7, since := 500000 } 0).sd 5).cnt + 1 < (manSt {} 0).rd SD.CFG_OSR 5 := by
  decide

/-! ### Trellis -/

def trlSt (g : TrlSeg) : State :=
  let s := (regsSt State.reset [(TRL.CFG, 0, 0, 1), (SEG.CFG_EN, 3, 0, 1), (SEG.CFG_POLL_EN, 3, 0, 1)]).setReady 42 true
  let s := inMode s .follow
  s.setSeg 3 g
def trlX (op : Nat) (arg inl : Nat) (b : List Nat) : Started := cmdX op b.length 0x800 arg inl b
def trlCmdSt (op arg inl : Nat) (b : List Nat) (m : Mode) : State := inMode (cmdSt (trlX op arg inl b)) m
def trlArg : Nat := 5 + 3 * 2 ^ 16 + 4 * 2 ^ 28
def trlF (t : Nat) : TrlFrame := ⟨t, 5, [1, 2], some 2⟩
def trlEnd (t : Nat) : State :=
  let s := (cmdSt (trlX 0x60 trlArg 0 [])).setSeg 3 { ended := some (trlF t, 77), cmds := [trlF 3] }
  { s with trl := { s.trl with cmds := [⟨2, 9, 0, 1, false⟩] } }

theorem test_downlink : (trlSt {}).has 10 = true ∧ (trlSt {}).rd TRL.STAT_KA_HOST_STOP = 0 ∧
    ((trlSt {}).wr TRL.STAT_KA_HOST_STOP 1).rd TRL.STAT_KA_HOST_STOP ≠ 0 ∧ (trlSt {}).mm.cur ≠ .safestop ∧
    (inMode (trlSt {}) .safestop).mm.cur = .safestop ∧ bits (trlX 0x63 0 1 []).d.inl 0 8 = 1 ∧
    bits (trlX 0x63 0 0 []).d.inl 0 8 = 0 ∧ (trlSt {}).kaOn = true ∧ (trlSt {}).rd SEG.CFG_EN 3 ≠ 0 ∧
    ((trlSt { kaAt := some 64 }).seg 3).alive = false ∧ ((trlSt { kaAt := some 64 }).seg 3).kaAt = some 64 ∧
    (trlSt {}).trl.kaInt = none ∧ ((trlEnd 1).seg 3).ended = some (trlF 1, 77) ∧ (trlF 1).type = 1 ∧ (trlF 3).type = 3 ∧
    (trlF 3).ring = some 2 ∧ (trlEnd 3).trl.cmds = [⟨2, 9, 0, 1, false⟩] ∧ (trlSt {}).mainOn = true ∧
    (inMode (trlSt {}) .safestop).mainOn = true ∧
    ((trlEnd 3).ring 2).started = some (trlX 0x60 trlArg 0 []) ∧ bits trlArg 16 5 < 24 ∧ 1 ≤ bits trlArg 28 4 ∧
    bits trlArg 28 4 ≤ 8 := by decide

theorem test_downlink_ready : Ready (trlCmdSt 0x63 0 1 [] .follow) 2 0x63 (trlX 0x63 0 1 []) [] ∧
    Ready (trlCmdSt 0x63 0 0 [] .follow) 2 0x63 (trlX 0x63 0 0 []) [] ∧
    Ready (trlCmdSt 0x60 trlArg 0 [] .safestop) 2 0x60 (trlX 0x60 trlArg 0 []) [] ∧
    Ready (trlCmdSt 0x60 trlArg 0 [] .follow) 2 0x60 (trlX 0x60 trlArg 0 []) [] :=
  ⟨⟨by decide, by decide⟩, ⟨by decide, by decide⟩, ⟨by decide, by decide⟩, ⟨by decide, by decide⟩⟩

def rndR : TrlRound := { at_ := 10, next := 7, left := 70 }
def rndB : TrlBatch := { addr := 7, n := 64, t0 := 100, sent := true, slot := 2 }
def segFull : State :=
  let s := trlSt { round := some rndR }
  { s with trl := { s.trl with frames := List.replicate 64 ⟨4, 0, 0, 0, 0⟩ } }
def replyP : Nat := 400 + 9 * 2 ^ 36
def mapSt (hi : Nat) : State := (trlSt { round := some { rndR with batches := [rndB] } }).mapWrite 9 0 hi
/-- The landings of a reply of these bits from bit b on, each bit a tone of whole amplitude. -/
def wave (x : Bool) (m : Nat) : List Int := (List.range m).map (fun i => cycleCos (i * (if x then 25 else 23)))
def replyWave : Nat → List Bool → List Int
  | _, [] => []
  | b, x :: l => wave x ((b + 1) * 625 / 12 - b * 625 / 12) ++ replyWave (b + 1) l

def bitClear (x : Bool) (m : Nat) : Bool :=
  decide (decide (toneEnergy 23 (wave x m) < toneEnergy 25 (wave x m)) = x) &&
    decide (4 * m * 16384 * (4 * m * 16384) ≤ Nat.max (toneEnergy 23 (wave x m)) (toneEnergy 25 (wave x m)))

set_option maxRecDepth 20000 in
theorem test_bitClear : bitClear true 52 = true ∧ bitClear false 52 = true ∧ bitClear true 53 = true ∧
    bitClear false 53 = true := by decide

theorem bitClear_all (x : Bool) (b : Nat) : bitClear x ((b + 1) * 625 / 12 - b * 625 / 12) = true := by
  have e : (b + 1) * 625 / 12 - b * 625 / 12 = 52 ∨ (b + 1) * 625 / 12 - b * 625 / 12 = 53 := by omega
  rcases e with e | e <;> rw [e] <;> cases x <;> simp [test_bitClear]

theorem wave_length (x : Bool) (m : Nat) : (wave x m).length = m := by simp [wave]

theorem replyWave_length (l : List Bool) (b : Nat) :
    (replyWave b l).length = (b + l.length) * 625 / 12 - b * 625 / 12 := by
  induction l generalizing b with
  | nil => simp [replyWave]
  | cons x l ih =>
    simp only [replyWave, List.length_append, wave_length, ih, List.length_cons]
    omega

theorem demod_replyWave (l : List Bool) (b : Nat) : (demodBits l.length b (replyWave b l)).map (·.1) = l ∧
    (demodBits l.length b (replyWave b l)).all
      (fun x => decide (4 * x.2.2 * 16384 * (4 * x.2.2 * 16384) ≤ x.2.1)) = true := by
  induction l generalizing b with
  | nil => simp [demodBits]
  | cons x l ih =>
    have c := bitClear_all x b
    simp only [bitClear, Bool.and_eq_true, decide_eq_true_eq] at c
    have d := ih (b + 1)
    simp only [replyWave, List.length_cons, demodBits, List.take_left' (wave_length x _),
      List.drop_left' (wave_length x _), List.map_cons, List.all_cons, Bool.and_eq_true, decide_eq_true_eq]
    exact ⟨by rw [c.1, d.1], c.2, d.2⟩

/-- Segment 3 of a state with a credit and the landings of this reply, the first at 900 h. -/
def hearSt (s : State) (p c : Nat) : State :=
  s.setSeg 3 { s.seg 3 with credit := true, lands := (replyWave 0 (replyBits p c)).map (fun v => (900, v)) }

theorem test_hears (s : State) (p c : Nat) (hp : p < 2 ^ 40) (hc : c < 256) :
    (hearSt s p c).hears 3 p c 900 = true ∧ ((hearSt s p c).seg 3).credit = true := by
  have e : (hearSt s p c).seg 3 = { s.seg 3 with credit := true, lands := (replyWave 0 (replyBits p c)).map (fun v => (900, v)) } := by
    simp [hearSt, State.seg, State.setSeg]
  have n : (replyBits p c).length = 64 := by simp [replyBits, leBytes]
  have l : (replyWave 0 (replyBits p c)).length = 3333 := by rw [replyWave_length, n]
  have w : ∀ k : List Int, (k.map (fun v => ((900 : Nat), v))).dropWhile (fun x => decide (x.1 < 900)) =
      k.map (fun v => (900, v)) := by
    intro k
    cases k <;> simp
  have d := demod_replyWave (replyBits p c) 0
  rw [n] at d
  constructor
  · simp only [State.hears, e, w, ← List.map_take, List.map_map]
    rw [List.take_of_length_le (by omega)]
    simp [Function.comp_def, l, d.1, d.2, hc]
    omega
  · rw [e]

def mapB (a m str : Nat) : List Nat := leBytes a 2 ++ [m, str] ++ leBytes 0 4

set_option maxRecDepth 20000 in
theorem test_rounds : (trlSt {}).trlRuns = true ∧ (trlSt {}).trlMode = true ∧ (trlSt {}).rd SEG.CFG_POLL_EN 3 ≠ 0 ∧
    ((trlSt { now_ := true }).seg 3).round = none ∧ ((trlSt { now_ := true }).seg 3).now_ = true ∧
    ((trlSt { roundAt := some 5 }).seg 3).now_ = false ∧ ((trlSt { roundAt := some 5 }).seg 3).roundAt = some 5 ∧
    ((trlSt { round := some rndR }).seg 3).round = some rndR ∧ rndR.left ≠ 0 ∧
    ((trlSt { round := some rndR }).seg 3).poll = none ∧ rndR.batches = [] ∧
    (trlSt {}).rd SEG.STAT_UL_RATE 3 = 0 ∧ ({ rndR with batches := [rndB] } : TrlRound).batches = rndB :: [] ∧
    crc8 (leBytes replyP 5) ≠ 300 ∧ bits replyP 36 4 = (rndB.addr + rndB.slot) % 16 ∧
    ((mapSt 0).mapRead (rndB.addr + rndB.slot)).2.2.2 = false ∧
    mapValid ((mapSt 0).mapRead (rndB.addr + rndB.slot)).2.2.1 = false ∧
    ((mapSt (2 ^ 23 + 3 * 2 ^ 24)).mapRead (rndB.addr + rndB.slot)).2.2.2 = false ∧
    mapValid ((mapSt (2 ^ 23 + 3 * 2 ^ 24)).mapRead (rndB.addr + rndB.slot)).2.2.1 = true ∧
    mapSeg ((mapSt (2 ^ 23 + 3 * 2 ^ 24)).mapRead (rndB.addr + rndB.slot)).2.2.1 = 3 ∧
    rndB.addr + rndB.slot < 0x7FFF ∧ rndB.sent = true ∧ (mapSt 0).halts.contains .ckSys = false ∧ (mapSt 0).trl.frames = [] ∧
    (mapSt 0).trlRuns = true ∧ ((mapSt 0).seg 3).round = some { rndR with batches := [rndB] } ∧
    ({ mapSt 0 with halts := [.ckSys] } : State).halts.contains .ckSys = true ∧ (trlSt {}).hears 3 0 0 0 = false ∧
    ((trlSt {}).setReady 41 true).hoeRuns = true ∧ replyP < 2 ^ 40 ∧ crc8 (leBytes replyP 5) < 256 ∧ 44 ≠ crc8 (leBytes replyP 5) ∧
    (mapSt 0).rd MEM.FLIP_CTRL = 0 ∧ rndB.got = false ∧ rndB.heard = false ∧ ({ rndB with heard := true } : TrlBatch).heard = true ∧ ({ rndR with left := 0 } : TrlRound).left = 0 ∧
    rndR.silent = [] ∧ bit 0x83 7 = true ∧ 0x83 % 32 < 24 ∧ (0x7FFF ≤ 0x7FFF ∨ 24 ≤ 0x83 % 32) ∧
    (0x7FFF ≤ 5 ∨ 24 ≤ 0x98 % 32) ∧ ((trlSt {}).setReady 41 true).ready 41 = true ∧ (trlSt {}).rd HOE.STAT_SHED = 0 ∧
    ((trlSt { fold := true }).seg 3).fold = true ∧ (trlSt {}).capmem = [] ∧
    (∀ i, i < 16 → (trlSt {}).rd MEM.REMAP_VALID 0 i = 0) := by decide

set_option maxRecDepth 20000 in
theorem test_mapGet : ((mapSt 0).mapGet 9 1).2.2 = none ∧
    (((mapSt 0).memDecay (mapWord 9) 3).mapGet 9 1).2.2 = some (mapWord 9 / 8 * 64) := by decide

set_option maxRecDepth 20000 in
theorem test_pollWaits : (trlSt { round := some rndR }).trlFrames < 64 ∧ (segFull.seg 3).credit = false ∧ 64 ≤ segFull.trlFrames ∧
    (segFull.seg 3).round = some rndR ∧ (segFull.seg 3).poll = none ∧ rndR.waits = false := by decide

theorem test_rounds_ready : Ready (trlCmdSt 0x64 3 0 [] .follow) 2 0x64 (trlX 0x64 3 0 []) [] ∧
    Ready (trlCmdSt 0x61 0 0 (mapB 9 0x83 4) .follow) 2 0x61 (trlX 0x61 0 0 (mapB 9 0x83 4)) (mapB 9 0x83 4) ∧
    Ready (trlCmdSt 0x62 9 0 [] .follow) 2 0x62 (trlX 0x62 9 0 []) [] :=
  ⟨⟨by decide, by decide⟩, ⟨by decide, by decide⟩, ⟨by decide, by decide⟩⟩

/-! ### Metering and retention -/

def mtrSt (m : MtrSt) : State :=
  let l := (List.range 6).flatMap (fun i => [(SD.CFG_EN, i, 0, 1)])
  let s := regsSt State.reset (l ++ [(MTR.MAP0_VA, 0, 0, 0), (MTR.MAP0_VB, 0, 0, 1), (MTR.MAP0_VC, 0, 0, 2),
    (MTR.MAP0_IA, 0, 0, 3), (MTR.MAP1_IB, 0, 0, 4), (MTR.MAP1_IC, 0, 0, 5), (MTR.MAP1_IN, 0, 0, 31), (MTR.CFG_EN, 0, 0, 1),
    (S0.CFG_EN, 2, 0, 1)])
  let s := s.each (List.range 6) (fun i s => s.setSd i { synced := some 0 })
  { (s.setReady 43 true).setReady 3 true with mtr := m, dtOn := true }
def s0St (b : Bool) : State := (mtrSt {}).setS0 2 { level := some b }
def cycSt : State := mtrSt { restored := true, cycAt := some 0, cyc := [[fOne, 0, 0, fOne, 0, 0, 0]] }
def badMapSt : State := (mtrSt { restored := true }).wr MTR.MAP0_VB 0
def mtrCmd (op : Nat) : State := cmdSt (cmdX op 576 0x800 0 0 [])
def store (v : Nat) (s : State) : State := (s.wr CLO.STAT_STAGE 0).wr CLO.VOLT_VSTORE v

set_option maxRecDepth 20000 in
theorem test_metering : (mtrSt {}).has 11 = true ∧ (mtrSt {}).ready 43 = true ∧ (mtrSt {}).mtr.cycAt = none ∧
    cycSt.mtr.cycAt = some 0 ∧ cycSt.mtr.cyc ≠ [] ∧ cycSt.mtrOn = true ∧
    12 ≤ (mtrSt { ivCyc := 12, ivSq := [4] }).mtr.ivCyc ∧ (mtrSt { ivCyc := 12, ivSq := [4] }).mtr.ivSq = 4 :: [] ∧
    (mtrSt { fN := 500, fDur := 10 * secH }).mtr.fN ≠ 0 ∧
    (mtrSt { revAt := some 7 }).mtr.revAt = some 7 ∧ (mtrSt {}).rd MTR.STAT_REV_ACTIVE = 0 ∧
    ((mtrSt {}).wr MTR.REV_CFG_OPEN 0).rd MTR.REV_CFG_OPEN = 0 ∧ (mtrSt {}).rd S0.CFG_EN 2 ≠ 0 ∧
    (s0St true).rdB S0.CFG_POL 2 = false ∧ ((s0St true).s0 2).armed = true ∧ ((s0St true).s0 2).level = some (!(s0St true).rdB S0.CFG_POL 2) ∧
    ((s0St true).s0 2).since + (s0St true).rd S0.CFG_MIN_MS 2 * msH ≤ Nat.max (s0St true).now (100 * msH) ∧
    ((s0St false).s0 2).level = some ((s0St false).rdB S0.CFG_POL 2) ∧
    Nat.max (s0St true).now 64 < ((s0St true).s0 2).since + (s0St true).rd S0.CFG_MIN_MS 2 * msH ∧
    (mtrSt { restored := true, gap := some (5, 0, 0) }).mtrOn = true ∧ (mtrSt {}).mainOn = true ∧ (mtrSt {}).bridgeHalted 79 = false ∧
    badMapSt.mainOn = true ∧ (store 5000 (mtrCmd 0x72)).rd CLO.STAT_LOST = 0 ∧ (store 5000 (mtrCmd 0x72)).clo.live = true ∧
    (((mtrSt {}).setS0 2 { clean := false }).s0 2).clean = false ∧ badMapSt.rd MTR.CFG_EN ≠ 0 ∧ badMapSt.mapOk = false ∧
    badMapSt.mtr.gap = none ∧ (mtrSt { restored := true }).mtr.restored = true ∧ (mtrSt {}).clo.queue.length < 4 ∧
    (mtrSt {}).ready 3 = true ∧ (mtrSt {}).mtr.restored = false ∧ (mtrSt {}).rd CLO.STAT_LOST = 0 ∧
    ((mtrSt {}).wr CLO.STAT_PF_DONE 1).rd CLO.STAT_PF_DONE ≠ 0 ∧ ((mtrCmd 0x71).wr MTR.STAT_LOST 1).rd MTR.STAT_LOST ≠ 0 ∧
    (store 5000 (mtrCmd 0x72)).rd CLO.STAT_BUSY = 0 ∧ (store 5000 (mtrCmd 0x72)).rd CLO.STAT_STAGE < 2 ∧
    (store 5000 (mtrCmd 0x72)).guardOf.2.2 = true ∧ (store 1920 (mtrCmd 0x72)).guardOf.2.2 = false ∧
    (mtrCmd 0x72).clo.rings = [] := by decide

theorem test_metering_ready : Ready (mtrCmd 0x70) 2 0x70 (cmdX 0x70 576 0x800 0 0 []) [] ∧
    Ready ((mtrCmd 0x71).wr MTR.STAT_LOST 1) 2 0x71 (cmdX 0x71 576 0x800 0 0 []) [] ∧
    Ready (store 5000 (mtrCmd 0x72)) 2 0x72 (cmdX 0x72 576 0x800 0 0 []) [] ∧
    Ready (store 1920 (mtrCmd 0x72)) 2 0x72 (cmdX 0x72 576 0x800 0 0 []) [] :=
  ⟨⟨by decide, by decide⟩, ⟨by decide, by decide⟩, ⟨by decide, by decide⟩, ⟨by decide, by decide⟩⟩

def updU (pf : Bool) : RetUpd := { acc := [(1, 5)], s0 := [], dt := 9, rated := none, lost := {}, pf := pf }
def cloSt (c : CloSt) : State := { State.reset with clo := c }
def framF : FramSlot := { seq := 4, dt := 9, acc := [(1, 5)], lost := {}, s0 := [], rated := 0 }
def darkSt : State := (store 5000 (inMode State.reset .keepalive)).wr CLO.STAT_PF_DONE 1

theorem test_retention : (cloSt { queue := [updU false] }).clo.queue = updU false :: [] ∧ (updU false).pf = false ∧
    (cloSt { queue := [updU true] }).clo.queue = updU true :: [] ∧ (updU true).pf = true ∧ darkSt.rd CLO.STAT_PF_DONE ≠ 0 ∧
    darkSt.mm.cur = .keepalive ∧ darkSt.rd CLO.STAT_BUSY = 0 ∧ darkSt.rd CLO.STAT_STAGE < 2 ∧ darkSt.guardOf.2.2 = true ∧
    (mtrSt {}).dtOn = true ∧ ((mtrSt {}).wr CLO.STAT_BUSY 1).rd CLO.STAT_BUSY ≠ 0 ∧
    (cloSt { stage_ := some (framF, true, 3) }).clo.stage_ = some (framF, true, 3) ∧
    (cloSt { stage_ := some (framF, true, 3) }).clo.again = false ∧
    (cloSt { stage_ := some (framF, false, 3) }).clo.stage_ = some (framF, false, 3) ∧
    (cloSt { stage_ := some (framF, false, 3) }).rd CLO.STAT_STAGE < 2 ∧ (cloSt { queue := [updU false] }).clo.live = true ∧
    darkSt.rd CLO.STAT_LOST = 0 ∧ darkSt.clo.live = true ∧ (mtrSt {}).rd CLO.STAT_LOST = 0 ∧ (mtrSt {}).clo.live = true ∧
    (mtrSt {}).has 11 = true ∧ (mtrSt {}).ready 43 = true ∧ (cloSt { live := true }).clo.live = true ∧
    (cloSt { live := true }).rd CLO.STAT_DUE = 0 ∧ (cloSt { live := false }).clo.live = false ∧
    (cloSt { live := false, vHarv := 330 }).clo.vHarv = 330 ∧ (cloSt { live := false }).clo.vHarv < 330 ∧
    (cloSt { live := false }).charging = false ∧
    (regsSt (cloSt { live := false }) [(CLO.CHG_EN, 0, 0, 1), (PWR.VMON, 0, 5, 3300), (CLO.CHG_VMAX, 0, 0, 500)]).charging = true ∧
    (cloSt {}).mainOn = true ∧ State.reset.rdB CLO.STAT_XTAL ≠ !State.reset.rdB CLO.STAT_XTAL := by decide

/-! ### Capture, capture memory and background upkeep -/

def sieSt (s : State) (st : Nat) (c : CapSt) : State :=
  (((s.wr MEM.STAT_INIT_MIB 112).setReady 40 true).wr CAP.STAT_STATE st 3).setCap 3 (some c)
def sieX (op arg : Nat) : Started := cmdX op 16 0x800 arg 0 []
def sieCmd (op arg : Nat) : State := (((cmdSt (sieX op arg)).wr MEM.STAT_INIT_MIB 112).wr CAP.CFG_RAW_EN 1 3).wr CAP.CFG_SRC 1 3
def capC : CapSt :=
  { cfg := { raw := true, red := false, src := 1, arg := 0, div := 1, interval := 8, auto := 5, mask := 0, pre := 0, post := 4
             base := 2, size := 3, chans := [5] }
    ring := some 2 }
def engSt (c : CapSt) : State := { sieSt (sieCmd 0x50 3) 2 c with engTrigs := [(3, 300)] }

set_option maxRecDepth 20000 in
theorem test_captures : 3 = bits (sieX 0x50 3).d.arg 0 3 ∧ (sieCmd 0x50 3).capOf 3 = none ∧
    (sieCmd 0x50 3).rd CAP.BASE 3 + (sieCmd 0x50 3).rd CAP.SIZE 3 ≤ (sieCmd 0x50 3).sieRegion ∧
    (sieCmd 0x50 3).rd CAP.CFG_RAW_EN 3 ≠ 0 ∧ (sieCmd 0x50 3).rd CAP.CFG_SRC 3 ≠ 0 ∧
    ((sieSt (sieCmd 0x50 3) 2 capC).capOf 3).isSome = true ∧
    ((sieCmd 0x50 3).wr MEM.STAT_INIT_MIB 4).sieRegion < ((sieCmd 0x50 3).wr MEM.STAT_INIT_MIB 4).rd CAP.BASE 3 +
      ((sieCmd 0x50 3).wr MEM.STAT_INIT_MIB 4).rd CAP.SIZE 3 ∧
    (sieSt (sieCmd 0x51 3) 2 capC).capOf 3 = some capC ∧ (sieSt (sieCmd 0x51 3) 2 capC).rd CAP.STAT_STATE 3 = 2 ∧
    capC.cause = none ∧ (sieSt State.reset 1 capC).rd CAP.STAT_STATE 3 = 1 ∧ (sieSt State.reset 1 capC).capOf 3 = some capC ∧
    (engSt capC).engTrigs = (3, 300) :: [] ∧ (engSt capC).capOf 3 = some capC ∧ capC.ending = none ∧
    (engSt capC).sieRuns = true ∧ capC.lastEv = none ∧ (capC.events + 1) % capC.cfg.div = 0 ∧
    ({ capC with armedAt := some 9 } : CapSt).armedAt = some 9 ∧ capC.cfg.auto ≠ 0 ∧
    (∀ j, j < 3 → (sieSt (sieCmd 0x50 3) 3 { capC with ending := some 1 }).capOf j = none) ∧ capC.ring = some 2 ∧
    ((sieCmd 0x50 3).ring 2).started = some (sieX 0x50 3) ∧ State.reset.mainOn = true ∧ State.reset.bridgeHalted 78 = false ∧ State.reset.rd TRS.CFG_EN 4 = 0 ∧
    (sieSt State.reset 1 capC).mainOn = true ∧ (sieSt State.reset 1 capC).bridgeHalted 78 = false ∧ State.reset.capOf 3 = none ∧
    (sieSt State.reset 2 { capC with armedAt := some 9 }).rd CAP.STAT_STATE 3 = 2 ∧ (State.reset.trs 4).staged = [] ∧
    (State.reset.trs 4).written % 8 = 0 ∧ (sieCmd 0x50 3).mainOn = true ∧ (sieCmd 0x50 3).bridgeHalted 78 = false ∧
    (sieCmd 0x50 3).rd TRS.CFG_EN 4 = 0 ∧ (engSt { capC with lastEv := some 100 }).capOf 3 = some { capC with lastEv := some 100 } ∧
    State.reset.sieRegion < State.reset.rd TRS.BASE 4 + State.reset.rd TRS.SIZE 4 ∧
    (sieCmd 0x50 3).rd TRS.BASE 4 + (sieCmd 0x50 3).rd TRS.SIZE 4 ≤ (sieCmd 0x50 3).sieRegion ∧ State.reset.mem.rr = 23 ∧
    (State.reset.setCap 0 (some { capC with staged := [1, 2] })).stagedOf 0 ≠ [] := by decide

theorem test_captures_ready : Ready (sieCmd 0x50 3) 2 0x50 (sieX 0x50 3) [] ∧
    Ready (sieSt (sieCmd 0x51 3) 2 capC) 2 0x51 (sieX 0x51 3) [] ∧
    Ready (sieSt (sieCmd 0x52 3) 2 capC) 2 0x52 (sieX 0x52 3) [] ∧ Ready (sieCmd 0x53 0) 2 0x53 (sieX 0x53 0) [] ∧
    ((sieCmd 0x53 0).memGet ((sieveBase + bits (sieX 0x53 0).d.arg 0 32) / 8) ((sieX 0x53 0).d.len / 8)).2.2 = none :=
  ⟨⟨by decide, by decide⟩, ⟨by decide, by decide⟩, ⟨by decide, by decide⟩, ⟨by decide, by decide⟩, by decide⟩

def memSt (m : MemSt) : State := { facSt State.reset with mem := m }

theorem test_memory : (memSt {}).modeAdmits .sf = true ∧ State.reset.modeAdmits .sf = false ∧
    (memSt { test := some (4, true) }).mem.test = some (4, true) ∧ (memSt {}).rd MEM.FLIP_CTRL = 0 ∧
    (memSt { test := some (4, false) }).mem.test = some (4, false) ∧ (memSt {}).remapOf 77 = none ∧
    ((memSt {}).wr MEM.REMAP_BAD 1 0 0).rd MEM.REMAP_VALID 0 1 = 0 ∧
    ((memSt {}).wr MEM.REMAP_BAD 1 0 0).rd MEM.REMAP_BAD 0 1 = 0 ∧
    (∀ j, j < 1 → ((memSt {}).wr MEM.REMAP_BAD 1 0 0).rd MEM.REMAP_VALID 0 j ≠ 0 ∨
      ((memSt {}).wr MEM.REMAP_BAD 1 0 0).rd MEM.REMAP_BAD 0 j ≠ 0) ∧
    ((memSt {}).wr MEM.STAT_INIT_MIB 20).rd MEM.STAT_INIT_MIB ≠ 0 ∧
    ((memSt {}).wr MEM.STAT_INIT_MIB 15).rd MEM.STAT_INIT_MIB = 15 ∧
    ((memSt {}).wr MEM.STAT_INIT_MIB 111).rd MEM.STAT_INIT_MIB = 111 ∧ (memSt {}).mem.nvmRemap = [] ∧
    (memSt {}).ready 44 = false ∧ ((memSt {}).fsrc fsCmInitLate).causes = [] ∧ (memSt {}).rd MEM.BUCKET_LEVEL < 65536 ∧
    (memSt { scrubAt := some 8 }).mem.scrubAt = some 8 ∧ (memSt {}).rd HOE.STAT_SHED = 0 ∧
    (memSt {}).badGranules = [] ∧ State.reset.mainOn = true ∧ (memSt {}).mainOn = true ∧
    ((memSt {}).rd MEM.BUCKET_LEAK * msH) ≠ 0 ∧ ((memSt { scrubAt := some 8 }).setReady 41 true).hoeRuns = true := by decide

def hoeSt : State := ((State.reset.setReady 41 true).setReady 13 true).wr HOE.CFG_TEL_EN 1
def hoeCore : State := ((hoeSt.setReady 17 true).wr CORE.CFG 0 3).wr CORE.STAT_POWERED 1 3
def hoeBusy : State := hoeCore.setCore 3 { hoeCore.core 3 with hoe := some 4 }

theorem test_upkeep : hoeSt.ready 41 = true ∧ hoeSt.ready 13 = true ∧ hoeSt.rd HOE.CFG_TEL_EN ≠ 0 ∧
    hoeSt.rd HOE.STAT_SHED = 0 ∧ hoeSt.hoe.drift = none ∧
    hoeCore.ready 17 = true ∧ (hoeCore.core 3).hoe = none ∧ hoeCore.hoeMay 3 = true ∧ hoeSt.hoeMay 3 = false ∧
    (hoeBusy.core 3).hoe = some 4 ∧ (hoeSt.core 3).hoe = none ∧
    hoeSt.hoeRuns = true ∧ hoeCore.hoeRuns = true ∧ hoeBusy.mgmtHalted = false ∧ State.reset.hoeRuns = false ∧
    hoeSt.hoeDue 1 = some (100 * msH) ∧ hoeSt.hoeDue 3 = none ∧ hoeSt.hoe.late.contains 1 = false ∧
    ({ hoeSt with hoe := { late := [1] } } : State).hoe.late.contains 1 = true ∧
    ({ hoeSt with hoe := { hoeSt.hoe with drift := some (3, 4) } } : State).hoe.drift = some (3, 4) := by decide

/-! ### The safety island -/

/-- The island up, with these values active. -/
def safSt (l : List (Fld × Nat × Nat)) : State :=
  let s := State.reset
  let t := l.foldl (fun t e => tput t (e.1.key 0 e.2.1) e.2.2 (e.1.reset 0 e.2.1)) ([] : Tbl Nat)
  { s with saf := { s.saf with up := true, act := t } }
def safV (s : State) (f : SafSt → SafSt) : State := s.setSaf f
def outSt : State :=
  regsSt (safSt [(SAF.OUT_FUNC, 1, 1), (SAF.OUT_FB, 1, 3)]) [(SAF.OUTSTAT_STATE, 0, 1, 3), (SAF.OUTSTAT_RBP, 0, 1, 1),
    (SAF.OUTSTAT_RBN, 0, 1, 1), (SAF.OUTSTAT_P, 0, 1, 1), (SAF.OUTSTAT_N, 0, 1, 1)]
def fbSt : State := safV ((outSt.setSin 6 { held := true }).setSin 7 { held := true }) (fun v => { v with samples := 9 })
def reqSt (r : SafReq) (x : Started) : State := safV (cmdSt x) (fun v => { v with up := true, queue := [r] })
def safX (op inl : Nat) : Started := cmdX op 0 0 1 inl []
def inSt (z : Nat) : State := (safSt [(SAF.IN_FUNC, 2, 1)]).setSin 4 { zeros := z, held := true }
def demSt : State := ((safSt []).wr SAF.STAT_DEMAND 1).wr SAF.STAT_INHIBIT 1

set_option maxRecDepth 20000 in
theorem test_island : (inSt 0).safUp = true ∧ (inSt 0).sa SAF.IN_FUNC 2 ≠ 0 ∧ (inSt 0).sa SAF.IN_FUNC 2 = 1 ∧
    (inSt 0).sa SAF.IN_TPA_EN 2 = 0 ∧ ((inSt 0).sin (2 * 2)).inWin = false ∧
    ((inSt ((inSt 0).sa SAF.IN_FILT 2 - 1)).sin (2 * 2)).zeros + 1 =
      (inSt ((inSt 0).sa SAF.IN_FILT 2 - 1)).sa SAF.IN_FILT 2 ∧ bit 0x20 (2 * 2) = false ∧
    (inSt 0).rd SAF.STAT_DEMAND = 0 ∧ (safV (safSt []) (fun v => { v with tests := 3 })).saf.tests ≠ 0 ∧
    outSt.rd SAF.OUTSTAT_STATE 0 1 = 3 ∧ outSt.sa SAF.OUT_FUNC 1 ≠ 0 ∧ outSt.sa SAF.OUT_FB 1 < 8 ∧
    fbSt.pairOn (fbSt.sa SAF.OUT_FB 1) = true ∧ fbSt.rd SAF.OUTSTAT_RBP 0 1 ≠ 0 ∧ fbSt.rd SAF.OUTSTAT_RBN 0 1 ≠ 0 ∧
    outSt.safUp = true ∧ outSt.rd SAF.OUTSTAT_P 0 1 ≠ 0 ∧ outSt.rd SAF.OUTSTAT_N 0 1 ≠ 0 ∧
    (((safV outSt (fun v => { v with outs := [(1, { pulses := 3 })] })).sout 1).pulses + 1) % 2 = 0 ∧ fbSt.saf.samples ≠ 0 ∧
    (reqSt (.output 1 true 2) (safX 0x7A 1)).saf.queue = .output 1 true 2 :: [] ∧
    (reqSt (.output 1 true 2) (safX 0x7A 1)).safUp = true ∧
    ((reqSt (.output 1 true 2) (safX 0x7A 1)).ring 2).started = some (safX 0x7A 1) ∧
    (reqSt (.reset 2) (safX 0x79 0)).saf.queue = .reset 2 :: [] ∧
    (safV (safSt []) (fun v => { v with btn := [5] })).saf.btn = [5] ∧ demSt.saf.resets = [] ∧
    demSt.rd SAF.STAT_DEMAND ≠ 0 ∧ demSt.rd SAF.STAT_INHIBIT ≠ 0 ∧ (sInhibitPath, 0) ∉ demSt.saf.bad := by decide

def rstSt : State :=
  { (cmdSt (safX 0x79 0)) with saf := { (safSt []).saf with resets := [(2, some 2)] } }

theorem test_safety_reset : rstSt.safUp = true ∧ rstSt.pinhLow = false ∧ rstSt.saf.resets = [(2, some 2)] ∧
    (rstSt.ring 2).started = some (safX 0x79 0) ∧ rstSt.saf.act = [] ∧ rstSt.saf.reqs = [] ∧ rstSt.saf.bad = [] ∧
    rstSt.saf.fresh = [] ∧ (∀ o, o < 4 → rstSt.rd SAF.OUTSTAT_P 0 o = 0 ∧ rstSt.rd SAF.OUTSTAT_N 0 o = 0) := by decide

def safCmdSt (op inl : Nat) (l : List (Fld × Nat × Nat)) : State := { cmdSt (safX op inl) with saf := (safSt l).saf }
def railSt : State := safV (safSt []) (fun v => { v with railTest := true })
def storedSt (v : Option (Tbl Nat)) : State := safV ((safSt []).setReady 1 true) (fun x => { x with stored := v })
def crcOf : Nat := safCrc (fun f _ j => (safCmdSt 0x7B 0 []).rd f 0 j)

theorem test_island_commands : (safSt []).pinhLow = false ∧ (safSt []).safUp = true ∧
    ({ State.reset with variant := .S } : State).has 16 = false ∧
    ({ safSt [] with pinhLow := true } : State).pinhLow = true ∧ ({ safSt [] with pinhLow := true } : State).safUp = true ∧
    State.reset.has 16 = true ∧ State.reset.saf.up = false ∧ State.reset.saf.lock = false ∧ State.reset.pinhLow = false ∧
    (storedSt none).safUp = true ∧ (storedSt none).saf.restored = false ∧ (storedSt none).ready 1 = true ∧
    (storedSt none).saf.stored = none ∧ (storedSt (some [])).saf.stored = some [] ∧
    (sConfig, 0) ∉ (storedSt (some [])).saf.bad ∧ railSt.safUp = true ∧ railSt.saf.railTest = true ∧
    (safCmdSt 0x79 0 [(SAF.CFG_HOST_RESET, 0, 0)]).sa SAF.CFG_HOST_RESET = 0 ∧
    (safCmdSt 0x79 0 [(SAF.CFG_HOST_RESET, 0, 1)]).sa SAF.CFG_HOST_RESET ≠ 0 ∧ bit (safX 0x7A 0).d.inl 0 = false ∧
    bit (safX 0x7A 1).d.inl 0 = true ∧ (safCmdSt 0x7A 1 []).modeIn [.service, .factory] = false ∧
    (inMode (safCmdSt 0x7A 1 []) .service).modeIn [.service, .factory] = true ∧
    ((inMode (safCmdSt 0x7A 1 []) .service).wr SAF.STAT_DEMAND 1).demand = true ∧
    (inMode (safCmdSt 0x7B 1 []) .follow).modeAdmits .ssf = false ∧
    (inMode (safCmdSt 0x7B 1 []) .standby).modeAdmits .ssf = true := by decide

/-- A SAF_COMMIT with this crc that waits for the island. -/
def comSt (c : Nat) : State := safV (safCmdSt 0x7B c []) (fun v => { v with queue := [.commit 2 c] })

set_option maxRecDepth 20000 in
theorem test_island_commit : (comSt 1).saf.queue = .commit 2 1 :: [] ∧ (comSt 1).safUp = true ∧
    ((comSt 1).ring 2).started = some (safX 0x7B 1) ∧ safCrc (fun f _ j => (comSt 1).rd f 0 j) ≠ 1 ∧
    (comSt crcOf).saf.queue = .commit 2 (safCrc (fun f _ j => (comSt crcOf).rd f 0 j)) :: [] ∧
    (comSt 1).islandWaiting < 8 ∧ cfgOk (fun f j => (comSt crcOf).rd f 0 j) = true := by decide

theorem test_island_ready : Ready (safCmdSt 0x78 0 []) 2 0x78 (safX 0x78 0) [] ∧
    Ready (safCmdSt 0x79 0 [(SAF.CFG_HOST_RESET, 0, 1)]) 2 0x79 (safX 0x79 0) [] ∧
    Ready (safCmdSt 0x7A 1 []) 2 0x7A (safX 0x7A 1) [] ∧
    Ready (inMode (safCmdSt 0x7B crcOf []) .standby) 2 0x7B (safX 0x7B crcOf) [] :=
  ⟨⟨by decide, by decide⟩, ⟨by decide, by decide⟩, ⟨by decide, by decide⟩, ⟨by decide, by rfl⟩⟩

/-! ### Safe frames and MACs -/

def netSt (f : SafSt → SafSt) : State := safV (safSt [(SAF.NETCFG_EN, 0, 1), (SAF.NETCFG_CONN, 0, 9), (SAF.LOCAL_IP, 1, 77),
  (SAF.CFG_BOTH_REQ, 0, 0)]) f
def pduL (seq cmd : Nat) : List Nat :=
  let b := [0x49, 0x53, 0x46, 0x31, 1, 0] ++ leBytes 9 2 ++ leBytes seq 4 ++ leBytes 20 2 ++ [0, 0, cmd, 0, 0, 0] ++
    leBytes 0 8
  b ++ leBytes (pduCrc ((netSt id).sa SAF.NETSEED) b) 4
def copyF (cmd : Nat) : SafeFrame := ⟨100, 40, pduL 5 cmd, 1, 2, 30⟩
def badF : SafeFrame := ⟨100, 41, [], 1, 2, 30⟩
def lastC : SafeCmd := { seq := 5, net := 0, pdu := pduL 5 1, at_ := 20, tmo := 20 }
def macSt : State := (safSt [(SAF.LOCAL_IP, 1, 77)]).wr ETH.CFG_EN 1 1 |>.setReady 9 true |>.wr ETH.IPV4 66 1

def fullIsland : State := { netSt (fun v => { v with cmd := some lastC, netAt := [(0, 40)] }) with
  evq := List.replicate 8 ⟨evWord 0x78 [] 0⟩ }

set_option maxRecDepth 20000 in
theorem test_islandQueue : (netSt id).islandWaiting < 8 ∧ 8 ≤ fullIsland.islandWaiting ∧ fullIsland.saf.cmd = some lastC ∧
    fullIsland.safUp = true ∧ fullIsland.rd (netDown 1) = 0 := by decide

set_option maxRecDepth 20000 in
theorem test_frames : tgetD (netSt (fun v => { v with rx := [(1, [badF])] })).saf.rx 1 [] = badF :: [] ∧
    (netSt id).safUp = true ∧ (netSt id).pduValid badF = false ∧ (netSt id).sa SAF.NETCFG_EN ≠ 0 ∧
    (netSt id).pduValid (copyF 0) = true ∧ (netSt id).saf.cmd = none ∧ bit (leAt (copyF 0).pdu 16 1) 0 = false ∧
    (netSt id).pduValid (copyF 1) = true ∧ (netSt (fun v => { v with cmd := some lastC })).saf.cmd = some lastC ∧
    leAt (copyF 1).pdu 8 4 = lastC.seq ∧ lastC.seq < 2 ^ 32 ∧ lastC.net ≠ 1 ∧ lastC.confirmed = false ∧
    (copyF 1).pdu.take 28 = lastC.pdu.take 28 ∧ (netSt id).saf.timedOut = false ∧ (netSt id).rd (netDown 1) = 0 ∧
    tgetD (netSt (fun v => { v with netAt := [(0, 40)] })).saf.netAt 1 0 <
      tgetD (netSt (fun v => { v with netAt := [(0, 40)] })).saf.netAt (1 - 1) 0 ∧
    (netSt id).sa SAF.CFG_BOTH_REQ = 0 ∧ (netSt (fun v => { v with twins := [(1, 5, 60)] })).saf.twins = (1, 5, 60) :: [] ∧
    macSt.rd ETH.CFG_EN 1 ≠ 0 ∧ macSt.ready (8 + 1) = true ∧ macSt.rd ETH.IPV4 1 ≠ 0 ∧ macSt.has 16 = true ∧
    (macSt.macHeld 1 + 60 ≤ 8192) ∧ macSt.macTakes 1 .multicast = false ∧ macSt.macTakes 1 .broadcast = true ∧
    macSt.macSafeOnly .other = false ∧ macSt.macSafeOnly (.udp 1 2 badF) = false ∧
    ({ macSt with variant := .S } : State).macSafeOnly (.udp 1 2 badF) = true ∧ (safCmdSt 0x7B 0 []).mainOn = true ∧
    8192 < (safV macSt (fun v => { v with rx := [(1, List.replicate 5 { badF with len := 8000 })] })).macHeld 1 + 200 ∧
    macSt.sa SAF.LOCAL_IP 1 ≠ 0 ∧ tgetD macSt.saf.rx 1 [] = [] ∧ macSt.mainOn = true ∧ macSt.rd MDIO.STAT_BUSY = 0 ∧
    (macSt.wr MDIO.STAT_BUSY 1).rd MDIO.STAT_BUSY ≠ 0 ∧
    ({ macSt with eth := { mdio := some (false, 1, 2, 3, 4) } } : State).eth.mdio = some (false, 1, 2, 3, 4) := by decide

/-! ### Clocks and time -/

def clkX (op arg inl : Nat) : Started := cmdX op 0 0 arg inl []
def clkSt (op arg inl : Nat) (c : ClkSt) : State := { cmdSt (clkX op arg inl) with clk := c }
def refSt : State :=
  { State.reset.wr CLK.STAT_REF_LOST 1 with mm := { State.reset.mm with everReady := 2 ^ 0 + 2 ^ 10 + 2 ^ 11 } }
def epSt : State := State.reset.setBrk 3 { waitEpoch := some (64, 0) }

theorem test_clocks : State.reset.rd CLK.STAT_REF_LOST = 0 ∧ refSt.rd CLK.STAT_REF_LOST ≠ 0 ∧
    bit refSt.mm.everReady 0 = true ∧ bit refSt.mm.everReady 10 = true ∧ bit refSt.mm.everReady 11 = true ∧
    bits (clkX 0xA0 0 0).d.arg 0 3 = (clkSt 0xA0 0 0 {}).rd CLK.STAT_PLAN ∧
    bits (clkX 0xA0 3 0).d.arg 0 3 ≠ (clkSt 0xA0 3 0 {}).rd CLK.STAT_PLAN ∧ (clkSt 0xA0 3 0 {}).clk.search = none ∧
    (clkSt 0xA0 3 0 {}).clk.hop = none ∧ (clkSt 0xA0 3 0 {}).clk.searchWait = [] ∧ (clkSt 0xA0 3 0 {}).clk.hopWait = [] ∧
    (clkSt 0xA0 3 0 { search := some (3, some 2) }).clk.search = some (3, some 2) ∧
    ((clkSt 0xA0 3 0 { search := some (3, some 2) }).ring 2).started = some (clkX 0xA0 3 0) ∧
    (clkSt 0xA1 3 0 {}).rd CLK.BAND_VALID 0 (bits (clkX 0xA1 3 0).d.arg 0 3) = 0 ∧
    ((clkSt 0xA1 3 0 {}).wr CLK.BAND_VALID 1 0 3).rd CLK.BAND_VALID 0 (bits (clkX 0xA1 3 0).d.arg 0 3) ≠ 0 ∧
    (clkSt 0xA1 3 0 { hop := some (3, 2, 5) }).clk.hop = some (3, 2, 5) ∧ (epSt.brk 3).waitEpoch = some (64, 0) ∧
    0 ≤ epSt.nextEpoch ∧ ({ epSt with dtOn := true }).rd CLK.ALIGN_EN ≠ 0 ∧ ({ epSt with dtOn := true } : State).alignOff = false ∧
    (clkSt 0xA1 3 0 {}).clk.search = none ∧ ((clkSt 0xA1 3 0 {}).wr CLK.BAND_VALID 1 0 3).clk.hop = none ∧
    ((clkSt 0xA1 3 0 {}).wr CLK.BAND_VALID 1 0 3).clk.hopWait = [] ∧
    (clkSt 0xA0 3 0 { hop := some (3, 2, 5) }).clk.hop.isSome = true ∧
    (((clkSt 0xA1 3 0 { hop := some (3, 5, 5) }).wr CLK.BAND_VALID 1 0 3).clk.hop).isSome = true ∧
    ((clkSt 0xA1 3 0 { hop := some (3, 2, 5) }).ring 2).started = some (clkX 0xA1 3 0) ∧ (epSt.wr CLK.ALIGN_EN 0).rd CLK.ALIGN_EN = 0 ∧
    epSt.rdB CLK.STAT_ALIGN_OFF = epSt.alignOff ∧ (inMode (clkSt 0xA2 0 7 {}) .follow).dtSteps = false ∧
    (inMode (clkSt 0xA2 0 7 {}) .standby).dtSteps = true ∧ ((clkSt 0xA2 0 7 {}).wr PTP.CFG_SRC 0).rd PTP.CFG_SRC = 0 ∧
    ((clkSt 0xA2 0 7 {}).wr PTP.CFG_SRC 2).rd PTP.CFG_SRC ≠ 0 ∧ (clkSt 0xA2 0 7 {}).rd CLK.STAT_ALIGNED = 0 := by decide

theorem test_clocks_ready : Ready (clkSt 0xA0 3 0 {}) 2 0xA0 (clkX 0xA0 3 0) [] ∧
    Ready (clkSt 0xA1 3 0 {}) 2 0xA1 (clkX 0xA1 3 0) [] ∧
    Ready (inMode (clkSt 0xA2 0 7 {}) .standby) 2 0xA2 (clkX 0xA2 0 7) [] :=
  ⟨⟨by decide, by decide⟩, ⟨by decide, by decide⟩, ⟨by decide, by decide⟩⟩

def ptpSt (role src : Nat) (p : PtpSt) : State :=
  let s := regsSt State.reset [(PTP.CFG_EN, 0, 0, 1), (PTP.CFG_SRC, 0, 0, src), (PTP.CFG_PORT, 0, 0, 1), (PTP.CFG_PROFILE, 0, 0, 0),
    (PTP.STAT_PORT_STATE, 0, 0, role), (PTP.PPS_OUT_EN, 0, 0, 1), (PTP.CFG_SLAVE_ONLY, 0, 0, 1),
    (ETH.IPV4, 1, 0, 66)]
  { (s.wr ETH.CFG_EN 1 1).setReady 9 true with dtOn := true, dt := 5000 * dtUnit, now := 70, ptp := p }

def pduOf (m : PtpMsg) (p : Nat) : PtpPdu := { domain := 0, l2 := (ptpSt p 0 {}).ptpL2, ip := 0, tlv := false, msg := m }

theorem test_ptpTakes : (ptpSt 9 0 {}).ptpTakes 1 (pduOf (.sync 8) 9) = true ∧ (pduOf (.sync 8) 9).msg = .sync 8 ∧
    (ptpSt 9 1 {}).ptpTakes 1 (pduOf (.sync 8) 9) = true ∧ (ptpSt 6 0 {}).ptpTakes 1 (pduOf .delayReq 6) = true ∧
    (ptpSt 6 0 {}).ptpTakes 1 { pduOf .delayReq 6 with domain := 1 } = false ∧ (ptpSt 9 0 {}).ptpNet (ptpSt 9 0 {}).ptpPort = true ∧
    (ptpSt 6 0 {}).rd PTP.CFG_EN ≠ 0 ∧ 1 = (ptpSt 6 0 {}).ptpPort ∧ (ptpSt 6 0 {}).dtOn = true ∧ 0 ≠ (ptpSt 6 0 {}).ptpPort ∧
    (ptpSt 9 1 {}).dtAt (ptpSt 9 1 {}).now % 1000000000 ≤ 500000000 ∧
    (ptpSt 9 1 { syncAt := some 8, edgeAt := some 8 }).ptp.edgeAt = some 8 ∧
    (ptpSt 9 0 { syncAt := some (9 * secH), edgeAt := some 8 }).ptp.edgeAt = some 8 ∧
    (ptpSt 9 0 { syncAt := some (9 * secH), edgeAt := some 8 }).syncDue.any (fun d => decide (8 + 3 * secH < d)) = true := by decide

theorem test_port : (ptpSt 9 0 {}).rd PTP.CFG_EN ≠ 0 ∧ 1 = (ptpSt 9 0 {}).ptpPort ∧ (ptpSt 9 0 {}).dtOn = true ∧
    40 ≤ (ptpSt 9 0 {}).now ∧ (ptpSt 9 0 {}).ptpSlave = true ∧ (ptpSt 9 0 {}).rd PTP.CFG_SRC = 0 ∧
    (ptpSt 9 1 {}).ptpSlave = true ∧ (ptpSt 9 1 {}).rd PTP.CFG_SRC ≠ 0 ∧ (ptpSt 6 0 {}).rd PTP.STAT_PORT_STATE = psMaster ∧
    (ptpSt 6 0 {}).rd PTP.CFG_PROFILE = 0 ∧ tget (ptpSt 9 0 { sent := [(2, 60)] }).ptp.sent 2 = some 60 ∧
    (ptpSt 9 1 {}).rd PTP.CFG_SRC = 1 ∧ (ptpSt 9 1 {}).dtNs % 1000000000 ≤ 500000000 ∧
    (ptpSt 9 1 { syncAt := some 8 }).ptp.syncAt = some 8 ∧ (ptpSt 9 0 { edgeAt := some 8 }).ptp.edgeAt = some 8 ∧
    (ptpSt 9 0 {}).ptp.syncAt = none ∧ (ptpSt 9 0 {}).macRuns 1 = true ∧ (ptpSt 9 0 {}).rd PTP.CFG_SLAVE_ONLY ≠ 0 ∧
    (ptpSt 9 0 {}).rd PTP.CFG_PORT < 2 ∧ (ptpSt 9 0 {}).rd PTP.PPS_OUT_EN ≠ 0 ∧ (ptpSt 9 0 {}).rd PTP.CFG_SRC ≠ 1 := by decide

end Sys2Proof.Tests
end

section
/-!
PROOFS. Register reads by ring opcode (R13): an entry read, or refused, posts at most a record and collects at most a
host write; the end of its descriptor changes the ring and the completions that wait.
-/
namespace Sys2Proof.Machine

variable {s t u : State} {q : Nat} {x : Started}

/-! ### Records and host writes -/

/-- From s to t only the records that wait and the host writes collected have changed. -/
def State.OnlyReports (s t : State) : Prop := ∃ evq out, t = { s with evq := evq, out := out }

theorem State.OnlyReports.refl (s : State) : s.OnlyReports s := ⟨s.evq, s.out, rfl⟩

theorem State.OnlyReports.trans (h : s.OnlyReports t) (h' : t.OnlyReports u) : s.OnlyReports u := by
  obtain ⟨_, _, rfl⟩ := h
  obtain ⟨evq, out, rfl⟩ := h'
  exact ⟨evq, out, rfl⟩

theorem State.accessError_onlyReports (s : State) (bar size wr off : Nat) :
    s.OnlyReports (s.accessError bar size wr off) := ⟨_, s.out, rfl⟩

theorem State.hostPut_onlyReports (s : State) (a : Nat) (l : List Nat) : s.OnlyReports (s.hostPut a l) :=
  ⟨s.evq, _, rfl⟩

theorem State.OnlyReports.ring (h : s.OnlyReports t) (q : Nat) : t.ring q = s.ring q := by
  obtain ⟨_, _, rfl⟩ := h
  rfl

/-! ### Entries read -/

/-- An entry is refused with a record, or read with no effect at all. -/
theorem State.batchRead_onlyReports (s : State) (o width rsv : Nat) : s.OnlyReports (s.batchRead o width rsv).1 := by
  unfold State.batchRead
  split
  · exact s.accessError_onlyReports 0 width 0 o
  · exact .refl s

/-- One entry of a REG_BATCH_READ whose buffer begins at p: a value read goes to the entry's VALUE. -/
def State.batchReadEntry (p : Nat) (a : State × Nat × Nat) (e : Nat × Nat × Nat × Nat × Nat) : State × Nat × Nat :=
  let t := a.1.batchRead e.2.1 e.2.2.1 e.2.2.2.1
  (if t.2.2.1 = 1 then t.1.hostPut (p + 16 * e.1 + 8) (leBytes t.2.2.2 8) else t.1,
    Nat.max a.2.1 t.2.1, a.2.2 + t.2.2.1)

theorem State.batchReadEntry_onlyReports (p : Nat) (a : State × Nat × Nat) (e : Nat × Nat × Nat × Nat × Nat) :
    a.1.OnlyReports (State.batchReadEntry p a e).1 := by
  have hread := a.1.batchRead_onlyReports e.2.1 e.2.2.1 e.2.2.2.1
  unfold State.batchReadEntry
  dsimp only
  split
  · exact hread.trans (State.hostPut_onlyReports _ _ _)
  · exact hread

/-- The entries of a batch, read in order. -/
def State.batchReadAll (p : Nat) (l : List (Nat × Nat × Nat × Nat × Nat)) (a : State × Nat × Nat) :
    State × Nat × Nat := l.foldl (State.batchReadEntry p) a

theorem State.batchReadAll_onlyReports (p : Nat) (l : List (Nat × Nat × Nat × Nat × Nat)) (a : State × Nat × Nat) :
    a.1.OnlyReports (State.batchReadAll p l a).1 := by
  induction l generalizing a with
  | nil => exact .refl a.1
  | cons e l ih => exact (State.batchReadEntry_onlyReports p a e).trans (ih (State.batchReadEntry p a e))

/-! ### The two opcodes -/

/-- What REG_READ does with a ready descriptor. -/
def State.regRead (q : Nat) (x : Started) (_ : List Nat) (s : State) : State :=
  let r := s.batchRead (bits x.d.arg 0 24) 4 0
  r.1.complete q r.2.1 r.2.2.2

/-- What REG_BATCH_READ does with a ready descriptor. -/
def State.regBatchRead (q : Nat) (x : Started) (b : List Nat) (s : State) : State :=
  let r := State.batchReadAll x.d.ptr (batchOf b) (s, stOk, 0)
  r.1.complete q r.2.1 r.2.2

theorem exec_regRead (q : Nat) (s : State) : exec (.regRead q) s = State.cmd q 0x13 (State.regRead q) s := rfl

theorem exec_regBatchRead (q : Nat) (s : State) :
    exec (.regBatchRead q) s = State.cmdHost q 0x11 (State.regBatchRead q) s := rfl

/-! ### The end of a command that only reports -/

/-- From s to t a command of ring q that reads has ended: only the rings, the completions, the records and the host writes
have changed, and ring q has no descriptor started. -/
def State.ReadEnds (q : Nat) (s t : State) : Prop :=
  (t.ring q).started = none ∧
    ∃ rings cplQ evq out, t = { s with rings := rings, cplQ := cplQ, evq := evq, out := out }

/-- Completing changes the rings and the completions only, as a form of its result. -/
theorem State.complete_form (s : State) (q st res : Nat) :
    ∃ rings cplQ, s.complete q st res = { s with rings := rings, cplQ := cplQ } :=
  ⟨(s.complete q st res).rings, (s.complete q st res).cplQ,
    congrArg (fun u : State => { u with rings := (s.complete q st res).rings, cplQ := (s.complete q st res).cplQ })
      (s.complete_same q st res)⟩

theorem State.OnlyReports.complete (h : s.OnlyReports t) (hx : (s.ring q).started = some x) (st res : Nat) :
    State.ReadEnds q s (t.complete q st res) := by
  have hended : Ended t (t.complete q st res) q x st res :=
    State.complete_ended st res ((congrArg RingSt.started (h.ring q)).trans hx) rfl rfl
  obtain ⟨rings, cplQ, hform⟩ := t.complete_form q st res
  obtain ⟨evq, out, rfl⟩ := h
  exact ⟨hended.1, rings, cplQ, evq, out, hform⟩

theorem State.regRead_ends (b : List Nat) (hx : (s.ring q).started = some x) :
    State.ReadEnds q s (State.regRead q x b s) :=
  (s.batchRead_onlyReports (bits x.d.arg 0 24) 4 0).complete hx _ _

theorem State.regBatchRead_ends (b : List Nat) (hx : (s.ring q).started = some x) :
    State.ReadEnds q s (State.regBatchRead q x b s) :=
  (State.batchReadAll_onlyReports x.d.ptr (batchOf b) (s, stOk, 0)).complete hx _ _

/-- A meaning that ends the descriptor x as a read does, and leaves host memory alone, answers the same state but for the
rings, the completions and the records. -/
theorem State.ran_of_readEnds {f : State → State}
    (hf : ∀ u : State, (u.ring q).started = some x → State.ReadEnds q u (f u)) (hx : (s.ring q).started = some x) :
    (s.ran f).regs = s.regs ∧ ((s.ran f).ring q).started = none ∧
      SameBut (fun u => { u with rings := [], cplQ := [], evq := [] }) s (s.ran f) := by
  obtain ⟨hidle, _, _, _, _, hform⟩ := hf { s with out := [] } hx
  refine ⟨?_, hidle, ?_⟩
  · rw [s.ran_regs, hform]
  · simp only [SameBut, State.ran, hform]

/-- One whose values go to host memory answers the same but for that memory too. -/
theorem State.ranHost_of_readEnds {f : State → State}
    (hf : ∀ u : State, (u.ring q).started = some x → State.ReadEnds q u (f u)) (hx : (s.ring q).started = some x) :
    (s.ranHost f).regs = s.regs ∧ ((s.ranHost f).ring q).started = none ∧
      SameBut (fun u => { u with rings := [], cplQ := [], evq := [], hostMem := [] }) s (s.ranHost f) := by
  obtain ⟨hidle, _, _, _, _, hform⟩ := hf { s with out := [] } hx
  refine ⟨?_, hidle, ?_⟩
  · rw [s.ranHost_regs, hform]
  · simp only [SameBut, State.ranHost, hform]

/-- Settles O17: reading an entry posts a record or collects a host write at most, and the descriptor's end changes only
its ring and the completions that wait. -/
theorem registerReadsHaveNoEffect : Obligations.RegisterReadsHaveNoEffect := by
  unfold Obligations.RegisterReadsHaveNoEffect
  constructor
  · intro q x b s h
    exact ⟨_, (exec_regRead q s).trans (h.cmd _), State.ran_of_readEnds (fun _ => State.regRead_ends b) h.started⟩
  · intro q x b s h
    exact ⟨_, (exec_regBatchRead q s).trans (h.cmdHost _),
      State.ranHost_of_readEnds (fun _ => State.regBatchRead_ends b) h.started⟩

end Sys2Proof.Machine
end

section
/-!
PROOFS. The counters that QCLR.ALL clears (R28, R61).
-/
namespace Sys2Proof.Machine

variable {s t u : State}

/-! ### Register frames -/

theorem RegsBut.trans {l l' : List Nat} (h : RegsBut l s t) (h' : RegsBut l' t u) : RegsBut (l ++ l') s u := by
  intro f i j hk
  rw [List.mem_append, not_or] at hk
  exact (h' f i j hk.2).trans (h f i j hk.1)

theorem RegsBut.of_regs {l : List Nat} (h : t.regs = s.regs) : RegsBut l s t := fun f i j _ => State.rd_congr h f i j

theorem State.wr_regsBut (s : State) (f : Fld) (v i j : Nat) : RegsBut [f.key i j] s (s.wr f v i j) :=
  fun _ _ _ hk => s.rd_wr_other (by simpa using hk)

theorem State.each_flatMap {α β : Type} (s : State) (l : List α) (g : α → List β) (f : β → State → State) :
    s.each (l.flatMap g) f = s.each l (fun a s => s.each (g a) f) := by
  simp [State.each, List.foldl_flatMap]

/-! ### Fields set to 0 -/

/-- The fields at these places set to 0, in order. -/
def State.clearFlds (s : State) (l : List (Fld × Nat × Nat)) : State := s.each l (fun p s => s.wr p.1 0 p.2.1 p.2.2)

theorem State.clearFlds_regsBut (s : State) (l : List (Fld × Nat × Nat)) :
    RegsBut (l.map (fun p => p.1.key p.2.1 p.2.2)) s (s.clearFlds l) := by
  induction l generalizing s with
  | nil => exact .of_regs rfl
  | cons p l ih => exact (s.wr_regsBut p.1 0 p.2.1 p.2.2).trans (ih _)

/-- A field that reads 0 goes on to do so while fields whose reset value is 0 are cleared, its own among them or not. -/
theorem State.clearFlds_rd_zero {l : List (Fld × Nat × Nat)} (hl : ∀ p ∈ l, p.1.reset p.2.1 p.2.2 = 0) {f : Fld}
    {i j : Nat} (hf : f.reset i j = 0) (h : s.rd f i j = 0) : (s.clearFlds l).rd f i j = 0 := by
  induction l generalizing s with
  | nil => exact h
  | cons p l ih =>
    refine ih (fun p' hp' => hl p' (List.mem_cons_of_mem p hp')) ?_
    rw [s.rd_wr p.1 f 0 p.2.1 p.2.2 i j (fun _ => hf.trans (hl p List.mem_cons_self).symm), h, Nat.zero_mod, ite_self]

theorem State.clearFlds_rd_mem (s : State) {l : List (Fld × Nat × Nat)} (hl : ∀ p ∈ l, p.1.reset p.2.1 p.2.2 = 0)
    {f : Fld} {i j : Nat} (hm : (f, i, j) ∈ l) : (s.clearFlds l).rd f i j = 0 := by
  induction l generalizing s with
  | nil => cases hm
  | cons p l ih =>
    have hrest : ∀ p' ∈ l, p'.1.reset p'.2.1 p'.2.2 = 0 := fun p' hp' => hl p' (List.mem_cons_of_mem p hp')
    rcases List.mem_cons.mp hm with rfl | hm
    · refine State.clearFlds_rd_zero (s := s.wr f 0 i j) hrest (hl _ List.mem_cons_self) ?_
      rw [s.rd_wr_same, Nat.zero_mod]
    · exact ih _ hrest hm

theorem State.clearFlds_form (s : State) (l : List (Fld × Nat × Nat)) :
    ∃ regs, s.clearFlds l = { s with regs := regs } := by
  induction l generalizing s with
  | nil => exact ⟨s.regs, rfl⟩
  | cons p l ih => exact ih (s.wr p.1 0 p.2.1 p.2.2)

/-! ### QCLR.ALL -/

/-- STALL_CNT and HWM of every queue. -/
def queueCounters : List (Fld × Nat × Nat) :=
  (List.range 91).flatMap (fun i => [(GLB.QSTAT_STALL_CNT, 0, i), (GLB.QSTAT_HWM, 0, i)])

/-- LOST of every ring. -/
def ringCounters : List (Fld × Nat × Nat) := (List.range 64).map (fun q => (RNG.LOST, q, 0))

/-- What QCLR.ALL clears. -/
def qclrCounters : List (Fld × Nat × Nat) :=
  queueCounters ++ ringCounters ++ [(GLB.CLAMP_LOST, 0, 0), (GLB.EVT_UNROUTED, 0, 0)]

theorem qclrCounters_reset : ∀ p ∈ qclrCounters, p.1.reset p.2.1 p.2.2 = 0 := by
  intro p hp
  simp only [qclrCounters, queueCounters, ringCounters, List.mem_append, List.mem_flatMap, List.mem_map,
    List.mem_cons, List.not_mem_nil, or_false] at hp
  obtain (⟨i, -, rfl | rfl⟩ | ⟨q, -, rfl⟩) | rfl | rfl := hp <;> exact Nat.zero_mod _

theorem qclrCounters_keys : qclrCounters.map (fun p => p.1.key p.2.1 p.2.2) =
    (List.range 91).flatMap (fun i => [GLB.QSTAT_STALL_CNT.key 0 i, GLB.QSTAT_HWM.key 0 i]) ++
      (List.range 64).map (fun q => RNG.LOST.key q 0) ++ [GLB.CLAMP_LOST.key 0 0, GLB.EVT_UNROUTED.key 0 0] := by
  simp only [qclrCounters, queueCounters, ringCounters, List.map_append, List.map_flatMap, List.map_map,
    Function.comp_def, List.map_cons, List.map_nil]

theorem queue_mem_qclrCounters {i : Nat} (hi : i < 91) :
    (GLB.QSTAT_STALL_CNT, 0, i) ∈ qclrCounters ∧ (GLB.QSTAT_HWM, 0, i) ∈ qclrCounters := by
  constructor <;>
    exact List.mem_append_left _ (List.mem_append_left _ (List.mem_flatMap.mpr ⟨i, List.mem_range.mpr hi, by simp⟩))

theorem ring_mem_qclrCounters {q : Nat} (hq : q < 64) : (RNG.LOST, q, 0) ∈ qclrCounters :=
  List.mem_append_left _ (List.mem_append_right _ (List.mem_map.mpr ⟨q, List.mem_range.mpr hq, rfl⟩))

theorem State.qclr_eq (s : State) : s.qclr = (s.clearFlds qclrCounters).setMm (fun m => { m with key := 0 }) := by
  have hq : ∀ u : State, u.clearFlds queueCounters = u.each (List.range 91)
      (fun i s => (s.wr GLB.QSTAT_STALL_CNT 0 0 i).wr GLB.QSTAT_HWM 0 0 i) := fun u => u.each_flatMap _ _ _
  have hr : ∀ u : State, u.clearFlds ringCounters = u.each (List.range 64) (fun q s => s.wr RNG.LOST 0 q) := by
    intro u
    simp only [State.clearFlds, ringCounters, State.each, List.foldl_map]
  have happ : ∀ (u : State) (l l' : List (Fld × Nat × Nat)), u.clearFlds (l ++ l') = (u.clearFlds l).clearFlds l' :=
    fun u l l' => List.foldl_append
  rw [qclrCounters, happ, happ, hq, hr]
  rfl

@[simp] theorem State.setMm_regs (s : State) (f : ModeSt → ModeSt) : (s.setMm f).regs = s.regs := rfl

theorem State.qclr_rd (s : State) (f : Fld) (i j : Nat) : s.qclr.rd f i j = (s.clearFlds qclrCounters).rd f i j :=
  State.rd_congr (by rw [s.qclr_eq, State.setMm_regs]) f i j

/-- What QCLR_ALL answers outside KEEPALIVE: the clearing of the state without collected host writes. -/
theorem exec_qclrAll (s : State) (hon : s.mainOn = true) : exec .qclrAll s = .next (s.ran (·.qclr)) := by
  have heff : State.hostWrite { s with out := [] } (·.qclr) = State.qclr { s with out := [] } := by
    have hon' : ({ s with out := [] } : State).mainOn = true := hon
    rw [State.hostWrite, hon', State.when_true]
  have hrun : exec .qclrAll s = .next (s.ran (fun s => s.hostWrite (·.qclr))) := rfl
  rw [hrun, State.ran, heff, State.ran]

theorem State.ran_qclr_rd (s : State) (f : Fld) (i j : Nat) :
    (s.ran (·.qclr)).rd f i j = (State.clearFlds { s with out := [] } qclrCounters).rd f i j :=
  (State.rd_congr (s.ran_regs _) f i j).trans (State.qclr_rd _ f i j)

/-- Settles O14: QCLR.ALL is the clearing of a list of fields whose reset value is 0, and the end of a key sequence. -/
theorem qclrClearsEveryCounter : Obligations.QclrClearsEveryCounter := by
  unfold Obligations.QclrClearsEveryCounter
  intro s hon
  have hzero : ∀ {f : Fld} {i j : Nat}, (f, i, j) ∈ qclrCounters → (s.ran (·.qclr)).rd f i j = 0 := fun hm =>
    (s.ran_qclr_rd _ _ _).trans (State.clearFlds_rd_mem _ qclrCounters_reset hm)
  refine ⟨s.ran (·.qclr), exec_qclrAll s hon, fun i hi => ?_, fun q hq => hzero (ring_mem_qclrCounters hq),
    hzero (by simp [qclrCounters]), hzero (by simp [qclrCounters]), ?_, ?_⟩
  · exact ⟨hzero (queue_mem_qclrCounters hi).1, hzero (queue_mem_qclrCounters hi).2⟩
  · rw [← qclrCounters_keys]
    intro f i j hk
    rw [s.ran_qclr_rd]
    exact State.clearFlds_regsBut { s with out := [] } qclrCounters f i j hk
  · obtain ⟨regs, hform⟩ := State.clearFlds_form { s with out := [] } qclrCounters
    simp only [SameBut, State.ran, State.qclr_eq, hform, State.setMm]

end Sys2Proof.Machine
end

section
/-!
PROOFS. The FATAL hold touches legs, their blanking and their supervision alone (R131, R373), and so does the restart that
a written completion begins (R83), but for the hold's own flag and the collector.
-/
namespace Sys2Proof.Machine

variable {s t u : State}

/-! ### Holds on the legs -/

/-- From s to t only legs, comparator windows and the legs' supervision have changed. -/
def State.OnlyLegs (s t : State) : Prop :=
  ∃ legs cws phgLegs, t = { s with legs := legs, cws := cws, phgLegs := phgLegs }

theorem State.OnlyLegs.refl (s : State) : s.OnlyLegs s := ⟨s.legs, s.cws, s.phgLegs, rfl⟩

theorem State.OnlyLegs.trans (h : s.OnlyLegs t) (h' : t.OnlyLegs u) : s.OnlyLegs u := by
  obtain ⟨_, _, _, rfl⟩ := h
  obtain ⟨legs, cws, phgLegs, rfl⟩ := h'
  exact ⟨legs, cws, phgLegs, rfl⟩

theorem State.OnlyLegs.ite {c : Prop} [Decidable c] (h : s.OnlyLegs t) (h' : s.OnlyLegs u) :
    s.OnlyLegs (if c then t else u) := by
  split
  · exact h
  · exact h'

theorem State.OnlyLegs.when {c : Bool} {f : State → State} (h : s.OnlyLegs t) (hf : ∀ u, State.OnlyLegs u (f u)) :
    s.OnlyLegs (t.when c f) := .ite (h.trans (hf t)) h

theorem State.each_onlyLegs {α : Type} (s : State) (l : List α) {f : α → State → State}
    (hf : ∀ a u, State.OnlyLegs u (f a u)) : s.OnlyLegs (s.each l f) := by
  induction l generalizing s with
  | nil => exact .refl s
  | cons a l ih => exact (hf a s).trans (ih (f a s))

theorem State.modLeg_onlyLegs (s : State) (n : Nat) (f : LegSt → LegSt) : s.OnlyLegs (s.modLeg n f) :=
  ⟨_, s.cws, s.phgLegs, rfl⟩

theorem State.modSide_onlyLegs (s : State) (n : Nat) (d : Side) (f : SideSt → SideSt) : s.OnlyLegs (s.modSide n d f) :=
  s.modLeg_onlyLegs n _

theorem State.setCw_onlyLegs (s : State) (w : Nat) (c : CwSt) : s.OnlyLegs (s.setCw w c) :=
  ⟨s.legs, _, s.phgLegs, rfl⟩

theorem State.blankFrom_onlyLegs (s : State) (n t : Nat) : s.OnlyLegs (s.blankFrom n t) :=
  s.each_onlyLegs _ (fun w u => u.setCw_onlyLegs w _)

theorem State.blankDrop_onlyLegs (s : State) (n t : Nat) : s.OnlyLegs (s.blankDrop n t) :=
  s.each_onlyLegs _ (fun w u => .ite (u.setCw_onlyLegs w _) (.refl u))

theorem State.offCmd_onlyLegs (s : State) (n : Nat) (d : Side) (pipe : Nat) (alive : Bool) :
    s.OnlyLegs (s.offCmd n d pipe alive) := by
  unfold State.offCmd
  refine .ite (.ite ?_ ?_) (.ite (.refl s) (s.modSide_onlyLegs n d _))
  · exact (s.modSide_onlyLegs n d _).trans (State.blankDrop_onlyLegs _ n _)
  · exact (s.modSide_onlyLegs n d _).trans (State.blankFrom_onlyLegs _ n _)

theorem State.cutNotch_onlyLegs (s : State) (n : Nat) (d : Side) (alive : Bool) :
    s.OnlyLegs (s.cutNotch n d alive) := by
  unfold State.cutNotch
  exact .ite (.refl s) (.when (s.modSide_onlyLegs n d _) (fun u => u.blankFrom_onlyLegs n _))

theorem State.darkNow_onlyLegs (s : State) (n : Nat) (d : Side) : s.OnlyLegs (s.darkNow n d) := by
  unfold State.darkNow
  refine .ite (s.offCmd_onlyLegs n d 0 false) ?_
  exact ((s.modSide_onlyLegs n d _).trans (State.blankDrop_onlyLegs _ n _)).trans (State.blankFrom_onlyLegs _ n _)

theorem State.softOff_onlyLegs (s : State) (n : Nat) (d : Side) : s.OnlyLegs (s.softOff n d) := by
  unfold State.softOff
  refine .ite (.refl s) (.ite ?_ (s.offCmd_onlyLegs n d 0 true))
  exact (s.darkNow_onlyLegs n d).trans (State.modSide_onlyLegs _ n d _)

theorem State.notSwitching_onlyLegs (s : State) (n : Nat) : s.OnlyLegs (s.notSwitching n) := by
  unfold State.notSwitching
  exact .ite ⟨s.legs, s.cws, _, rfl⟩ (.refl s)

theorem State.noteHit_onlyLegs (s : State) (n : Nat) : s.OnlyLegs (s.noteHit n) := by
  unfold State.noteHit
  exact .ite (s.modLeg_onlyLegs n _) (.refl s)

/-- Each row of Table 5.5 ends in OFF commands, cut notches or soft turn-offs of the two sides. -/
theorem State.applyHold_onlyLegs (s : State) (n : Nat) : s.OnlyLegs (s.applyHold n) := by
  have both : ∀ {f : State → Side → State}, (∀ u d, State.OnlyLegs u (f u d)) → ∀ u,
      State.OnlyLegs u (f (f u .high) .low) := fun hf u => (hf u .high).trans (hf _ .low)
  have hoff : ∀ alive u, State.OnlyLegs u (State.offCmd (State.offCmd u n .high 0 alive) n .low 0 alive) := fun alive =>
    both (f := fun u d => u.offCmd n d 0 alive) (fun u d => u.offCmd_onlyLegs n d 0 alive)
  have hcut : ∀ alive u d, State.OnlyLegs u ((u.cutNotch n d alive).offCmd n d 0 alive) := fun alive u d =>
    (u.cutNotch_onlyLegs n d alive).trans (State.offCmd_onlyLegs _ n d 0 alive)
  have hnote : s.OnlyLegs ((s.notSwitching n).noteHit n) :=
    (s.notSwitching_onlyLegs n).trans (State.noteHit_onlyLegs _ n)
  refine hnote.trans ?_
  unfold State.applyHold
  generalize (s.notSwitching n).noteHit n = v
  have hleg : v.OnlyLegs (v.modLeg n (fun l => { l with refresh := none })) := v.modLeg_onlyLegs n _
  refine .ite (.refl v) (.ite (.when (.refl v) (fun u => u.offCmd_onlyLegs n .low 0 true)) (.ite (.refl v) ?_))
  refine .ite ?_ (.ite ?_ (.ite ?_ (.ite ?_ ?_)))
  · exact hleg.trans (both (hcut false) _)
  · exact hleg.trans (both (hcut true) _)
  · exact hleg.trans (both (fun u d => u.softOff_onlyLegs n d) _)
  · exact hleg.trans (State.offCmd_onlyLegs _ n .high 0 true)
  · exact hleg.trans (hoff true _)

theorem State.applyHolds_onlyLegs (s : State) : s.OnlyLegs s.applyHolds :=
  s.each_onlyLegs _ (fun n u => u.applyHold_onlyLegs n)

/-! ### The restart that waits for its completion -/

/-- From s to t a FATAL hold may have begun: only its flag, the collector and the legs have changed. -/
def State.OnlyFatal (s t : State) : Prop :=
  RegsBut [FLT.STAT_FATAL_HOLD.key 0 0] s t ∧
    ∃ regs flt legs cws phgLegs, t = { s with regs := regs, flt := flt, legs := legs, cws := cws, phgLegs := phgLegs }

theorem State.OnlyFatal.refl (s : State) : s.OnlyFatal s := ⟨.of_regs rfl, s.regs, s.flt, s.legs, s.cws, s.phgLegs, rfl⟩

theorem State.fatalHold_onlyFatal (s : State) (src code : Nat) : s.OnlyFatal (s.fatalHold src code) := by
  unfold State.fatalHold
  split
  · exact .refl s
  · dsimp only
    obtain ⟨legs, cws, phgLegs, hform⟩ := State.applyHolds_onlyLegs
      { s.wrB FLT.STAT_FATAL_HOLD true with flt := _ }
    rw [hform]
    refine ⟨fun f i j hk => ?_, _, _, legs, cws, phgLegs, rfl⟩
    exact s.wr_regsBut FLT.STAT_FATAL_HOLD 1 0 0 f i j hk

theorem State.restartGo_onlyFatal (s : State) : s.OnlyFatal s.restartGo := by
  unfold State.restartGo
  split
  · split
    · exact .refl s
    · exact State.fatalHold_onlyFatal { s with flt := { s.flt with restartQ := none } } 0xFFFF 0
  · exact .refl s

end Sys2Proof.Machine
end

section
/-!
PROOFS. An entry of a completion ring (R71, R73): what the write of an entry changes, the interrupt message that may
follow it (R80), and the 16 bytes of a completion (Table 3.10).
-/
namespace Sys2Proof.Machine

variable {s t : State} {q : Nat}

/-! ### Host writes and credits -/

@[simp] theorem State.hostPut_out (s : State) (a : Nat) (b : List Nat) :
    (s.hostPut a b).out = s.out ++ hostBytes a b := rfl

theorem hostBytes_within {a : Nat} {b : List Nat} {e : Nat × Nat} (h : e ∈ hostBytes a b) :
    a ≤ e.1 ∧ e.1 < a + b.length := by
  obtain ⟨i, hi, rfl⟩ := List.mem_mapIdx.mp h
  exact ⟨Nat.le_add_right a i, Nat.add_lt_add_left hi a⟩

/-- Bytes placed from a on leave host memory outside their range alone. -/
theorem placeBytes_hostBytes_other (m : Tbl Byte) {a p : Nat} {b : List Nat} (h : p < a ∨ a + b.length ≤ p) :
    tgetD (placeBytes m (hostBytes a b)) p 0 = tgetD m p 0 := by
  refine placeBytes_other m _ p (fun e he => ?_)
  have hin := hostBytes_within he
  omega

theorem leBytes_length (v n : Nat) : (leBytes v n).length = n := by
  induction n generalizing v with
  | zero => rfl
  | succ n ih => rw [leBytes, List.length_cons, ih]

theorem State.queueSpend_form (s : State) (i : Nat) :
    ∃ qUse regs, s.queueSpend i = { s with qUse := qUse, regs := regs } := by
  unfold State.queueSpend State.queueHolds
  dsimp only
  split
  · exact ⟨_, _, rfl⟩
  · exact ⟨_, _, rfl⟩

@[simp] theorem State.queueSpend_now (s : State) (i : Nat) : (s.queueSpend i).now = s.now := by
  obtain ⟨_, _, hform⟩ := s.queueSpend_form i; rw [hform]

@[simp] theorem State.queueSpend_out (s : State) (i : Nat) : (s.queueSpend i).out = s.out := by
  obtain ⟨_, _, hform⟩ := s.queueSpend_form i; rw [hform]

@[simp] theorem State.queueSpend_rings (s : State) (i : Nat) : (s.queueSpend i).rings = s.rings := by
  obtain ⟨_, _, hform⟩ := s.queueSpend_form i; rw [hform]

@[simp] theorem State.queueSpend_cplQ (s : State) (i : Nat) : (s.queueSpend i).cplQ = s.cplQ := by
  obtain ⟨_, _, hform⟩ := s.queueSpend_form i; rw [hform]

theorem State.queueSpend_regsBut (s : State) (i : Nat) : RegsBut [GLB.QSTAT_HWM.key 0 i] s (s.queueSpend i) := by
  unfold State.queueSpend State.queueHolds
  dsimp only
  split
  · exact fun f a b hk => State.wr_regsBut _ GLB.QSTAT_HWM _ 0 i f a b hk
  · exact .of_regs rfl

theorem State.ring_congr (h : t.rings = s.rings) (q : Nat) : t.ring q = s.ring q := by rw [State.ring, h, State.ring]

/-! ### The register fields that decide on a message -/

/-- The fields of a ring that decide whether it sends a message, and by which vector. -/
def irqFlds : List Fld :=
  [RNG.CFG_ENABLE, RNG.CFG_IRQEN, RNG.CFG_VECTOR, RNG.STAT_ARMED, RNG.MOD_MOD_CNT, RNG.MOD_MOD_TIME]

/-- The fields of a vector that decide what its message is. -/
def vectorFlds : List Fld := [MSIX.CTRL, MSIX.ADDR, MSIX.DATA]

/-- The keys that the write of an entry of ring q touches. -/
def entryKeys (q : Nat) : List Nat := [RNG.DEVIDX.key q 0, GLB.QSTAT_HWM.key 0 82]

/-- The keys that the interrupt check of ring q may touch. -/
def irqKeys (q : Nat) : List Nat := [RNG.STAT_ARMED.key q 0, PBA.PBA.key 0 0]

theorem irqFlds_key {f : Fld} (hf : f ∈ irqFlds) (q : Nat) : f.key q 0 ∉ entryKeys q := by
  simp only [irqFlds, List.mem_cons, List.not_mem_nil, or_false] at hf
  obtain rfl | rfl | rfl | rfl | rfl | rfl := hf <;>
    simp [entryKeys, Fld.key, Fld.addr, RNG.CFG_ENABLE, RNG.CFG_IRQEN, RNG.CFG_VECTOR, RNG.STAT_ARMED,
      RNG.MOD_MOD_CNT, RNG.MOD_MOD_TIME, RNG.DEVIDX, GLB.QSTAT_HWM] <;> omega

/-- The MSI-X table lies behind every register of the rings and of GLB. -/
theorem vectorFlds_key {f : Fld} (hf : f ∈ vectorFlds) (v : Nat) : 8 * 0x3E0000 ≤ f.key v 0 := by
  simp only [vectorFlds, List.mem_cons, List.not_mem_nil, or_false] at hf
  obtain rfl | rfl | rfl := hf <;> simp [Fld.key, Fld.addr, MSIX.CTRL, MSIX.ADDR, MSIX.DATA] <;> omega

theorem vectorFlds_key_entry {f : Fld} (hf : f ∈ vectorFlds) (v : Nat) (hq : q < 64) : f.key v 0 ∉ entryKeys q := by
  have h := vectorFlds_key hf v
  simp [entryKeys, Fld.key, Fld.addr, RNG.DEVIDX, GLB.QSTAT_HWM] at h ⊢
  omega

theorem vectorFlds_key_armed {f : Fld} (hf : f ∈ vectorFlds) (v : Nat) (hq : q < 64) :
    f.key v 0 ≠ RNG.STAT_ARMED.key q 0 := by
  have h := vectorFlds_key hf v
  simp [Fld.key, Fld.addr, RNG.STAT_ARMED] at h ⊢
  omega

theorem devIdx_key_irq (hq : q < 64) : RNG.DEVIDX.key q 0 ∉ irqKeys q := by
  simp [irqKeys, Fld.key, Fld.addr, RNG.DEVIDX, RNG.STAT_ARMED, PBA.PBA]
  omega

theorem devIdx_key_fatal (hq : q < 64) : RNG.DEVIDX.key q 0 ∉ [FLT.STAT_FATAL_HOLD.key 0 0] := by
  simp [Fld.key, Fld.addr, RNG.DEVIDX, FLT.STAT_FATAL_HOLD]
  omega

/-! ### The interrupt check -/

/-- The host write of a ring's message while a condition holds and the vector is not masked. -/
def State.irqMessage (s : State) (q : Nat) : List (Nat × Nat) :=
  let v := s.rd RNG.CFG_VECTOR q
  if s.rdB RNG.CFG_ENABLE q && s.rdB RNG.CFG_IRQEN q && s.rdB RNG.STAT_ARMED q && s.irqDue q && !s.rdB MSIX.CTRL v then
    hostBytes (4 * s.rd MSIX.ADDR v) (leBytes (s.rd MSIX.DATA v) 4)
  else []

theorem State.msix_form (s : State) (v : Nat) : ∃ regs out, s.msix v = { s with regs := regs, out := out } := by
  unfold State.msix
  split
  · exact ⟨_, s.out, rfl⟩
  · exact ⟨s.regs, _, rfl⟩

@[simp] theorem State.msix_rings (s : State) (v : Nat) : (s.msix v).rings = s.rings := by
  obtain ⟨_, _, hform⟩ := s.msix_form v; rw [hform]

@[simp] theorem State.msix_cplQ (s : State) (v : Nat) : (s.msix v).cplQ = s.cplQ := by
  obtain ⟨_, _, hform⟩ := s.msix_form v; rw [hform]

theorem State.msix_regsBut (s : State) (v : Nat) : RegsBut [PBA.PBA.key 0 0] s (s.msix v) := by
  unfold State.msix
  split
  · exact s.wr_regsBut PBA.PBA _ 0 0
  · exact .of_regs rfl

theorem State.msix_out (s : State) (v : Nat) : (s.msix v).out = s.out ++
    if s.rdB MSIX.CTRL v then [] else hostBytes (4 * s.rd MSIX.ADDR v) (leBytes (s.rd MSIX.DATA v) 4) := by
  unfold State.msix
  split
  · exact (List.append_nil s.out).symm
  · rfl

/-- Ring q as its message leaves it: disarmed, with no entry unsignalled. -/
def State.disarm (s : State) (q : Nat) : State :=
  (s.modRing q (fun r => { r with unsig := [], irq := false })).wrB RNG.STAT_ARMED false q

theorem State.irqCheck_eq (s : State) (q : Nat) : s.irqCheck q =
    if s.rdB RNG.CFG_ENABLE q && s.rdB RNG.CFG_IRQEN q && s.rdB RNG.STAT_ARMED q && s.irqDue q then
      (s.disarm q).msix (s.rd RNG.CFG_VECTOR q)
    else s := rfl

theorem State.disarm_rd_vector {f : Fld} (hf : f ∈ vectorFlds) (s : State) (v : Nat) (hq : q < 64) :
    (s.disarm q).rd f v = s.rd f v := State.rd_wr_other _ (vectorFlds_key_armed hf v hq)

theorem State.irqCheck_out (s : State) (hq : q < 64) : (s.irqCheck q).out = s.out ++ s.irqMessage q := by
  have hvec : ∀ f ∈ vectorFlds, ∀ v, (s.disarm q).rd f v = s.rd f v := fun f hf v => s.disarm_rd_vector hf v hq
  simp only [vectorFlds, List.forall_mem_cons] at hvec
  obtain ⟨hctrl, haddr, hdata, -⟩ := hvec
  rw [State.irqCheck_eq, State.irqMessage]
  split
  · next hsend =>
    rw [State.msix_out, State.rdB_eq, hctrl, haddr, hdata, ← State.rdB_eq]
    simp only [hsend, Bool.true_and]
    cases s.rdB MSIX.CTRL (s.rd RNG.CFG_VECTOR q) <;> rfl
  · next hsend => simp [hsend]

theorem State.irqCheck_regsBut (s : State) (q : Nat) : RegsBut (irqKeys q) s (s.irqCheck q) := by
  rw [State.irqCheck_eq]
  split
  · have hdis : RegsBut [RNG.STAT_ARMED.key q 0] s (s.disarm q) := fun f i j hk => State.wr_regsBut _ _ _ _ _ f i j hk
    exact hdis.trans (State.msix_regsBut _ _)
  · exact .of_regs rfl

@[simp] theorem State.irqCheck_cplQ (s : State) (q : Nat) : (s.irqCheck q).cplQ = s.cplQ := by
  rw [State.irqCheck_eq]
  split
  · exact (s.disarm q).msix_cplQ _
  · rfl

/-- A message takes nothing from its ring but what is unsignalled. -/
theorem State.irqCheck_ring (s : State) (q : Nat) :
    ∃ unsig irq, (s.irqCheck q).ring q = { s.ring q with unsig := unsig, irq := irq } := by
  rw [State.irqCheck_eq]
  split
  · exact ⟨[], false, (State.ring_congr ((s.disarm q).msix_rings _) q).trans (State.ring_setRing s q _)⟩
  · exact ⟨_, _, rfl⟩

/-- Whether a condition of R80 holds depends on the moderation registers, the ring's unsignalled entries and the time. -/
theorem State.irqDue_congr (hcnt : t.rd RNG.MOD_MOD_CNT q = s.rd RNG.MOD_MOD_CNT q)
    (htime : t.rd RNG.MOD_MOD_TIME q = s.rd RNG.MOD_MOD_TIME q) (hunsig : (t.ring q).unsig = (s.ring q).unsig)
    (hirq : (t.ring q).irq = (s.ring q).irq) (hnow : t.now = s.now) : t.irqDue q = s.irqDue q := by
  simp only [State.irqDue, State.modDue, hcnt, htime, hunsig, hirq, hnow]

/-! ### The entry -/

/-- Ring q as an entry leaves it: the slot used, one more entry unsignalled, and the phase turned over after the last
slot. -/
def State.ringWithEntry (s : State) (q : Nat) (irq : Bool) : RingSt :=
  let r := s.ring q
  { r with
    phase := if s.rd RNG.DEVIDX q + 1 = r.entries then !r.phase else r.phase
    used := r.used + 1
    unsig := r.unsig ++ [s.now]
    irq := r.irq || irq }

/-- The entry has its slot and its credit; the interrupt check is still to come. -/
def State.storeEntry (s : State) (q : Nat) (bytes : List Nat) (irq : Bool) : State :=
  let i := s.rd RNG.DEVIDX q
  let s' := (s.hostPut ((s.ring q).base + bytes.length * i) bytes).wr RNG.DEVIDX
    (if i + 1 = (s.ring q).entries then 0 else i + 1) q
  (s'.setRing q (s.ringWithEntry q irq)).queueSpend 82

variable {bytes : List Nat} {irq : Bool}

theorem State.putEntry_eq (s : State) (q : Nat) (bytes : List Nat) (irq : Bool) :
    s.putEntry q bytes irq = (s.storeEntry q bytes irq).irqCheck q := rfl

@[simp] theorem State.storeEntry_now (s : State) (q : Nat) (bytes : List Nat) (irq : Bool) :
    (s.storeEntry q bytes irq).now = s.now := State.queueSpend_now _ 82

@[simp] theorem State.storeEntry_cplQ (s : State) (q : Nat) (bytes : List Nat) (irq : Bool) :
    (s.storeEntry q bytes irq).cplQ = s.cplQ := State.queueSpend_cplQ _ 82

@[simp] theorem State.storeEntry_out (s : State) (q : Nat) (bytes : List Nat) (irq : Bool) :
    (s.storeEntry q bytes irq).out =
      s.out ++ hostBytes ((s.ring q).base + bytes.length * s.rd RNG.DEVIDX q) bytes := State.queueSpend_out _ 82

@[simp] theorem State.storeEntry_ring (s : State) (q : Nat) (bytes : List Nat) (irq : Bool) :
    (s.storeEntry q bytes irq).ring q = s.ringWithEntry q irq :=
  (State.ring_congr (State.queueSpend_rings _ 82) q).trans (State.ring_setRing _ q _)

theorem State.storeEntry_regsBut (s : State) (q : Nat) (bytes : List Nat) (irq : Bool) :
    RegsBut (entryKeys q) s (s.storeEntry q bytes irq) := by
  unfold State.storeEntry
  dsimp only
  refine RegsBut.trans (l := [RNG.DEVIDX.key q 0]) (fun f i j hk => ?_) (State.queueSpend_regsBut _ 82)
  exact State.wr_regsBut _ RNG.DEVIDX _ q 0 f i j hk

theorem State.storeEntry_devIdx (s : State) (q : Nat) (bytes : List Nat) (irq : Bool) :
    (s.storeEntry q bytes irq).rd RNG.DEVIDX q =
      if s.rd RNG.DEVIDX q + 1 = (s.ring q).entries then 0 else (s.rd RNG.DEVIDX q + 1) % 65536 := by
  have hkey : RNG.DEVIDX.key q 0 ∉ [GLB.QSTAT_HWM.key 0 82] := by
    simp [Fld.key, Fld.addr, RNG.DEVIDX, GLB.QSTAT_HWM]
    omega
  unfold State.storeEntry
  dsimp only
  rw [State.queueSpend_regsBut _ 82 _ _ _ hkey, State.setRing_rd, State.rd_wr_same]
  split
  · rfl
  · rfl

/-- Ring q with one more entry unsignalled. -/
def State.unsignalled (s : State) (q : Nat) (irq : Bool) : State :=
  s.modRing q (fun r => { r with unsig := r.unsig ++ [s.now], irq := r.irq || irq })

theorem State.unsignalled_ring (s : State) (q : Nat) (irq : Bool) : (s.unsignalled q irq).ring q =
    { s.ring q with unsig := (s.ring q).unsig ++ [s.now], irq := (s.ring q).irq || irq } := s.ring_setRing q _

/-- An entry of the enabled ring q sends its message: a condition of R80 holds with the new entry unsignalled, and the vector
is not masked. -/
def State.entrySends (s : State) (q : Nat) (irq : Bool) : Bool :=
  s.rdB RNG.CFG_IRQEN q && s.rdB RNG.STAT_ARMED q && !s.rdB MSIX.CTRL (s.rd RNG.CFG_VECTOR q) &&
    (s.unsignalled q irq).irqDue q

/-- The host write of the message that follows an entry of an enabled ring. -/
def State.entryMessage (s : State) (q : Nat) (irq : Bool) : List (Nat × Nat) :=
  if s.entrySends q irq then
    hostBytes (4 * s.rd MSIX.ADDR (s.rd RNG.CFG_VECTOR q)) (leBytes (s.rd MSIX.DATA (s.rd RNG.CFG_VECTOR q)) 4)
  else []

theorem State.entryMessage_unarmed {irq : Bool} (h : s.rd RNG.STAT_ARMED q = 0) : s.entryMessage q irq = [] := by
  simp [State.entryMessage, State.entrySends, State.rdB_eq, h]

theorem State.storeEntry_irqMessage (s : State) (bytes : List Nat) (irq : Bool) (hq : q < 64)
    (hon : s.rdB RNG.CFG_ENABLE q = true) : (s.storeEntry q bytes irq).irqMessage q = s.entryMessage q irq := by
  have hregs := s.storeEntry_regsBut q bytes irq
  have hkept : ∀ f ∈ irqFlds, (s.storeEntry q bytes irq).rd f q = s.rd f q := fun f hf =>
    hregs f q 0 (irqFlds_key hf q)
  have hvec : ∀ f ∈ vectorFlds, ∀ v, (s.storeEntry q bytes irq).rd f v = s.rd f v := fun f hf v =>
    hregs f v 0 (vectorFlds_key_entry hf v hq)
  simp only [irqFlds, vectorFlds, List.forall_mem_cons] at hkept hvec
  obtain ⟨henable, hirqen, hvector, harmed, hcnt, htime, -⟩ := hkept
  obtain ⟨hctrl, haddr, hdata, -⟩ := hvec
  have hdue : (s.storeEntry q bytes irq).irqDue q = (s.unsignalled q irq).irqDue q := by
    refine State.irqDue_congr hcnt htime ?_ ?_ (s.storeEntry_now q bytes irq)
    · rw [s.storeEntry_ring, s.unsignalled_ring, State.ringWithEntry]
    · rw [s.storeEntry_ring, s.unsignalled_ring, State.ringWithEntry]
  have hsends : ((s.storeEntry q bytes irq).rdB RNG.CFG_ENABLE q && (s.storeEntry q bytes irq).rdB RNG.CFG_IRQEN q &&
      (s.storeEntry q bytes irq).rdB RNG.STAT_ARMED q && (s.storeEntry q bytes irq).irqDue q &&
      !(s.storeEntry q bytes irq).rdB MSIX.CTRL (s.rd RNG.CFG_VECTOR q)) = s.entrySends q irq := by
    simp only [State.entrySends, hdue, State.rdB_eq, henable, hirqen, harmed, hctrl]
    rw [← State.rdB_eq, hon, Bool.true_and, Bool.and_right_comm]
  simp only [State.irqMessage, State.entryMessage, hvector, hsends, haddr, hdata]

theorem State.entryMessage_congr (hregs : t.regs = s.regs) (hrings : t.rings = s.rings) (hnow : t.now = s.now)
    (q : Nat) (irq : Bool) : t.entryMessage q irq = s.entryMessage q irq := by
  have hrd : ∀ f i, t.rd f i = s.rd f i := fun f i => State.rd_congr hregs f i 0
  have hring : t.ring q = s.ring q := State.ring_congr hrings q
  have hdue : (t.unsignalled q irq).irqDue q = (s.unsignalled q irq).irqDue q := by
    refine State.irqDue_congr (hrd _ q) (hrd _ q) ?_ ?_ hnow
    · rw [t.unsignalled_ring, s.unsignalled_ring, hring, hnow]
    · rw [t.unsignalled_ring, s.unsignalled_ring, hring]
  have hsends : t.entrySends q irq = s.entrySends q irq := by
    simp only [State.entrySends, hdue, State.rdB_eq, hrd]
  simp only [State.entryMessage, hsends, hrd]

/-- t is s with an entry of these bytes put to ring q, on top of these host writes. -/
structure State.EntryPut (s t : State) (out : List (Nat × Nat)) (q : Nat) (bytes : List Nat) (irq : Bool) : Prop where
  used : (t.ring q).used = (s.ring q).used + 1
  phase : (t.ring q).phase =
    if s.rd RNG.DEVIDX q + 1 = (s.ring q).entries then !(s.ring q).phase else (s.ring q).phase
  devIdx : t.rd RNG.DEVIDX q =
    if s.rd RNG.DEVIDX q + 1 = (s.ring q).entries then 0 else (s.rd RNG.DEVIDX q + 1) % 65536
  out : t.out = out ++ hostBytes ((s.ring q).base + bytes.length * s.rd RNG.DEVIDX q) bytes ++ s.entryMessage q irq

variable {out : List (Nat × Nat)}

theorem State.putEntry_entryPut (s : State) (bytes : List Nat) (irq : Bool) (hq : q < 64)
    (hon : s.rdB RNG.CFG_ENABLE q = true) : s.EntryPut (s.putEntry q bytes irq) s.out q bytes irq := by
  obtain ⟨unsig, irq', hring⟩ := (s.storeEntry q bytes irq).irqCheck_ring q
  rw [State.storeEntry_ring] at hring
  rw [State.putEntry_eq]
  exact
    { used := congrArg RingSt.used hring
      phase := congrArg RingSt.phase hring
      devIdx := (State.irqCheck_regsBut _ q _ q 0 (devIdx_key_irq hq)).trans (s.storeEntry_devIdx q bytes irq)
      out := by rw [State.irqCheck_out _ hq, s.storeEntry_irqMessage bytes irq hq hon, State.storeEntry_out] }

@[simp] theorem State.putEntry_cplQ (s : State) (q : Nat) (bytes : List Nat) (irq : Bool) :
    (s.putEntry q bytes irq).cplQ = s.cplQ := by
  rw [State.putEntry_eq, State.irqCheck_cplQ, State.storeEntry_cplQ]

/-- What an entry does depends on the registers, the rings and the time alone. -/
theorem State.EntryPut.congr {u : State} (h : u.EntryPut t out q bytes irq) (hregs : u.regs = s.regs)
    (hrings : u.rings = s.rings) (hnow : u.now = s.now) : s.EntryPut t out q bytes irq := by
  have hidx : u.rd RNG.DEVIDX q = s.rd RNG.DEVIDX q := State.rd_congr hregs _ q 0
  have hring : u.ring q = s.ring q := State.ring_congr hrings q
  have hmessage := State.entryMessage_congr hregs hrings hnow q irq
  obtain ⟨hused, hphase, hdev, hout⟩ := h
  rw [hring] at hused
  rw [hidx, hring] at hphase hdev hout
  rw [hmessage] at hout
  exact ⟨hused, hphase, hdev, hout⟩

/-- A FATAL hold that begins behind the entry leaves what it did as it is. -/
theorem State.EntryPut.onlyFatal {u : State} (h : s.EntryPut t out q bytes irq) (hu : t.OnlyFatal u) (hq : q < 64) :
    s.EntryPut u out q bytes irq := by
  obtain ⟨hregs, _, _, _, _, _, rfl⟩ := hu
  exact { h with devIdx := (hregs _ q 0 (devIdx_key_fatal hq)).trans h.devIdx }

theorem State.OnlyFatal.cplQ (h : s.OnlyFatal t) : t.cplQ = s.cplQ := by
  obtain ⟨-, _, _, _, _, _, rfl⟩ := h
  rfl

theorem State.putEntry_restartGo (s : State) (bytes : List Nat) (irq : Bool) (hq : q < 64)
    (hon : s.rdB RNG.CFG_ENABLE q = true) : (s.putEntry q bytes irq).restartGo.cplQ = s.cplQ ∧
      s.EntryPut (s.putEntry q bytes irq).restartGo s.out q bytes irq :=
  have hgo := (s.putEntry q bytes irq).restartGo_onlyFatal
  ⟨hgo.cplQ.trans (s.putEntry_cplQ q bytes irq), (s.putEntry_entryPut bytes irq hq hon).onlyFatal hgo hq⟩

/-! ### The completion -/

theorem cplBytes_length (c : Cpl) (phase : Bool) : (cplBytes c phase).length = 16 := by
  simp [cplBytes, leBytes_length]

/-- The oldest completion is due to ring q, which has room: its entry is put, and then a restart may begin. -/
theorem State.writeCpl_head {c : Cpl} {rest : List Cpl} (hcpl : s.cplQ = c :: rest) (hc : c.cq = q - 32)
    (his : s.ringIs q 2 = true) (hroom : (s.ring q).used < (s.ring q).entries) (hcredit : s.queueRoom 82 = true) :
    s.writeCpl q =
      ((({ s with cplQ := rest } : State).entryGoes q).putEntry q (cplBytes c (s.ring q).phase) c.irq).restartGo := by
  have hfirst : takeFirst (fun c : Cpl => decide (c.cq = q - 32)) s.cplQ = some (c, rest) := by
    rw [hcpl, takeFirst, if_pos (by simpa using hc)]
  simp [State.writeCpl, hfirst, his, hroom, hcredit]

theorem State.writeCpl_entryPut {c : Cpl} {rest : List Cpl} (hq : q < 64) (hcpl : s.cplQ = c :: rest)
    (hc : c.cq = q - 32) (his : s.ringIs q 2 = true) (hroom : (s.ring q).used < (s.ring q).entries)
    (hcredit : s.queueRoom 82 = true) : (s.writeCpl q).cplQ = rest ∧
      s.EntryPut (s.writeCpl q) s.out q (cplBytes c (s.ring q).phase) c.irq := by
  have hon : s.rdB RNG.CFG_ENABLE q = true := (Bool.and_eq_true_iff.mp his).1
  rw [State.writeCpl_head hcpl hc his hroom hcredit]
  generalize hu : ({ s with cplQ := rest } : State).entryGoes q = u
  have hregs : u.regs = s.regs := by rw [← hu]; rfl
  have hrings : u.rings = s.rings := by rw [← hu]; rfl
  have hnow : u.now = s.now := by rw [← hu]; rfl
  have hout : u.out = s.out := by rw [← hu]; rfl
  have hcplQ : u.cplQ = rest := by rw [← hu]; rfl
  rw [State.rdB_eq, ← State.rd_congr hregs, ← State.rdB_eq] at hon
  obtain ⟨hkept, hput⟩ := u.putEntry_restartGo (cplBytes c (s.ring q).phase) c.irq hq hon
  rw [hout] at hput
  exact ⟨hkept.trans hcplQ, hput.congr hregs hrings hnow⟩

theorem exec_completionWrite (s : State) (hlo : 32 ≤ q) (hhi : q < 64) :
    exec (.completionWrite q) s = .next (s.ranHost (·.writeCpl q)) := by
  have hok : cqOk q = true := by simp [cqOk, hlo, hhi]
  have hrun : exec (.completionWrite q) s = s.runHostIf (cqOk q) (·.writeCpl q) := rfl
  rw [hrun, hok, State.runHostIf_true]

/-- Settles O11: the entry's 16 bytes and the message are the only host writes collected, and a restart that begins behind
them touches neither the ring nor the completions. -/
theorem completionEntryLayout : Obligations.CompletionEntryLayout := by
  unfold Obligations.CompletionEntryLayout
  intro q c rest s hlo hhi hcpl hc his hroom hcredit
  obtain ⟨hcplQ, hput⟩ := State.writeCpl_entryPut (s := { s with out := [] }) hhi hcpl hc his hroom hcredit
  have hputs : s.EntryPut (State.writeCpl { s with out := [] } q) [] q (cplBytes c (s.ring q).phase) c.irq :=
    hput.congr rfl rfl rfl
  obtain ⟨hused, hphase, hidx, hout⟩ := hputs
  have hring := State.ring_congr (s.ranHost_rings (·.writeCpl q)) q
  have hmem := s.ranHost_hostMem (·.writeCpl q)
  rw [cplBytes_length, List.nil_append] at hout
  rw [hout] at hmem
  refine ⟨s.ranHost (·.writeCpl q), exec_completionWrite s hlo hhi, ?_, ?_, ?_, ?_, ?_⟩
  · rw [State.ranHost_cplQ, hcplQ]
  · rw [hring, hused]
  · rw [hmem]
    rfl
  · rw [hring, hphase, State.rd_congr (s.ranHost_regs _), hidx]
    split
    · exact ⟨rfl, rfl⟩
    · exact ⟨rfl, rfl⟩
  · intro harmed p hp
    rw [hmem, State.entryMessage_unarmed harmed, List.append_nil]
    refine placeBytes_hostBytes_other s.hostMem ?_
    rw [cplBytes_length]
    exact hp

end Sys2Proof.Machine
end

section
/-!
PROOFS. What the operations of the safety island change and leave: events of a fault source, records through queue 85
(R403), the mode manager, and the pulse inhibit with its holds on the legs (R380, R391).
-/
namespace Sys2Proof.Machine

variable {s t u : State} {l : List Nat}

/-! ### What a command answers -/

theorem State.ran_rd (s : State) (f : State → State) (g : Fld) (i j : Nat) :
    (s.ran f).rd g i j = (f { s with out := [] }).rd g i j := State.rd_congr (s.ran_regs f) g i j

/-- A meaning counts only by what it does without collected host writes. -/
theorem State.ran_congr {f g : State → State} (h : f { s with out := [] } = g { s with out := [] }) :
    s.ran f = s.ran g := by rw [State.ran, h, State.ran]

/-! ### Registers and fault sources -/

theorem RegsBut.mono {l' : List Nat} (h : RegsBut l s t) (hl : l ⊆ l') : RegsBut l' s t :=
  fun f i j hk => h f i j (fun hm => hk (hl hm))

/-- From s to t only fault sources and the register fields at these keys have changed. -/
def State.OnlySources (l : List Nat) (s t : State) : Prop :=
  RegsBut l s t ∧ ∃ regs flt, t = { s with regs := regs, flt := flt }

theorem State.OnlySources.refl (l : List Nat) (s : State) : s.OnlySources l s := ⟨.of_regs rfl, s.regs, s.flt, rfl⟩

theorem State.OnlySources.trans (h : s.OnlySources l t) (h' : t.OnlySources l u) : s.OnlySources l u := by
  obtain ⟨hregs, _, _, rfl⟩ := h
  obtain ⟨hregs', regs, flt, rfl⟩ := h'
  exact ⟨fun f i j hk => (hregs' f i j hk).trans (hregs f i j hk), regs, flt, rfl⟩

theorem State.OnlySources.ite {c : Prop} [Decidable c] (h : s.OnlySources l t) (h' : s.OnlySources l u) :
    s.OnlySources l (if c then t else u) := by
  split
  · exact h
  · exact h'

theorem State.OnlySources.when {c : Bool} {f : State → State} (hf : s.OnlySources l (f s)) :
    s.OnlySources l (s.when c f) := .ite hf (.refl l s)

theorem State.wr_onlySources (s : State) {f : Fld} {i j : Nat} (v : Nat) (hk : f.key i j ∈ l) :
    s.OnlySources l (s.wr f v i j) :=
  ⟨(s.wr_regsBut f v i j).mono (by simpa using hk), _, s.flt, rfl⟩

theorem State.wrB_onlySources (s : State) {f : Fld} {i j : Nat} (b : Bool) (hk : f.key i j ∈ l) :
    s.OnlySources l (s.wrB f b i j) := s.wr_onlySources (b2n b) hk

theorem State.setFsrc_onlySources (s : State) (n : Nat) (v : FltSt) : s.OnlySources l (s.setFsrc n v) :=
  ⟨.of_regs rfl, s.regs, _, rfl⟩

/-- The statistics of queue i. -/
def queueKeys (i : Nat) : List Nat := [GLB.QSTAT_HWM.key 0 i, GLB.QSTAT_STALL_CNT.key 0 i]

theorem State.queueHolds_onlySources (s : State) {i : Nat} (n : Nat) (hk : queueKeys i ⊆ l) :
    s.OnlySources l (s.queueHolds i n) := by
  unfold State.queueHolds
  exact .ite (s.wr_onlySources n (hk List.mem_cons_self)) (.refl l s)

theorem State.stallCount_onlySources (s : State) {i : Nat} (hk : queueKeys i ⊆ l) :
    s.OnlySources l (s.stallCount i) :=
  s.wr_onlySources _ (hk (List.mem_cons_of_mem _ List.mem_cons_self))

/-- What an event of fault source src may change: its own flag and the statistics of queue 76. -/
def sourceKeys (src : Nat) : List Nat := SRC.STAT_ASSERTED.key src 0 :: queueKeys 76

theorem State.fltEnqueue_onlySources (s : State) (e : FltEv) (hk : queueKeys 76 ⊆ l) :
    s.OnlySources l (s.fltEnqueue e) := by
  unfold State.fltEnqueue
  dsimp only
  refine .ite ?_ ?_
  · exact .trans ⟨.of_regs rfl, s.regs, _, rfl⟩ (State.queueHolds_onlySources _ _ hk)
  · exact (State.OnlySources.when (s.stallCount_onlySources hk)).trans (State.setFsrc_onlySources _ _ _)

theorem State.fltSet_onlySources (s : State) {src : Nat} (code : Nat) (inj : Bool) (hk : sourceKeys src ⊆ l) :
    s.OnlySources l (s.fltSet src code inj) := by
  obtain ⟨hflag, hqueue⟩ := List.cons_subset.mp hk
  unfold State.fltSet
  refine .ite (.refl l s) ?_
  exact ((s.setFsrc_onlySources _ _).trans (State.wrB_onlySources _ true hflag)).trans
    (State.fltEnqueue_onlySources _ _ hqueue)

theorem State.fltEnd_onlySources (s : State) {src : Nat} (code : Nat) (hk : sourceKeys src ⊆ l) :
    s.OnlySources l (s.fltEnd src code) := by
  unfold State.fltEnd
  exact (s.setFsrc_onlySources _ _).trans (State.wrB_onlySources _ _ (hk List.mem_cons_self))

/-! ### What the island changes -/

/-- From s to t only records, fault sources, legs with their supervision, the mode manager and the register fields at
these keys have changed: neither the island's own state, nor PINH_N, nor a ring. -/
def State.OnlyIsland (l : List Nat) (s t : State) : Prop :=
  RegsBut l s t ∧ ∃ regs mm evq flt legs cws phgLegs, t =
    { s with regs := regs, mm := mm, evq := evq, flt := flt, legs := legs, cws := cws, phgLegs := phgLegs }

theorem State.OnlyIsland.refl (l : List Nat) (s : State) : s.OnlyIsland l s :=
  ⟨.of_regs rfl, s.regs, s.mm, s.evq, s.flt, s.legs, s.cws, s.phgLegs, rfl⟩

theorem State.OnlyIsland.trans (h : s.OnlyIsland l t) (h' : t.OnlyIsland l u) : s.OnlyIsland l u := by
  obtain ⟨hregs, _, _, _, _, _, _, _, rfl⟩ := h
  obtain ⟨hregs', regs, mm, evq, flt, legs, cws, phgLegs, rfl⟩ := h'
  exact ⟨fun f i j hk => (hregs' f i j hk).trans (hregs f i j hk), regs, mm, evq, flt, legs, cws, phgLegs, rfl⟩

theorem State.OnlyIsland.mono {l' : List Nat} (h : s.OnlyIsland l t) (hl : l ⊆ l') : s.OnlyIsland l' t :=
  ⟨h.1.mono hl, h.2⟩

theorem State.OnlyIsland.ite {c : Prop} [Decidable c] (h : s.OnlyIsland l t) (h' : s.OnlyIsland l u) :
    s.OnlyIsland l (if c then t else u) := by
  split
  · exact h
  · exact h'

theorem State.OnlyIsland.when {c : Bool} {f : State → State} (hf : s.OnlyIsland l (f s)) :
    s.OnlyIsland l (s.when c f) := .ite hf (.refl l s)

theorem State.OnlySources.onlyIsland (h : s.OnlySources l t) : s.OnlyIsland l t := by
  obtain ⟨hregs, regs, flt, rfl⟩ := h
  exact ⟨hregs, regs, s.mm, s.evq, flt, s.legs, s.cws, s.phgLegs, rfl⟩

theorem State.OnlyLegs.onlyIsland (h : s.OnlyLegs t) : s.OnlyIsland l t := by
  obtain ⟨legs, cws, phgLegs, rfl⟩ := h
  exact ⟨.of_regs rfl, s.regs, s.mm, s.evq, s.flt, legs, cws, phgLegs, rfl⟩

theorem State.OnlyIsland.rd (h : s.OnlyIsland l t) {f : Fld} {i j : Nat} (hk : f.key i j ∉ l) :
    t.rd f i j = s.rd f i j := h.1 f i j hk

theorem State.OnlyIsland.saf (h : s.OnlyIsland l t) : t.saf = s.saf := by
  obtain ⟨_, _, _, _, _, _, _, _, rfl⟩ := h
  rfl

theorem State.OnlyIsland.pinhLow (h : s.OnlyIsland l t) : t.pinhLow = s.pinhLow := by
  obtain ⟨_, _, _, _, _, _, _, _, rfl⟩ := h
  rfl

theorem State.OnlyIsland.dt (h : s.OnlyIsland l t) : t.dt = s.dt := by
  obtain ⟨_, _, _, _, _, _, _, _, rfl⟩ := h
  rfl

theorem State.OnlyIsland.rings (h : s.OnlyIsland l t) : t.rings = s.rings := by
  obtain ⟨_, _, _, _, _, _, _, _, rfl⟩ := h
  rfl

theorem State.OnlyIsland.cplQ (h : s.OnlyIsland l t) : t.cplQ = s.cplQ := by
  obtain ⟨_, _, _, _, _, _, _, _, rfl⟩ := h
  rfl

/-- A record of the island goes through queue 85, or is counted there. -/
theorem State.safPost_onlyIsland (s : State) (ty : Nat) (parts : List (Nat × Nat × Nat)) (hk : queueKeys 85 ⊆ l) :
    s.OnlyIsland l (s.safPost ty parts) := by
  have hpost : s.OnlyIsland l (s.post ty parts) :=
    ⟨.of_regs rfl, s.regs, s.mm, _, s.flt, s.legs, s.cws, s.phgLegs, rfl⟩
  unfold State.safPost
  exact .ite (hpost.trans (State.queueHolds_onlySources _ _ hk).onlyIsland) (s.stallCount_onlySources hk).onlyIsland

theorem State.safPost_evq (ty : Nat) (parts : List (Nat × Nat × Nat)) (hroom : s.islandWaiting < 8) :
    (s.safPost ty parts).evq = s.evq ++ [⟨evWord ty parts s.dtLo⟩] := by
  rw [State.safPost, if_pos hroom]
  obtain ⟨-, _, _, hform⟩ := State.queueHolds_onlySources (s.post ty parts) (s.post ty parts).islandWaiting
    (List.Subset.refl (queueKeys 85))
  dsimp only
  rw [hform]
  rfl

/-! ### The inhibit -/

theorem State.modSide_ite_onlyLegs (s : State) (n : Nat) (d : Side) (c : Bool) (f : SideSt → SideSt) :
    s.OnlyLegs (if c then s else s.modSide n d f) := .ite (.refl s) (s.modSide_onlyLegs n d f)

theorem State.aliveAgain_onlyLegs (s : State) (n : Nat) : s.OnlyLegs (s.aliveAgain n) := by
  unfold State.aliveAgain
  exact .ite (.refl s) ((s.modSide_ite_onlyLegs n .high _ _).trans (State.modSide_ite_onlyLegs _ n .low _ _))

theorem State.setInhibit_onlyLegs (s : State) (b : Bool) :
    (s.wrB SAF.STAT_INHIBIT b).OnlyLegs (s.setInhibit b) := by
  unfold State.setInhibit
  exact .ite (State.applyHolds_onlyLegs _) (State.each_onlyLegs _ _ (fun n u => u.aliveAgain_onlyLegs n))

theorem State.setInhibit_onlyIsland (s : State) (b : Bool) :
    s.OnlyIsland [SAF.STAT_INHIBIT.key 0 0] (s.setInhibit b) :=
  (s.wrB_onlySources b List.mem_cons_self).onlyIsland.trans (s.setInhibit_onlyLegs b).onlyIsland

@[simp] theorem State.setInhibit_rd (s : State) (b : Bool) : (s.setInhibit b).rd SAF.STAT_INHIBIT = b2n b := by
  have hrd : (s.setInhibit b).rd SAF.STAT_INHIBIT = (s.wrB SAF.STAT_INHIBIT b).rd SAF.STAT_INHIBIT :=
    (s.setInhibit_onlyLegs b).onlyIsland.rd List.not_mem_nil
  rw [hrd, State.wrB_eq, State.rd_wr_same]
  cases b <;> rfl

@[simp] theorem State.setInhibit_evq (s : State) (b : Bool) : (s.setInhibit b).evq = s.evq := by
  obtain ⟨_, _, _, hform⟩ := s.setInhibit_onlyLegs b
  rw [hform]
  rfl

/-- The inhibit is in force, as it was or from now on. -/
def State.inhibitOn (s : State) : State := if s.rdB SAF.STAT_INHIBIT then s else s.setInhibit true

theorem State.inhibitOn_onlyIsland (s : State) : s.OnlyIsland [SAF.STAT_INHIBIT.key 0 0] s.inhibitOn := by
  unfold State.inhibitOn
  exact .ite (.refl _ s) (s.setInhibit_onlyIsland true)

theorem State.inhibitOn_rd (s : State) : s.inhibitOn.rd SAF.STAT_INHIBIT ≠ 0 := by
  unfold State.inhibitOn
  split
  · next h => simpa [State.rdB_eq] using h
  · simp

theorem State.inhibitOn_evq (s : State) : s.inhibitOn.evq = s.evq := by
  unfold State.inhibitOn
  split
  · rfl
  · exact s.setInhibit_evq true

end Sys2Proof.Machine
end

section
/-!
PROOFS. A demand of the safety island is latched (R391), and PINH_N goes low and high again (R393).
-/
namespace Sys2Proof.Machine

variable {s t u : State} {code item a : Nat}

/-! ### A demand is latched -/

/-- The island notes the code, and the instant of a first demand. -/
def State.latchNote (s : State) (code : Nat) : State :=
  s.setSaf (fun v => { v with fresh := v.fresh ++ [code], demAt := if !s.demand then s.now else v.demAt })

/-- The code becomes that of the demand, and a cause of the island's fault source. -/
def State.latchFirst (s : State) (code : Nat) : State :=
  ((s.wrB SAF.STAT_DEMAND true).wr SAF.STAT_CODE code).fltSet fsSafety code

/-- The latch before its record: a demand that is latched already keeps its code. -/
def State.latchStart (s : State) (code : Nat) : State :=
  (s.latchNote code).when (!s.demand) (·.latchFirst code)

/-- A code below 0x10 is a demand without a fault of the island (Table 17.1). -/
theorem State.safLatch_eq (item ch : Nat) (hup : s.safUp = true) (hcode : code < 16) : s.safLatch code item ch =
    ((s.latchStart code).safPost 0x78 [(1, 1, code), (2, 1, item), (8, 8, (s.latchStart code).dtNs)]).inhibitOn := by
  have hfault : ¬16 ≤ code := Nat.not_le_of_lt hcode
  simp only [State.safLatch, hup, hcode, hfault, decide_false, State.when_false, if_true, Bool.not_true,
    Bool.false_eq_true, if_false]
  rfl

/-- The register fields that a latched demand may change. -/
def latchKeys : List Nat :=
  [SAF.STAT_DEMAND.key 0 0, SAF.STAT_CODE.key 0 0, SAF.STAT_INHIBIT.key 0 0] ++ sourceKeys fsSafety ++ queueKeys 85

theorem State.latchFirst_onlySources (s : State) (code : Nat) : s.OnlySources latchKeys (s.latchFirst code) :=
  ((s.wrB_onlySources true (by decide)).trans (State.wr_onlySources _ code (by decide))).trans
    (State.fltSet_onlySources _ code false (by decide))

theorem State.latchFirst_rd (s : State) (code : Nat) :
    (s.latchFirst code).rd SAF.STAT_DEMAND = 1 ∧ (s.latchFirst code).rd SAF.STAT_CODE = code % 256 := by
  have hkept : ∀ f : Fld, f.key 0 0 ∉ sourceKeys fsSafety →
      (s.latchFirst code).rd f = ((s.wrB SAF.STAT_DEMAND true).wr SAF.STAT_CODE code).rd f := fun f hk =>
    (State.fltSet_onlySources _ code false (List.Subset.refl _)).1 f 0 0 hk
  rw [hkept _ (by decide), hkept _ (by decide), State.rd_wr_other _ (by decide), State.wrB_eq, State.rd_wr_same,
    State.rd_wr_same]
  exact ⟨rfl, rfl⟩

theorem State.latchStart_onlySources (s : State) (code : Nat) :
    (s.latchNote code).OnlySources latchKeys (s.latchStart code) := .when (State.latchFirst_onlySources _ code)

theorem State.latchStart_evq (s : State) (code : Nat) : (s.latchStart code).evq = s.evq := by
  obtain ⟨-, _, _, hform⟩ := s.latchStart_onlySources code
  rw [hform]
  rfl

theorem State.latchStart_first (code : Nat) (h : s.rd SAF.STAT_DEMAND = 0) :
    (s.latchStart code).rd SAF.STAT_DEMAND = 1 ∧ (s.latchStart code).rd SAF.STAT_CODE = code % 256 := by
  have hdem : s.demand = false := by simp [State.demand, State.rdB_eq, h]
  rw [State.latchStart, hdem]
  exact State.latchFirst_rd _ code

theorem State.latchStart_demand (s : State) (code : Nat) : (s.latchStart code).rd SAF.STAT_DEMAND ≠ 0 := by
  by_cases h : s.rd SAF.STAT_DEMAND = 0
  · rw [(State.latchStart_first code h).1]
    exact Nat.one_ne_zero
  · have hdem : s.demand = true := by simp [State.demand, State.rdB_eq, h]
    rw [State.latchStart, hdem]
    exact h

/-- What the record and the inhibit add to the latch. -/
theorem State.safLatch_afterStart (item ch : Nat) (hup : s.safUp = true) (hcode : code < 16) :
    (s.latchStart code).OnlyIsland (SAF.STAT_INHIBIT.key 0 0 :: queueKeys 85) (s.safLatch code item ch) := by
  rw [State.safLatch_eq item ch hup hcode]
  exact (State.safPost_onlyIsland _ _ _ (List.subset_cons_self _ _)).trans
    ((State.inhibitOn_onlyIsland _).mono (by simp))

theorem State.safLatch_onlyIsland (item ch : Nat) (hup : s.safUp = true) (hcode : code < 16) :
    (s.latchNote code).OnlyIsland latchKeys (s.safLatch code item ch) :=
  (s.latchStart_onlySources code).onlyIsland.trans ((State.safLatch_afterStart item ch hup hcode).mono (by decide))

theorem State.safLatch_record (item ch : Nat) (hup : s.safUp = true) (hcode : code < 16) (hroom : s.islandWaiting < 8) :
    (s.safLatch code item ch).evq = s.evq ++
      [⟨evWord 0x78 [(1, 1, code), (2, 1, item), (8, 8, (s.latchStart code).dtNs)] (s.latchStart code).dtLo⟩] := by
  have hwait : (s.latchStart code).islandWaiting < 8 := by
    rw [State.islandWaiting, s.latchStart_evq]
    exact hroom
  rw [State.safLatch_eq item ch hup hcode, State.inhibitOn_evq, State.safPost_evq _ _ hwait, s.latchStart_evq]

/-- What a latched demand leaves: the demand and the inhibit are in force, a first demand gives the code, and the record
goes out when queue 85 has a credit. -/
structure State.Latched (s t : State) (code item : Nat) : Prop where
  demand : t.rd SAF.STAT_DEMAND ≠ 0
  inhibit : t.rd SAF.STAT_INHIBIT ≠ 0
  code_first : s.rd SAF.STAT_DEMAND = 0 → t.rd SAF.STAT_CODE = code % 256
  record : s.islandWaiting < 8 →
    t.evq = s.evq ++ [⟨evWord 0x78 [(1, 1, code), (2, 1, item), (8, 8, t.dtNs)] t.dtLo⟩]

theorem State.safLatch_latched (item ch : Nat) (hup : s.safUp = true) (hcode : code < 16) :
    s.Latched (s.safLatch code item ch) code item := by
  have hafter := State.safLatch_afterStart item ch hup hcode
  refine ⟨?_, ?_, fun hfirst => ?_, fun hroom => ?_⟩
  · rw [hafter.rd (by decide)]
    exact s.latchStart_demand code
  · rw [State.safLatch_eq item ch hup hcode]
    exact State.inhibitOn_rd _
  · rw [hafter.rd (by decide), (State.latchStart_first code hfirst).2]
  · rw [State.safLatch_record item ch hup hcode hroom]
    simp only [State.dtLo, State.dtNs, hafter.dt]

/-- What a latch leaves depends on the demand before it and the records that wait. -/
theorem State.Latched.congr (h : u.Latched t code item) (hdem : u.rd SAF.STAT_DEMAND = s.rd SAF.STAT_DEMAND)
    (hevq : u.evq = s.evq) : s.Latched t code item := by
  obtain ⟨hdemand, hinhibit, hcode, hrecord⟩ := h
  rw [hdem] at hcode
  rw [State.islandWaiting, hevq] at hrecord
  exact ⟨hdemand, hinhibit, hcode, hrecord⟩

/-! ### PINH_N low -/

/-- PINH_N falls at instant a, and the outputs are held. -/
def State.pinhFalls (s : State) (a : Nat) : State := ({ s.to a with pinhLow := true } : State).applyHolds

/-- An island that runs latches PINH then. -/
def State.pinhLatch (s : State) (a : Nat) : State := ((s.pinhFalls a).wrB SAF.STAT_PINH true).safLatch sPinh 0

/-- What PINH_N low leaves of the island before it latches PINH. -/
theorem State.pinhFalls_rest (s : State) (a : Nat) : (s.pinhFalls a).pinhLow = true ∧
    (s.pinhFalls a).regs = s.regs ∧ (s.pinhFalls a).evq = s.evq ∧ (s.pinhFalls a).safUp = s.safUp := by
  obtain ⟨_, _, _, hform⟩ := State.applyHolds_onlyLegs { s.to a with pinhLow := true }
  rw [State.pinhFalls, hform]
  simp [State.safUp, State.has]

theorem exec_pinh (a : Nat) (hhigh : s.pinhLow = false) (hup : s.safUp = true) :
    exec (.pinh a) s = .next (s.ran (·.pinhLatch a)) := by
  have hexec : exec (.pinh a) s = .next (s.ran (fun s => if (s.to a).pinhLow then s.to a
      else if (s.pinhFalls a).safUp then s.pinhLatch a else s.pinhFalls a)) := rfl
  obtain ⟨-, -, -, hsaf⟩ := State.pinhFalls_rest { s with out := [] } a
  have hhigh' : (State.to { s with out := [] } a).pinhLow = false := (State.to_pinhLow _ a).trans hhigh
  have hup' : (State.pinhFalls { s with out := [] } a).safUp = true := hsaf.trans hup
  rw [hexec]
  refine congrArg _ (State.ran_congr ?_)
  simp only [hhigh', hup', if_true, Bool.false_eq_true, if_false]

theorem State.pinhLatch_latched (a : Nat) (hup : s.safUp = true) :
    (s.pinhLatch a).pinhLow = true ∧ (s.pinhLatch a).rd SAF.STAT_PINH = 1 ∧ s.Latched (s.pinhLatch a) sPinh 0 := by
  obtain ⟨hlow, hregs, hevq, hsaf⟩ := s.pinhFalls_rest a
  have hup' : ((s.pinhFalls a).wrB SAF.STAT_PINH true).safUp = true := hsaf.trans hup
  have honly := State.safLatch_onlyIsland (code := sPinh) 0 0 hup' (by decide)
  have hpinh : ((s.pinhFalls a).wrB SAF.STAT_PINH true).rd SAF.STAT_PINH = 1 := State.rd_wr_same _ _ 1 0 0
  refine ⟨honly.pinhLow.trans hlow, (honly.rd (by decide)).trans hpinh, ?_⟩
  refine (State.safLatch_latched 0 0 hup' (by decide)).congr ?_ hevq
  exact (State.rd_wr_other _ (by decide)).trans (State.rd_congr hregs _ 0 0)

/-! ### PINH_N high -/

/-- PINH_N rises at instant a, and its 10 ms begin. -/
def State.pinhRises (s : State) (a : Nat) : State :=
  ({ s.to a with pinhLow := false } : State).setSaf (fun v => { v with pinhAt := (s.to a).now })

/-- Unless the outputs stay inhibited, link-alive pulses resume. -/
def State.aliveIfFree (s : State) : State :=
  if s.inhibited then s else s.each (List.range 96) (fun n u => u.aliveAgain n)

/-- An island that runs reports PINH_N high. -/
def State.pinhRelease (s : State) (a : Nat) : State := ((s.pinhRises a).wrB SAF.STAT_PINH false).aliveIfFree

theorem State.aliveIfFree_onlyLegs (s : State) : s.OnlyLegs s.aliveIfFree := by
  unfold State.aliveIfFree
  exact .ite (.refl s) (s.each_onlyLegs _ (fun n u => u.aliveAgain_onlyLegs n))

theorem exec_pinhNRise (a : Nat) (hlow : s.pinhLow = true) (hup : s.safUp = true) :
    exec (.pinhNRise a) s = .next (s.ran (·.pinhRelease a)) := by
  have hexec : exec (.pinhNRise a) s = .next (s.ran (fun s => if !(s.to a).pinhLow then s.to a
      else ((s.pinhRises a).when (s.pinhRises a).safUp (·.wrB SAF.STAT_PINH false)).aliveIfFree)) := rfl
  have hlow' : (State.to { s with out := [] } a).pinhLow = true := (State.to_pinhLow _ a).trans hlow
  have hup' : (State.pinhRises { s with out := [] } a).safUp = true := by
    simpa [State.safUp, State.has, State.pinhRises, State.setSaf] using hup
  rw [hexec]
  refine congrArg _ (State.ran_congr ?_)
  simp only [hlow', hup', State.pinhRelease, State.when_true, Bool.not_true, Bool.false_eq_true, if_false]

theorem State.pinhRelease_onlyIsland (s : State) (a : Nat) :
    (s.pinhRises a).OnlyIsland [SAF.STAT_PINH.key 0 0] (s.pinhRelease a) :=
  (State.wrB_onlySources _ false List.mem_cons_self).onlyIsland.trans (State.aliveIfFree_onlyLegs _).onlyIsland

theorem State.pinhRelease_pinhLow (s : State) (a : Nat) : (s.pinhRelease a).pinhLow = false :=
  (s.pinhRelease_onlyIsland a).pinhLow

theorem State.pinhRelease_rd (s : State) (a : Nat) {f : Fld} (hf : f.key 0 0 ∉ [SAF.STAT_PINH.key 0 0]) :
    (s.pinhRelease a).rd f = s.rd f := ((s.pinhRelease_onlyIsland a).rd hf).trans (s.to_rd a f 0 0)

end Sys2Proof.Machine
end

section
/-!
PROOFS. The safety cycle that evaluates a safety reset while nothing is asked of the outputs and no condition persists
(R386, R400), and the settlement of R393.
-/
namespace Sys2Proof.Machine

variable {s t u : State} {l : List Nat} {o q : Nat}

/-! ### Folds -/

/-- A fold whose steps each touch only the island's part, where a property holds that such steps keep. -/
theorem State.each_onlyIsland {α : Type} {P : State → Prop} {as : List α} {f : α → State → State}
    (hkeep : ∀ {u v : State}, u.OnlyIsland l v → P u → P v) (hf : ∀ a ∈ as, ∀ u, P u → u.OnlyIsland l (f a u))
    (hs : P s) : s.OnlyIsland l (s.each as f) := by
  induction as generalizing s with
  | nil => exact .refl l s
  | cons a as ih =>
    have ha := hf a List.mem_cons_self s hs
    exact ha.trans (ih (fun b hb => hf b (List.mem_cons_of_mem a hb)) (hkeep ha hs))

theorem State.each_eq_self {α : Type} {as : List α} {f : α → State → State} (hf : ∀ a ∈ as, f a s = s) :
    s.each as f = s := by
  induction as with
  | nil => rfl
  | cons a as ih =>
    rw [State.each_cons, hf a List.mem_cons_self]
    exact ih (fun b hb => hf b (List.mem_cons_of_mem a hb))

/-! ### An island with nothing asked and no condition -/

/-- The island has its reset configuration, no request, no fault that persists, no fresh code and no PINH_N low, and its
safe outputs are off. -/
structure State.Quiet (s : State) : Prop where
  act : s.saf.act = []
  reqs : s.saf.reqs = []
  bad : s.saf.bad = []
  fresh : s.saf.fresh = []
  pinh : s.pinhLow = false
  off : ∀ o, o < 4 → s.rd SAF.OUTSTAT_P 0 o = 0 ∧ s.rd SAF.OUTSTAT_N 0 o = 0

/-- The safe outputs read back off. -/
def State.ReadsOff (s : State) : Prop :=
  ∀ o, o < 4 → s.rd SAF.OUTSTAT_RBP 0 o = 0 ∧ s.rd SAF.OUTSTAT_RBN 0 o = 0

/-- Register keys other than those of the safe outputs' commands. -/
def SparesOutputs (l : List Nat) : Prop := ∀ o < 4, SAF.OUTSTAT_P.key 0 o ∉ l ∧ SAF.OUTSTAT_N.key 0 o ∉ l

theorem State.Quiet.onlyIsland (hl : SparesOutputs l) (h : s.OnlyIsland l t) (hs : s.Quiet) : t.Quiet := by
  obtain ⟨hact, hreqs, hbad, hfresh, hpinh, hoff⟩ := hs
  rw [← h.saf] at hact hreqs hbad hfresh
  refine ⟨hact, hreqs, hbad, hfresh, h.pinhLow.trans hpinh, fun o ho => ?_⟩
  obtain ⟨hp, hn⟩ := hl o ho
  rw [h.rd hp, h.rd hn]
  exact hoff o ho

/-- What the contactor states of a cycle may change in the registers while no output has a function. -/
def contactorKeys : List Nat := (List.range 4).map (fun o => SAF.OUTSTAT_STATE.key 0 o) ++ queueKeys 85

theorem contactorKeys_spareOutputs : SparesOutputs contactorKeys := by
  unfold SparesOutputs
  decide

theorem State.sa_reset (h : s.saf.act = []) (f : Fld) (j : Nat) : s.sa f j = f.reset 0 j := by rw [State.sa, h]; rfl

theorem State.safBad_absent (h : s.saf.bad = []) (code item ch : Nat) : s.safBad code item ch false = s := by
  simp [State.safBad, h]

theorem State.Quiet.readbackCheck (h : s.Quiet) (hread : s.ReadsOff) (ho : o < 4) : s.readbackCheck o = s := by
  obtain ⟨hp, hn⟩ := h.off o ho
  obtain ⟨hrp, hrn⟩ := hread o ho
  simp [State.readbackCheck, State.rdB_eq, hp, hn, hrp, hrn, State.safBad_absent h.bad]

theorem State.contactorsHold_onlyIsland (s : State) : s.OnlyIsland l s.contactorsHold := by
  unfold State.contactorsHold
  exact .when s.applyHolds_onlyLegs.onlyIsland

/-- An output without a function has the contactor state NONE, which concerns neither DC nor AC. -/
theorem State.contactorIs_none (hact : s.saf.act = []) (hbad : s.saf.bad = []) (ho : o < 4) :
    s.OnlyIsland contactorKeys (s.contactorIs o 0) := by
  have hkeys : SAF.OUTSTAT_STATE.key 0 o ∈ contactorKeys :=
    List.mem_append_left _ (List.mem_map.mpr ⟨o, List.mem_range.mpr ho, rfl⟩)
  unfold State.contactorIs
  dsimp only
  generalize hu : s.when _ _ = u
  have hpost : s.OnlyIsland contactorKeys u := by
    rw [← hu]
    exact .when ((s.wr_onlySources 0 hkeys).onlyIsland.trans
      (State.safPost_onlyIsland _ _ _ (List.subset_append_right _ _)))
  have hfn : u.sa SAF.OUT_FUNC o = 0 := State.sa_reset ((congrArg SafSt.act hpost.saf).trans hact) _ o
  have hhold : u.OnlyIsland contactorKeys u.contactorsHold := u.contactorsHold_onlyIsland
  have hbad' : u.contactorsHold.saf.bad = [] := by rw [hhold.saf, hpost.saf, hbad]
  simp only [hfn, Nat.zero_ne_one, OfNat.zero_ne_ofNat, if_false, decide_false, State.safBad_absent hbad']
  exact hpost.trans hhold

theorem State.Quiet.contactorEval (h : s.Quiet) (ho : o < 4) : s.OnlyIsland contactorKeys (s.contactorEval o) := by
  have hfunc : s.sa SAF.OUT_FUNC o = 0 := State.sa_reset h.act _ o
  have hstate : ∀ tfb, s.contactorState o tfb = 0 := fun tfb => by simp [State.contactorState, hfunc]
  unfold State.contactorEval
  rw [hstate]
  exact .ite (.refl _ s) (State.contactorIs_none h.act h.bad ho)

/-- A demand finds an output off that is off. -/
theorem State.Quiet.soutCycle (h : s.Quiet) (ho : o < 4) : s.soutCycle o = s := by
  obtain ⟨hp, hn⟩ := h.off o ho
  have hset : s.soutSet o false = s := by simp [State.soutSet, State.rdB_eq, hp, hn]
  simp [State.soutCycle, h.reqs, hset]

/-- No code of Table 17.1 persists. -/
theorem State.Quiet.persisting (h : s.Quiet) : s.persisting = [] := by
  have hfunc : ∀ i, s.sa SAF.IN_FUNC i = 0 := fun i => State.sa_reset h.act _ i
  have hnet : s.saB SAF.NETCFG_EN = false := by
    rw [State.saB, State.sa_reset h.act]
    rfl
  cases hconf : s.saf.conf <;> simp [State.persisting, hfunc, hnet, h.pinh, h.bad, h.fresh, hconf]

/-! ### A safety reset that is granted -/

/-- The demand, its code and the fault indication end. -/
def State.demandCleared (s : State) : State :=
  ((s.wrB SAF.STAT_DEMAND false).wr SAF.STAT_CODE 0).wrB SAF.STAT_FAULT false

/-- The mode manager waits for no reset. -/
def State.resetNotDue (s : State) : State := { s with mm := { s.mm with resetDue := false } }

theorem State.resetNotDue_onlyIsland (s : State) : s.OnlyIsland l s.resetNotDue :=
  ⟨.of_regs rfl, s.regs, _, s.evq, s.flt, s.legs, s.cws, s.phgLegs, rfl⟩

/-- The demand ends with its fault source, and the reset is recorded. -/
def State.demandEnds (s : State) (src : Nat) : State :=
  (s.fltEnd fsSafety (s.rd SAF.STAT_CODE)).demandCleared.resetNotDue.safPost 0x7A [(1, 1, 0), (2, 1, src)]

theorem State.safReset_granted (h : s.persisting = []) (src q : Nat) :
    s.safReset src (some q) = (s.demandEnds src).complete q stOk 0 := by
  rw [State.safReset, h]
  rfl

theorem State.demandCleared_rd (s : State) : s.demandCleared.rd SAF.STAT_DEMAND = 0 ∧
    s.demandCleared.rd SAF.STAT_CODE = 0 ∧ s.demandCleared.rd SAF.STAT_FAULT = 0 := by
  simp only [State.demandCleared, State.wrB_eq]
  refine ⟨?_, ?_, State.rd_wr_same _ _ _ _ _⟩
  · rw [State.rd_wr_other _ (by decide), State.rd_wr_other _ (by decide), State.rd_wr_same]
    rfl
  · rw [State.rd_wr_other _ (by decide), State.rd_wr_same]
    rfl

/-- The record of the reset touches queue 85 alone. -/
theorem State.demandEnds_afterCleared (s : State) (src : Nat) :
    (s.fltEnd fsSafety (s.rd SAF.STAT_CODE)).demandCleared.OnlyIsland (queueKeys 85) (s.demandEnds src) :=
  (State.resetNotDue_onlyIsland _).trans (State.safPost_onlyIsland _ _ _ (List.Subset.refl _))

theorem State.demandEnds_rd (s : State) (src : Nat) : (s.demandEnds src).rd SAF.STAT_DEMAND = 0 ∧
    (s.demandEnds src).rd SAF.STAT_CODE = 0 ∧ (s.demandEnds src).rd SAF.STAT_FAULT = 0 := by
  have hafter := s.demandEnds_afterCleared src
  rw [hafter.rd (by decide), hafter.rd (by decide), hafter.rd (by decide)]
  exact State.demandCleared_rd _

/-- The register fields that a granted reset may change. -/
def resetKeys : List Nat := [SAF.STAT_DEMAND.key 0 0, SAF.STAT_CODE.key 0 0, SAF.STAT_FAULT.key 0 0] ++
  sourceKeys fsSafety ++ queueKeys 85

theorem State.demandCleared_onlySources (s : State) : s.OnlySources resetKeys s.demandCleared :=
  ((s.wrB_onlySources false (by decide)).trans (State.wr_onlySources _ 0 (by decide))).trans
    (State.wrB_onlySources _ false (by decide))

theorem State.demandEnds_onlyIsland (s : State) (src : Nat) : s.OnlyIsland resetKeys (s.demandEnds src) :=
  ((s.fltEnd_onlySources _ (by decide)).trans (State.demandCleared_onlySources _)).onlyIsland.trans
    ((s.demandEnds_afterCleared src).mono (by decide))

/-! ### The end of the cycle -/

/-- The inhibit ends with the demand. -/
def State.inhibitUpdate (s : State) : State :=
  if !s.demand && s.rdB SAF.STAT_INHIBIT then s.setInhibit false else s

theorem State.inhibitUpdate_onlyIsland (s : State) : s.OnlyIsland [SAF.STAT_INHIBIT.key 0 0] s.inhibitUpdate := by
  unfold State.inhibitUpdate
  exact .ite (s.setInhibit_onlyIsland false) (.refl _ s)

theorem State.inhibitUpdate_rd (h : s.rd SAF.STAT_DEMAND = 0) : s.inhibitUpdate.rd SAF.STAT_INHIBIT = 0 := by
  have hdem : s.demand = false := by simp [State.demand, State.rdB_eq, h]
  rw [State.inhibitUpdate, hdem]
  split
  · exact s.setInhibit_rd false
  · next hoff => simpa [State.rdB_eq] using hoff

/-- The reset requests of the cycle are evaluated, and its fresh codes are old ones. -/
def State.resetsEvaluated (s : State) : State :=
  ((s.setSaf (fun v => { v with reqs := [], resets := [] })).each s.saf.resets
    (fun r s => s.safReset r.1 r.2)).setSaf (fun v => { v with fresh := [] })

theorem State.Quiet.requestsTaken (h : s.Quiet) :
    (s.setSaf (fun v => { v with reqs := [], resets := [] })).Quiet :=
  ⟨h.act, rfl, h.bad, h.fresh, h.pinh, h.off⟩

theorem Ended.congr {s' : State} {x : Started} {st res : Nat} (h : Ended s t q x st res)
    (hs : s'.rings = s.rings ∧ s'.cplQ = s.cplQ) (ht : u.rings = t.rings ∧ u.cplQ = t.cplQ) :
    Ended s' u q x st res := by
  obtain ⟨hrings, hcplQ⟩ := hs
  obtain ⟨hrings', hcplQ'⟩ := ht
  have hend : ∀ lo, cplAtEnd s' q x st res lo = cplAtEnd s q x st res lo := fun lo => by
    simp only [cplAtEnd, State.ring_congr hrings]
  simp only [Ended, State.ring_congr hrings', hcplQ, hcplQ', hend]
  exact h

/-- A quiet island grants the reset that ring q has asked for: the demand ends, and so does the ring's descriptor. -/
theorem State.Quiet.resetsEvaluated (h : s.Quiet) {src : Nat} (hreset : s.saf.resets = [(src, some q)]) {x : Started}
    (hx : (s.ring q).started = some x) : s.resetsEvaluated.rd SAF.STAT_DEMAND = 0 ∧
      s.resetsEvaluated.rd SAF.STAT_CODE = 0 ∧ s.resetsEvaluated.rd SAF.STAT_FAULT = 0 ∧
      Ended s s.resetsEvaluated q x stOk 0 := by
  have hgrant := State.safReset_granted h.requestsTaken.persisting src q
  rw [State.resetsEvaluated, hreset, State.each_cons, State.each_nil, hgrant]
  generalize hu : s.setSaf (fun v => { v with reqs := [], resets := [] }) = u
  have honly := u.demandEnds_onlyIsland src
  obtain ⟨hdem, hcode, hfault⟩ := u.demandEnds_rd src
  generalize u.demandEnds src = v at honly hdem hcode hfault ⊢
  have hrings : v.rings = s.rings := by
    rw [honly.rings, ← hu]
    rfl
  have hcplQ : v.cplQ = s.cplQ := by
    rw [honly.cplQ, ← hu]
    rfl
  have hring := State.ring_congr hrings q
  have hended : Ended s (v.complete q stOk 0) q x stOk 0 :=
    State.complete_ended stOk 0 ((congrArg RingSt.started hring).trans hx) hcplQ (congrArg RingSt.cq hring)
  have hrd : ∀ f : Fld, ((v.complete q stOk 0).setSaf (fun v => { v with fresh := [] })).rd f = v.rd f := fun f =>
    State.rd_congr (State.complete_regs q stOk 0) f 0 0
  exact ⟨(hrd _).trans hdem, (hrd _).trans hcode, (hrd _).trans hfault, hended.congr ⟨rfl, rfl⟩ ⟨rfl, rfl⟩⟩

/-! ### The cycle -/

/-- The instant of the next cycle has come. -/
def State.cycleAt (s : State) : State :=
  (s.to (s.saf.base + s.safNext msH s.saf.cycles * msH)).setSaf
    (fun v => { v with cycles := s.safNext msH s.saf.cycles })

/-- A PINH_N that was low already is found in the first cycle (R468). -/
def State.cycleFinds (s : State) : State :=
  s.cycleAt.when (s.saf.cycles = 0 && s.pinhLow && !s.saf.fresh.contains sPinh) (·.safLatch sPinh 0)

/-- The readbacks of the safe outputs. -/
def State.readbacks (s : State) (rb : Nat) : State :=
  s.each (List.range 4) (fun o s =>
    (s.wrB SAF.OUTSTAT_RBP (bit rb (2 * o)) 0 o).wrB SAF.OUTSTAT_RBN (bit rb (2 * o + 1)) 0 o)

/-- What is asked of output o, and the contactor state of a command that has changed. -/
def State.outputCycle (o : Nat) (s : State) : State :=
  let was := (s.sout o).chgAt
  let cmd := s.rdB SAF.OUTSTAT_P 0 o && s.rdB SAF.OUTSTAT_N 0 o
  let s := s.soutCycle o
  if ((s.sout o).chgAt ≠ was || (s.rdB SAF.OUTSTAT_P 0 o && s.rdB SAF.OUTSTAT_N 0 o) ≠ cmd)
      && s.sa SAF.OUT_FUNC o ≠ 0 then s.contactorIs o 3
  else s

/-- The checks of a cycle, and its outputs. -/
def State.outputsCycle (s : State) (rails : Bool) : State :=
  (((s.safBad sInhibitPath 0 0 (!rails)).each (List.range 4) (fun o s => s.readbackCheck o)).each (List.range 4)
    (fun o s => s.contactorEval o)).each (List.range 4) State.outputCycle

/-- A safety cycle of an island that runs. -/
def State.safetyCycle (s : State) (rb : Nat) (rails : Bool) : State :=
  ((s.cycleFinds.readbacks rb).outputsCycle rails).resetsEvaluated.inhibitUpdate

theorem execSafetyCycle_eq (rb : Nat) (rails : Bool) (s : State) : execSafetyCycle rb rails s =
    s.run (fun s => if !s.safUp then s else s.safetyCycle rb rails) := by
  unfold execSafetyCycle State.safetyCycle State.inhibitUpdate State.resetsEvaluated State.outputsCycle
    State.outputCycle State.readbacks State.cycleFinds State.cycleAt
  with_reducible rfl

theorem exec_safetyCycle (rb : Nat) (rails : Bool) (hup : s.safUp = true) :
    exec (.safetyCycle rb rails) s = .next (s.ran (·.safetyCycle rb rails)) := by
  have hexec : exec (.safetyCycle rb rails) s = execSafetyCycle rb rails s := rfl
  have hup' : ({ s with out := [] } : State).safUp = true := hup
  rw [hexec, execSafetyCycle_eq, State.run_eq]
  refine congrArg _ (State.ran_congr ?_)
  simp only [hup', Bool.not_true, Bool.false_eq_true, if_false]

/-- A quiet island's outputs stay as they are through a cycle whose rails read back as commanded. -/
theorem State.Quiet.outputsCycle (h : s.Quiet) (hread : s.ReadsOff) :
    s.OnlyIsland contactorKeys (s.outputsCycle true) := by
  have hkeep : ∀ {u v : State}, u.OnlyIsland contactorKeys v → u.Quiet → v.Quiet := fun huv hu =>
    hu.onlyIsland contactorKeys_spareOutputs huv
  have hchecks : s.each (List.range 4) (fun o s => s.readbackCheck o) = s :=
    State.each_eq_self (fun o ho => h.readbackCheck hread (List.mem_range.mp ho))
  have hcontactors : s.OnlyIsland contactorKeys (s.each (List.range 4) (fun o s => s.contactorEval o)) :=
    State.each_onlyIsland hkeep (fun o ho u hu => hu.contactorEval (List.mem_range.mp ho)) h
  have hsame : ∀ {u : State}, u.Quiet → ∀ o ∈ List.range 4, u.outputCycle o = u := by
    intro u hu o ho
    simp [State.outputCycle, hu.soutCycle (List.mem_range.mp ho)]
  rw [State.outputsCycle, Bool.not_true, State.safBad_absent h.bad, hchecks,
    State.each_eq_self (hsame (hkeep hcontactors h))]
  exact hcontactors

/-- The readbacks of the safe outputs as fields. -/
def readbackFlds : List (Fld × Nat × Nat) :=
  (List.range 4).flatMap (fun o => [(SAF.OUTSTAT_RBP, 0, o), (SAF.OUTSTAT_RBN, 0, o)])

/-- The keys of the readbacks of the safe outputs. -/
def readbackKeys : List Nat := readbackFlds.map (fun p => p.1.key p.2.1 p.2.2)

theorem readbackKeys_spareOutputs : SparesOutputs readbackKeys := by
  unfold SparesOutputs
  decide

theorem State.readbacks_zero (s : State) : s.readbacks 0 = s.clearFlds readbackFlds := by
  have hbit : ∀ i, bit 0 i = false := fun i => Nat.zero_testBit i
  rw [State.clearFlds, readbackFlds, State.each_flatMap]
  simp [State.readbacks, hbit, State.wrB_eq]

theorem State.readbacks_zero_onlyIsland (s : State) : s.OnlyIsland readbackKeys (s.readbacks 0) := by
  obtain ⟨regs, hform⟩ := s.clearFlds_form readbackFlds
  have hregs := s.clearFlds_regsBut readbackFlds
  rw [s.readbacks_zero]
  rw [hform] at hregs ⊢
  exact ⟨hregs, regs, s.mm, s.evq, s.flt, s.legs, s.cws, s.phgLegs, rfl⟩

theorem State.readbacks_zero_readsOff (s : State) : (s.readbacks 0).ReadsOff := by
  have hreset : ∀ p ∈ readbackFlds, p.1.reset p.2.1 p.2.2 = 0 := by decide
  have hmem : ∀ {o}, o < 4 → (SAF.OUTSTAT_RBP, 0, o) ∈ readbackFlds ∧ (SAF.OUTSTAT_RBN, 0, o) ∈ readbackFlds := by
    intro o ho
    constructor <;> exact List.mem_flatMap.mpr ⟨o, List.mem_range.mpr ho, by simp⟩
  rw [s.readbacks_zero]
  intro o ho
  exact ⟨s.clearFlds_rd_mem hreset (hmem ho).1, s.clearFlds_rd_mem hreset (hmem ho).2⟩

/-- Nothing is found of PINH_N, and the instant of the cycle comes. -/
theorem State.Quiet.cycleFinds (h : s.Quiet) : s.cycleFinds = s.cycleAt := by
  rw [State.cycleFinds, h.pinh, Bool.and_false, Bool.false_and, State.when_false]

theorem State.cycleAt_form (s : State) :
    ∃ n k, s.cycleAt = (s.to n).setSaf (fun v => { v with cycles := k }) := ⟨_, _, rfl⟩

/-- The instant of the cycle takes nothing from a quiet island, from its reset requests or from a ring. -/
theorem State.Quiet.cycleAt (h : s.Quiet) : s.cycleAt.Quiet ∧ s.cycleAt.saf.resets = s.saf.resets ∧
    s.cycleAt.rings = s.rings ∧ s.cycleAt.cplQ = s.cplQ := by
  obtain ⟨n, k, hform⟩ := s.cycleAt_form
  obtain ⟨hact, hreqs, hbad, hfresh, hpinh, hoff⟩ := h
  rw [hform]
  rw [← s.to_saf n] at hact hreqs hbad hfresh
  have hresets : (s.to n).saf.resets = s.saf.resets := by rw [s.to_saf n]
  refine ⟨⟨hact, hreqs, hbad, hfresh, (s.to_pinhLow n).trans hpinh, fun o ho => ?_⟩, hresets, s.to_rings n,
    s.to_cplQ n⟩
  have hrd : ∀ f : Fld, ((s.to n).setSaf (fun v => { v with cycles := k })).rd f 0 o = s.rd f 0 o :=
    fun f => s.to_rd n f 0 o
  rw [hrd, hrd]
  exact hoff o ho

/-- The register fields that the readbacks and the contactor states may change. -/
def quietKeys : List Nat := readbackKeys ++ contactorKeys

theorem quietKeys_spareOutputs : SparesOutputs quietKeys := by
  unfold SparesOutputs
  decide

/-- The readbacks that show the outputs off, and the checks behind them. -/
theorem State.Quiet.checksCycle (h : s.Quiet) : s.OnlyIsland quietKeys ((s.readbacks 0).outputsCycle true) := by
  have hread := s.readbacks_zero_onlyIsland
  have hquiet := h.onlyIsland readbackKeys_spareOutputs hread
  exact (hread.mono (List.subset_append_left _ _)).trans
    ((hquiet.outputsCycle s.readbacks_zero_readsOff).mono (List.subset_append_right _ _))

/-- The safety cycle of a quiet island in which ring q has asked for a reset: the demand and the inhibit end. -/
theorem State.Quiet.safetyCycle (h : s.Quiet) {src : Nat} (hreset : s.saf.resets = [(src, some q)]) {x : Started}
    (hx : (s.ring q).started = some x) : (s.safetyCycle 0 true).rd SAF.STAT_DEMAND = 0 ∧
      (s.safetyCycle 0 true).rd SAF.STAT_CODE = 0 ∧ (s.safetyCycle 0 true).rd SAF.STAT_FAULT = 0 ∧
      (s.safetyCycle 0 true).rd SAF.STAT_INHIBIT = 0 ∧ Ended s (s.safetyCycle 0 true) q x stOk 0 := by
  obtain ⟨hquietAt, hresetAt, hringsAt, hcplQAt⟩ := h.cycleAt
  have hchecks := hquietAt.checksCycle
  rw [State.safetyCycle, h.cycleFinds]
  generalize (s.cycleAt.readbacks 0).outputsCycle true = v at hchecks ⊢
  have hquiet : v.Quiet := hquietAt.onlyIsland quietKeys_spareOutputs hchecks
  have hrings : v.rings = s.rings := hchecks.rings.trans hringsAt
  have hcplQ : v.cplQ = s.cplQ := hchecks.cplQ.trans hcplQAt
  have hreset' : v.saf.resets = [(src, some q)] := by rw [hchecks.saf, hresetAt, hreset]
  obtain ⟨hdem, hcode, hfault, hended⟩ :=
    hquiet.resetsEvaluated hreset' ((congrArg RingSt.started (State.ring_congr hrings q)).trans hx)
  have hinhibit := v.resetsEvaluated.inhibitUpdate_onlyIsland
  refine ⟨?_, ?_, ?_, State.inhibitUpdate_rd hdem, ?_⟩
  · rw [hinhibit.rd (by decide), hdem]
  · rw [hinhibit.rd (by decide), hcode]
  · rw [hinhibit.rd (by decide), hfault]
  · exact hended.congr ⟨hrings.symm, hcplQ.symm⟩ ⟨hinhibit.rings, hinhibit.cplQ⟩

/-! ### R393 -/

/-- Settles O56: PINH_N low is a latched demand, PINH_N high touches neither the demand nor the inhibit, and the cycle
of a quiet island grants the reset that a ring has asked for. -/
theorem pinhLatchesUntilReset : Obligations.PinhLatchesUntilReset := by
  unfold Obligations.PinhLatchesUntilReset
  refine ⟨fun a s hhigh hup => ?_, fun a s hlow hup => ?_, ?_⟩
  · obtain ⟨hlow, hpinh, hdem, hinh, hcode, hrec⟩ := State.pinhLatch_latched (s := { s with out := [] }) a hup
    exact ⟨_, exec_pinh a hhigh hup, hlow, hpinh, hdem, hinh, hcode, hrec⟩
  · have hrd : ∀ {f : Fld}, f.key 0 0 ∉ [SAF.STAT_PINH.key 0 0] → (s.ran (·.pinhRelease a)).rd f = s.rd f :=
      fun hf => (s.ran_rd _ _ 0 0).trans (State.pinhRelease_rd { s with out := [] } a hf)
    exact ⟨_, exec_pinhNRise a hlow hup, State.pinhRelease_pinhLow { s with out := [] } a, hrd (by decide),
      hrd (by decide), hrd (by decide)⟩
  · intro q x s hup hhigh hreset hx hact hreqs hbad hfresh hoff
    have hquiet : State.Quiet { s with out := [] } := ⟨hact, hreqs, hbad, hfresh, hhigh, hoff⟩
    obtain ⟨hdem, hcode, hfault, hinh, hended⟩ := hquiet.safetyCycle hreset hx
    have hrd : ∀ f : Fld, (s.ran (·.safetyCycle 0 true)).rd f =
        (State.safetyCycle { s with out := [] } 0 true).rd f := fun f => s.ran_rd _ f 0 0
    exact ⟨_, exec_safetyCycle 0 true hup, (hrd _).trans hdem, (hrd _).trans hcode, (hrd _).trans hfault,
      (hrd _).trans hinh, hended.congr ⟨rfl, rfl⟩ ⟨s.ran_rings _, s.ran_cplQ _⟩⟩

end Sys2Proof.Machine
end
